-- ==== Sys2Proof/Word.lean ====
section
/-! DEFINITION. The vocabulary of the JK316: bytes, digits, masks, and the names of keys and verifiers.

Keys are held by NAME, not by value (entry 8): the manual leaves wrapping, verifiers and random keys outside
itself and states only what the part sends, receives and keeps. The bytes a key has on the wire are a free
value (`Config.keyBytes`). -/

namespace Sys2Proof

/-- A byte of a frame. -/
abbrev Byte := BitVec 8

/-- A key of the pad, DIGIT 0 to DIGIT 9. -/
abbrev Digit := Fin 10

/-- A set of range indices 0 to 7: index k is bit k (10.5). -/
abbrev Mask := BitVec 8

/-- An index of the range table and of the key buffer. -/
abbrev RangeIx := Fin 8

/-- An index of the slot table. -/
abbrev SlotIx := Fin 5

/-- A context of the bridge's cipher engine. -/
abbrev CtxIx := Fin 4

/-- A sector number, 0 to 4,294,967,295. -/
abbrev Lba := BitVec 32

/-- A key, by name. `drive n` and `range n` are the keys the part generated n-th; `code ds salt` is the code key
derived from the digits `ds` for the slot whose verifier was made n-th (`salt`); `device` is the part's device key.
PRESUMED (entry 8): two generations never give the same key. -/
inductive Key where
  | device
  | drive (n : Nat)
  | range (n : Nat)
  | code (digits : List Digit) (salt : Nat)
  deriving DecidableEq, Repr

/-- `key` wrapped under `under`. -/
structure Wrapped where
  key : Key
  under : Key
  deriving DecidableEq, Repr

/-- A slot's verifier: the code it was derived from, and which making it was (a code enrolled again gets another
verifier, R51). -/
structure Verifier where
  digits : List Digit
  salt : Nat
  deriving DecidableEq, Repr

end Sys2Proof
end

