-- ==== Sys2Proof/Config.lean ====
section
/-! DEFINITION. The fixed durations of the manual, and the free values: constants without a body, so that no proof
can rest on a value the manual does not give (entries 9 and 17). -/

namespace Sys2Proof.Config

/-- The pairing window, 20 ms (R28). -/
def pairingMs : Nat := 20
/-- The chord time, 1 s (R29). -/
def chordMs : Nat := 1000
/-- The entry timer, 12 s (R33). -/
def entryMs : Nat := 12000
/-- The standby timer, 30 s (R44). -/
def standbyMs : Nat := 30000
/-- The admin session timer, 60 s (R96). -/
def sessionMs : Nat := 60000
/-- The key-load and purge reply timers, 20 ms (R130, R135). -/
def replyMs : Nat := 20
/-- The repeat timer of a READY parked query, 50 ms (R139). -/
def repeatMs : Nat := 50
/-- A back-off tick, 0.1 s, in milliseconds (R79). -/
def tickMs : Nat := 100
/-- The back-off checkpoint interval in ticks (R81). -/
def checkpointTicks : Nat := 100

/-- The 32 bytes of a key (R143, KEYLOAD). Free: the manual does not specify key generation (entry 9). -/
opaque keyBytes : Key → BitVec 256
/-- The bytes of a verifier in its cell (R48: an opaque value). Free (entry 9). -/
opaque verifierBytes : Verifier → List Byte
/-- The bytes of a wrapped key in its cell (R48, R103). Free (entry 9). -/
opaque wrappedBytes : Wrapped → List Byte
/-- The part's serial number, set at manufacture (R159). Free (entry 9). -/
opaque serialNumber : BitVec 64
/-- The part's product identity, set at manufacture (R159). Free (entry 9). -/
opaque productIdentity : BitVec 16
/-- The bytes after the result BUSY in a STATUS reply refused at gate 1, whose length the manual keeps and whose
contents it does not state (R185, R186). Free (entry 17). -/
opaque refusedStatusByte : Nat → Byte

end Sys2Proof.Config
end

