-- ==== Sys2Proof/Syntax.lean ====
section
/-! DEFINITION. The commands of the JK316: one constructor per row of spec/opcode_table.json, in the table's order.
The table gives the rows no operands; each constructor carries what its rule says the event carries. -/

namespace Sys2Proof

/-- A key of the four-by-three matrix. -/
inductive PadKey where
  | digit (d : Digit)
  | lock
  | unlock
  deriving DecidableEq, Repr

/-- The direction of an ACCESS query (R115). -/
inductive Direction where
  | read
  | write
  deriving DecidableEq, Repr

/-- What the cell of a write attempt holds when its read-back differs (R71, R161, R166, R167; entry 10). -/
inductive CellLeft where
  /-- the new image stands; the mismatch lay in the reading -/
  | newImage
  /-- the old image was left in place -/
  | oldImage
  /-- a damaged image -/
  | damagedImage
  deriving DecidableEq, Repr

/-- The read-back that ends a write attempt (R166). -/
inductive ReadBack where
  | agrees
  | differs (left : CellLeft)
  deriving DecidableEq, Repr

/-- Where a supply loss caught the write in progress (R168; entry 11). -/
inductive LossPoint where
  /-- the write is taken and its erase has not reached the cell: the cell keeps the image it held (R156) -/
  | beforeErase
  /-- step 1, erase -/
  | inErase
  /-- step 2, program -/
  | inProgram
  /-- step 3, the attempt matching: intact, holding the new value -/
  | inReadBackAgreeing
  /-- step 3, not matching: damaged -/
  | inReadBackDamaged
  /-- step 3, not matching, the mismatch lay in the reading: intact with the new value -/
  | inReadBackIntact
  deriving DecidableEq, Repr

/-- The commands. In the media commands `sent` says that the frame now at the head of the outbound queue was clocked
out on MISO in the transaction that this command ends (R174, R177; entry 13). -/
inductive Instr where
  /-- SUPPLY_START: the supply comes up with PFW found low or high (R170, R183). -/
  | supplyStart (pfwLow : Bool)
  /-- SUPPLY_LOSS: the supply fails, the write in progress caught at `point` (R168). -/
  | supplyLoss (point : LossPoint)
  /-- STORE_READY: the start-up read completes (R170). -/
  | storeReady
  /-- KEY_PRESS_ACCEPTED (R26, R27). -/
  | keyPressAccepted (key : PadKey)
  /-- KEY_RELEASE_ACCEPTED (R26, R27). -/
  | keyReleaseAccepted (key : PadKey)
  /-- PAIRING_TIMER_EXPIRY (R28). -/
  | pairingTimerExpiry
  /-- CHORD_TIMER_EXPIRY (R29). -/
  | chordTimerExpiry
  /-- ENTRY_TIMER_EXPIRY (R33). -/
  | entryTimerExpiry
  /-- STANDBY_TIMER_EXPIRY (R45). -/
  | standbyTimerExpiry
  /-- STORE_WRITE_END: a write attempt's read-back ends (R166). -/
  | storeWriteEnd (readBack : ReadBack)
  /-- VERIFICATION_COMPLETE (R51, R52). -/
  | verificationComplete
  /-- UNLOCK_COMPLETION: the unwrap completes (R10, R12). -/
  | unlockCompletion
  /-- ENROLL_BUILD_COMPLETE (R56). -/
  | enrollBuildComplete
  /-- FIRST_ENROLL_BUILD_COMPLETE (R59). -/
  | firstEnrollBuildComplete
  /-- BACKOFF_CHECKPOINT (R81). -/
  | backoffCheckpoint
  /-- BACKOFF_END (R80). -/
  | backoffEnd
  /-- IDLE_TIMER_EXPIRY (R93). -/
  | idleTimerExpiry
  /-- ATTACH_WINDOW_EXPIRY (R95). -/
  | attachWindowExpiry
  /-- ADMIN_SESSION_EXPIRY (R97). -/
  | adminSessionExpiry
  /-- MEDIA_TRANSACTION: a complete transaction without a bridge frame (R174). -/
  | mediaTransaction (sent : Bool)
  /-- TRANSACTION_ABANDONED: SSN rises after `bytes` bytes, fewer than 44 (R174). -/
  | transactionAbandoned (bytes : Nat)
  /-- MALFORMED_FRAME: the 44 bytes received on MOSI, which fail R175's checks. -/
  | malformedFrame (sent : Bool) (mosi : List Byte)
  /-- ACCESS (R115, R116). -/
  | access (sent : Bool) (tag : Byte) (lba : Lba) (count : BitVec 16) (dir : Direction)
  /-- ATTACH with the capacity in sectors (R179). -/
  | attach (sent : Bool) (capacity : BitVec 64)
  /-- DETACH (R14, R179). -/
  | detach (sent : Bool)
  /-- HOSTLOCK (R4). -/
  | hostlock (sent : Bool)
  /-- KEYACK: context, order number and result OK or FAIL (R131). -/
  | keyack (sent : Bool) (context : Byte) (order : Byte) (ok : Bool)
  /-- KEYLOAD_REPLY_TIMEOUT of a context's entry (R133). -/
  | keyloadReplyTimeout (context : CtxIx)
  /-- PURGEACK: context and order number (R135). -/
  | purgeack (sent : Bool) (context : Byte) (order : Byte)
  /-- PURGE_REPLY_TIMEOUT of a context's entry (R135). -/
  | purgeReplyTimeout (context : CtxIx)
  /-- REPEAT_TIMER_EXPIRY of the parked entry at this place of the queue (R139). -/
  | repeatTimerExpiry (entry : Nat)
  /-- SWEPT: start LBA, count and result (R151). -/
  | swept (sent : Bool) (start : Lba) (count : BitVec 16) (ok : Bool)
  /-- LINKRESET (R15). -/
  | linkreset (sent : Bool)
  /-- BAD_PANEL_REQUEST: the bytes written, which fail R181's checks. -/
  | badPanelRequest (bytes : List Byte)
  /-- STATUS (R189). -/
  | status
  /-- ACK with its two-byte flag set (R191). -/
  | ack (flags : BitVec 16)
  /-- SET ALERT ENABLES with its two-byte enable set (R191). -/
  | setAlertEnables (enables : BitVec 16)
  /-- LOCK request (R187). -/
  | lockRequest
  /-- RESTART request (R193). -/
  | restart
  /-- RESTART_TAKES_EFFECT, PFW found low or high (R169, R193). -/
  | restartTakesEffect (pfwLow : Bool)
  /-- ENROLL: slot, role code, mask, once code (R55). -/
  | enroll (slot role mask once : Byte)
  /-- REMOVE: slot (R61). -/
  | remove (slot : Byte)
  /-- SET RANGE: index, start, count (0 meaning TO_END), class, write policy and denial mode codes (R107). -/
  | setRange (index : Byte) (start count : Lba) (cls policy denial : Byte)
  /-- DROP RANGE: index (R109). -/
  | dropRange (index : Byte)
  /-- SET SETTINGS: field codes with two-byte values (R188). -/
  | setSettings (entries : List (Byte × BitVec 16))
  /-- ERASE request (R144). -/
  | erase
  /-- END SESSION request (R17). -/
  | endSession
  /-- PFW_EDGE: an accepted edge on PFW, the active one where the accepted level is high (R183; entry 12). -/
  | pfwEdge
  deriving DecidableEq, Repr

end Sys2Proof
end

