-- ==== Sys2Proof/WellFormed.lean ====
section
/-! DEFINITION. Which commands can stand for an event of their row: the limits that the frame formats and the block
tables put on their operands. A command that is not well-formed still has a meaning (entry 25). -/

namespace Sys2Proof

/-- The operands lie where the manual lets them lie: an ACCESS tag is 0 to 15 (R115, R175), an abandoned transaction
has fewer than 44 bytes (R174), a transaction carries 44 bytes (R174), a panel write carries a byte (R181), a parked
entry stands at place 0 to 3 (R137), a SET SETTINGS request names one to seven fields (R188). -/
def Instr.wellFormed : Instr → Bool
  | .access _ tag _ _ _ => tag.toNat ≤ 15
  | .transactionAbandoned bytes => bytes < 44
  | .malformedFrame _ mosi => mosi.length = 44
  | .badPanelRequest bytes => !bytes.isEmpty
  | .repeatTimerExpiry entry => entry < 4
  | .setSettings entries => 1 ≤ entries.length && entries.length ≤ 7
  | _ => true

end Sys2Proof
end

