-- ==== Sys2Proof/Decode.lean ====
section
/-! DEFINITION. The reading of a table word as a command. spec/opcode_table.json gives no row any bits, so no word
spells a command. The frames of the two serial ports, which do have encodings, are read and written in
Machine/Frames.lean. -/

namespace Sys2Proof

/-- The command that a word of `nbits` bits spells by the opcode table's bits: none, since no row of the table gives
bits. -/
def decodeTableWord (_nbits _w : Nat) : Option Instr := none

end Sys2Proof
end

