-- ==== Sys2Proof/Machine/Blocks.lean ====
section
/-! DEFINITION. The types of the JK316's blocks (00_scope.md, functional overview): what each holds, as plain data. -/

namespace Sys2Proof.Machine

/-! ### Timers -/

/-- A timer's condition (R89): RUNNING with its elapsed value in milliseconds, STOPPED, or HELD at zero. -/
inductive Timer where
  | running (elapsed : Nat)
  | stopped
  | held
  deriving DecidableEq, Repr

/-! ### Keypad Scanner -/

/-- The chord state (R28, R29). -/
inductive ChordState where
  | none | pairing | forming | formed | abandoned
  deriving DecidableEq, Repr

/-- The scan mode (R45). -/
inductive ScanMode where
  | full | wake
  deriving DecidableEq, Repr

/-- Keypad Scanner (02, R26 to R29). -/
structure Ksc where
  /-- debounced states: DIGIT d at place d, LOCK at 10, UNLOCK at 11; true is DOWN -/
  down : Vector Bool 12
  held : Option PadKey
  chord : ChordState
  pairingTimer : Timer
  chordTimer : Timer
  scanMode : ScanMode
  deriving DecidableEq, Repr

/-! ### Entry Unit -/

/-- The entry state (R30 to R41). -/
inductive EntryState where
  | idle | collecting | checking | holdoff
  deriving DecidableEq, Repr

/-- The purpose of an entry (02, 2.2). -/
inductive Purpose where
  | unlock | admin | enroll1 | enroll2
  deriving DecidableEq, Repr

/-- The rights a slot grants when it opens the lock (R48). -/
inductive Role where
  | admin | user | reader
  deriving DecidableEq, Repr

/-- An enrollment order (R31, R43). -/
structure EnrollOrder where
  slot : SlotIx
  role : Role
  mask : Mask
  once : Bool
  deriving DecidableEq, Repr

/-- Entry Unit (02, R30 to R47). -/
structure Enu where
  state : EntryState
  purpose : Option Purpose
  buffer : List Digit
  overlong : Bool
  confirm : List Digit
  order : Option EnrollOrder
  cancel : Bool
  entryTimer : Timer
  standbyTimer : Timer
  standby : Bool
  deriving DecidableEq, Repr

/-! ### Slot Table -/

/-- The fields of a slot record that outlive its verifier (R48). -/
structure SlotInfo where
  role : Role
  mask : Mask
  once : Bool
  codeLength : Nat
  deriving DecidableEq, Repr

/-- A slot record (R48). -/
inductive SlotRecord where
  | empty
  | enrolled (info : SlotInfo) (verifier : Verifier) (wrapped : Wrapped)
  | retired (info : SlotInfo)
  deriving DecidableEq, Repr

/-- One slot of the start snapshot: index, code length, verifier (R50). -/
structure SnapSlot where
  slot : SlotIx
  codeLength : Nat
  verifier : Verifier
  deriving DecidableEq, Repr

/-- The verification workspace (R50). `snapshot` is present while the verification is in flight; `voided` records
that an erasure has started since, so that the verification has no result (R54, R75; entry 19). -/
structure Verification where
  digits : List Digit
  purpose : Purpose
  snapshot : Option (List SnapSlot)
  voided : Bool
  deriving DecidableEq, Repr

/-- The match hold (R52). -/
structure MatchHold where
  codeKey : Key
  wrapped : Wrapped
  slot : SlotIx
  deriving DecidableEq, Repr

/-- The unwrap workspace (R62, R63), with the slot whose code opens the lock and whether the unlock opens the admin
session (R10 step 4). `first` marks the unwrap that follows first enrollment (R6). -/
structure Unwrap where
  driveKey : Option Key
  rangeKeys : Vector (Option Key) 8
  slot : SlotIx
  opensSession : Bool
  first : Bool
  discard : Bool
  deriving DecidableEq, Repr

/-! ### Range Table -/

/-- The class of a range (R103): PUBLIC, GUARDED, HIDDEN. -/
inductive RangeClass where
  | pub | guarded | hidden
  deriving DecidableEq, Repr

/-- The write policy of a range (R103). -/
inductive WritePolicy where
  | readWrite | readOnly
  deriving DecidableEq, Repr

/-- The denial mode of a range (R103). -/
inductive DenialMode where
  | deny | fill
  deriving DecidableEq, Repr

/-- The count of a range (R103): a number of sectors, or TO_END. -/
inductive RangeCount where
  | sectors (n : Lba)
  | toEnd
  deriving DecidableEq, Repr

/-- The fields of a DEFINED range record (R103). -/
structure RangeDef where
  start : Lba
  count : RangeCount
  cls : RangeClass
  policy : WritePolicy
  denial : DenialMode
  wrapped : Option Wrapped
  deriving DecidableEq, Repr

/-- A range record (R103). -/
inductive RangeRecord where
  | unused
  | defined (d : RangeDef)
  deriving DecidableEq, Repr

/-- Range Table (06, R103 to R114). -/
structure Rgt where
  live : Vector RangeRecord 8
  staged : Vector RangeRecord 8
  dirty : Bool
  deriving DecidableEq, Repr

/-! ### Attempt Guard -/

/-- The active part of a back-off record: count 1 to 20, elapsed 0 to 30,000 ticks (R78). -/
structure ActiveBackoff where
  count : Nat
  elapsed : Nat
  deriving DecidableEq, Repr

/-- The back-off record (04, R78, R82). -/
structure BackoffRecord where
  active : Option ActiveBackoff
  pfwSeen : Bool
  deriving DecidableEq, Repr

/-- The back-off timer: exact elapsed value in ticks, preset PT in ticks, the milliseconds counted within the present tick
(R79, entry 33), and the greatest multiple of 100 ticks that a checkpoint has recorded or that the timer had passed when it
started (R81). -/
structure BackoffTimer where
  elapsed : Nat
  preset : Nat
  phase : Nat
  checkpointed : Nat
  deriving DecidableEq, Repr

/-- The step a check has reached (R69). -/
inductive CheckStep where
  | charging | verifying | refunding
  deriving DecidableEq, Repr

/-- A check in progress (R69). -/
structure CheckInProgress where
  purpose : Purpose
  step : CheckStep
  deriving DecidableEq, Repr

/-- Attempt Guard (04, R67 to R88). -/
structure Atg where
  counter : Nat
  bko : BackoffRecord
  timer : Option BackoffTimer
  attFaulty : Bool
  check : Option CheckInProgress
  deriving DecidableEq, Repr

/-! ### Lock Controller -/

/-- The lock state (R1); `opened` is OPEN. Absent before store-ready. -/
inductive LockState where
  | blank | locked | openPending | opened | erasing
  deriving DecidableEq, Repr

/-- The reason of a lock event (R4). -/
inductive LockReason where
  | key | panel | host | detach | idle | window | supply | link | erase
  deriving DecidableEq, Repr

/-- One filled position of the key buffer (R20). -/
structure BufferKey where
  key : Key
  cls : RangeClass
  deriving DecidableEq, Repr

/-- Lock Controller (01, R1 to R25). -/
structure Lkc where
  lockState : Option LockState
  session : Bool
  sessionTimer : Timer
  windowTimer : Timer
  idleTimer : Timer
  keyBuffer : Vector (Option BufferKey) 8
  role : Option Role
  mask : Mask
  idnFault : Bool
  deriving DecidableEq, Repr

/-! ### Context Map and Deferred Query Queue -/

/-- A reply timer (R130, R135): stopped, set to start when the bridge has read the frame, or running. -/
inductive ReplyTimer where
  | stopped
  | onRead
  | running (elapsed : Nat)
  deriving DecidableEq, Repr

/-- A context entry (R126). The load tries are 0 except while LOADING. -/
inductive ContextEntry where
  | empty
  | loading (range : RangeIx) (order : Byte) (tries : Nat) (timer : ReplyTimer)
  | loaded (range : RangeIx) (order : Byte)
  | purging (range : RangeIx) (order : Byte) (timer : ReplyTimer)
  deriving DecidableEq, Repr

/-- Context Map (07, R126 to R136). -/
structure Cxm where
  entries : Vector ContextEntry 4
  /-- head (most recent) first -/
  lru : List CtxIx
  orderCounter : Byte
  deriving DecidableEq, Repr

/-- The reasons of a DENY (R115). -/
inductive DenyReason where
  | format | fault | erasing | blank | notReady | bounds | outside | locked | readOnly
  deriving DecidableEq, Repr

/-- The fields of an ACCESS query, which are also a parked query's match key (R115, R137). -/
structure Query where
  tag : Byte
  lba : Lba
  count : BitVec 16
  dir : Direction
  deriving DecidableEq, Repr

/-- A decision that can be stored or answered (R115, R137). `part` is the PARTIAL mark. -/
inductive Decision where
  | grant (context : CtxIx) (granted : Nat) (part : Bool)
  | fill (granted : Nat) (part : Bool)
  | deny (reason : DenyReason)
  deriving DecidableEq, Repr

/-- The state of a parked entry (R137): the decision, the stale mark and the repeat timer are present when READY. -/
inductive ParkedState where
  | waiting
  | ready (decision : Decision) (stale : Bool) (elapsed : Nat)
  deriving DecidableEq, Repr

/-- A parked query (R137). -/
structure Parked where
  query : Query
  range : RangeIx
  state : ParkedState
  deriving DecidableEq, Repr

/-! ### Erase Engine -/

/-- The phase of the erase journal (R146). -/
inductive Phase where
  | idle | zeroise | ranges | sweep
  deriving DecidableEq, Repr

/-- The erase journal record (R146). -/
structure Journal where
  phase : Phase
  next : Option Nat
  cursor : Option Lba
  sweepEnd : Option Lba
  incomplete : Bool
  deriving DecidableEq, Repr

/-- The sweep state (R150). -/
inductive SweepState where
  | paused | ordered | recording
  deriving DecidableEq, Repr

/-- A sweep order: start LBA and count of the chunk (R151). -/
structure SweepOrder where
  start : Lba
  count : Nat
  deriving DecidableEq, Repr

/-- The eighteen cells (R159). -/
inductive Cell where
  | att | bko | ejr
  | slt (k : SlotIx)
  | rng (k : RangeIx)
  | cfg | idn
  deriving DecidableEq, Repr

/-- Erase Engine (08, R144 to R158). `sweepOwed` records that the outbound queue has not yet taken the SWEEP frame of
the order, so that the engine queues it again at each read (R152). -/
structure Ere where
  journal : Journal
  awaited : Option Cell
  sweepState : Option SweepState
  order : Option SweepOrder
  retry : Nat
  sweepOwed : Bool
  deriving DecidableEq, Repr

/-! ### Store Controller -/

/-- The settings in cell CFG (R68, R90, R159): F, W failed checks; B, C, idle and attach window presets in seconds;
the sweep setting, true for ON. -/
structure Settings where
  F : Nat
  W : Nat
  B : Nat
  C : Nat
  idle : Nat
  window : Nat
  sweep : Bool
  deriving DecidableEq, Repr

/-- The contents of cell IDN (R171). -/
structure Identity where
  serial : BitVec 64
  deviceKey : Key
  product : BitVec 16
  deriving DecidableEq, Repr

/-- A cell image (R160, R168): in the erased state, partly erased or programmed, or written with a
sequence byte, contents and a check code. -/
inductive Image (α : Type) where
  | erased
  | torn
  | written (seq : Byte) (contents : α) (check : Byte)
  deriving DecidableEq, Repr

/-- The eighteen cell images (R159). -/
structure Cells where
  att : Image Nat
  bko : Image BackoffRecord
  ejr : Image Journal
  slt : Vector (Image SlotRecord) 5
  rng : Vector (Image RangeRecord) 8
  cfg : Image Settings
  idn : Image Identity
  deriving DecidableEq, Repr

/-- A write of one cell: which cell, and the contents it carries. IDN is not written (R171). -/
inductive CellWrite where
  | att (n : Nat)
  | bko (r : BackoffRecord)
  | ejr (j : Journal)
  | slt (k : SlotIx) (r : SlotRecord)
  | rng (k : RangeIx) (r : RangeRecord)
  | cfg (c : Settings)
  deriving DecidableEq, Repr

/-- Which protocol awaits the end of a write (R166). -/
inductive Awaiter where
  | charge | refund | retirement | firstEnrollment | erase
  deriving DecidableEq, Repr

/-- An entry of the store write queue or of the reserve list (R162, R164). -/
structure QueueEntry where
  write : CellWrite
  awaiter : Option Awaiter
  deriving DecidableEq, Repr

/-- The write in progress (R165): its entry, the attempt number 1 or 2, the sequence byte of its image. -/
structure WriteInProgress where
  entry : QueueEntry
  attempt : Nat
  seq : Byte
  deriving DecidableEq, Repr

/-- Store Controller (09, R159 to R173). The working copies of ATT, BKO, EJR, SLTk and RNGk are held by their blocks;
`seq` and `faulty` are indexed by `Cell.index`. -/
structure Stc where
  cells : Cells
  seq : Vector Byte 18
  faulty : Vector Bool 18
  queue : List QueueEntry
  reserve : List QueueEntry
  writing : Option WriteInProgress
  ready : Bool
  cfg : Settings
  idn : Option Identity
  deriving DecidableEq, Repr

/-! ### Slot Table, the build workspace -/

/-- The build workspace (R56, R59, R60). -/
inductive Build where
  /-- an enrollment build running; `doomed` records that an erasure has started since (R57, entry 19) -/
  | enrolling (code : List Digit) (order : EnrollOrder) (driveKey : Key) (doomed : Bool)
  /-- a completed enrollment whose write the store refused, held for re-offer (R56) -/
  | enrollHeld (slot : SlotIx) (record : SlotRecord)
  /-- a first-enrollment build running (R59) -/
  | firstBuilding (code : List Digit)
  /-- a first enrollment whose writes are under way: those refused and held, whether one has failed, and what the
  match hold will take (R59, R60) -/
  | firstWriting (held : List CellWrite) (failed : Bool) (codeKey : Key) (wrapped : Wrapped)
  /-- a refused first enrollment whose EMPTY write of SLT0 is held for re-offer (R60) -/
  | firstRefused
  deriving DecidableEq, Repr

/-- Slot Table (03, R48 to R66). `heldRetirement` is the slot whose retirement write the store refused and SLT holds
for re-offer (R53). -/
structure Slt where
  slots : Vector SlotRecord 5
  verification : Option Verification
  matchHold : Option MatchHold
  unwrap : Option Unwrap
  build : Option Build
  heldRetirement : Option SlotIx
  driveKey : Option Key
  deriving DecidableEq, Repr

/-! ### Ports -/

/-- A frame for the bridge (10.5). -/
inductive OutFrame where
  | grant (tag : Byte) (context : CtxIx) (granted : Nat) (part : Bool)
  | fill (tag : Byte) (granted : Nat) (part : Bool)
  | deny (tag : Byte) (reason : DenyReason)
  | retry (tag : Byte)
  /-- ERROR with reason FORMAT: the type received and the tag, FFh when absent (R175) -/
  | error (received tag : Byte)
  | keyload (context : CtxIx) (order : Byte) (key : Key)
  | purge (context : CtxIx) (order : Byte)
  | sweep (start : Lba) (count : Nat)
  | state (l : LockState)
  deriving DecidableEq, Repr

/-- Media Port (10, R174 to R180). -/
structure Mpt where
  transaction : Option Nat
  outbound : List OutFrame
  statePending : Bool
  attached : Bool
  capacity : Option (BitVec 64)
  deriving DecidableEq, Repr

/-- A reply frame of the panel port: its type and its payload (10.5). -/
structure Reply where
  type : Byte
  payload : List Byte
  deriving DecidableEq, Repr

/-- The start cause (R192). -/
inductive StartCause where
  | supply | supplyAfterPfw | restart
  deriving DecidableEq, Repr

/-- Panel Port (10, R181 to R183; 11, R185 to R194). -/
structure Ppt where
  request : Option (List Byte)
  reply : Reply
  flags : BitVec 12
  enables : BitVec 12
  startCause : StartCause
  unresolved : Bool
  restartPending : Bool
  pfwLow : Bool
  pfwPending : Bool
  deriving DecidableEq, Repr

end Sys2Proof.Machine
end

