-- ==== Sys2Proof/Machine/Bytes.lean ====
section
/-! DEFINITION. Bytes: the check code (00_scope.md, Conventions), numbers as bytes, the coded values (10.5), and the bytes
of the records that STATUS and the cells share. -/

namespace Sys2Proof.Machine

/-! ### Bytes -/

/-- One bit of the CRC-8 division by x^8 + x^2 + x + 1 (00_scope.md, Conventions). -/
def crcShift (c : Byte) : Byte := if c.msb then (c <<< 1) ^^^ 0x07#8 else c <<< 1

/-- The CRC-8 of a list of bytes: initial value 00h, no final inversion, most significant bit first. -/
def crc8 (bytes : List Byte) : Byte :=
  bytes.foldl (fun c b => crcShift (crcShift (crcShift (crcShift (crcShift (crcShift (crcShift (crcShift (c ^^^ b))))))))) 0

/-- A number as `n` bytes, most significant first (10.5). -/
def beBytes : Nat → Nat → List Byte
  | 0, _ => []
  | n + 1, v => BitVec.ofNat 8 (v / 256 ^ n) :: beBytes n v

/-- The number that bytes spell, most significant first. -/
def beValue (bytes : List Byte) : Nat := bytes.foldl (fun v b => v * 256 + b.toNat) 0

/-! ### Codes (10.5) -/

/-- Role codes (ENROLL, STATUS). -/
def Role.code : Role → Byte
  | .admin => 0x00 | .user => 0x01 | .reader => 0x02

/-- Class codes (SET RANGE). -/
def RangeClass.code : RangeClass → Byte
  | .pub => 0x00 | .guarded => 0x01 | .hidden => 0x02

/-- Write policy codes (SET RANGE). -/
def WritePolicy.code : WritePolicy → Byte
  | .readWrite => 0x00 | .readOnly => 0x01

/-- Denial mode codes (SET RANGE). -/
def DenialMode.code : DenialMode → Byte
  | .deny => 0x00 | .fill => 0x01

/-- The code of a yes or no, of a mark and of a flag. -/
def boolCode (b : Bool) : Byte := if b then 0x01 else 0x00

/-- Lock state codes (STATE, STATUS). -/
def LockState.code : LockState → Byte
  | .blank => 0x00 | .locked => 0x01 | .openPending => 0x02 | .opened => 0x03 | .erasing => 0x04

/-- DENY reason codes. -/
def DenyReason.code : DenyReason → Byte
  | .format => 0x01 | .fault => 0x02 | .erasing => 0x03 | .blank => 0x04 | .notReady => 0x05 | .bounds => 0x06
  | .outside => 0x07 | .locked => 0x08 | .readOnly => 0x09

/-- Entry state codes (STATUS). -/
def EntryState.code : EntryState → Byte
  | .idle => 0x00 | .collecting => 0x01 | .checking => 0x02 | .holdoff => 0x03

/-- Purpose codes (STATUS). -/
def Purpose.code : Purpose → Byte
  | .unlock => 0x00 | .admin => 0x01 | .enroll1 => 0x02 | .enroll2 => 0x03

/-- Erase phase codes (STATUS). -/
def Phase.code : Phase → Byte
  | .idle => 0x00 | .zeroise => 0x01 | .ranges => 0x02 | .sweep => 0x03

/-- Start cause codes (STATUS). -/
def StartCause.code : StartCause → Byte
  | .supply => 0x00 | .supplyAfterPfw => 0x01 | .restart => 0x02

/-! ### Records as bytes -/

/-- A byte of an absent value reads FFh. -/
def orFF (b : Option Byte) : Byte := b.getD 0xFF

/-- The five bytes of a slot in STATUS (10.5). -/
def SlotRecord.statusBytes (r : SlotRecord) : List Byte :=
  match r with
  | .empty => [0x00, 0xFF, 0xFF, 0xFF, 0xFF]
  | .enrolled i _ _ => [0x01, i.role.code, i.mask, boolCode i.once, BitVec.ofNat 8 i.codeLength]
  | .retired i => [0x02, i.role.code, i.mask, boolCode i.once, BitVec.ofNat 8 i.codeLength]

/-- The settings in STATUS, bytes 65 to 73. -/
def Settings.statusBytes (c : Settings) : List Byte :=
  [BitVec.ofNat 8 c.F, BitVec.ofNat 8 c.W, BitVec.ofNat 8 c.B] ++ beBytes 2 c.C ++ beBytes 2 c.idle ++
    [BitVec.ofNat 8 c.window, boolCode c.sweep]

end Sys2Proof.Machine
end

