-- ==== Sys2Proof/Machine/Cells.lean ====
section
/-! DEFINITION. The eighteen cells (09, 9.1): which records lie in range, the images with their check codes, what a write
and a supply loss leave. -/

namespace Sys2Proof.Machine

/-! ### The factory records (R113) -/

/-- The factory record of index 0 with the given wrapped key (R113). -/
def RangeRecord.factoryZero (wrapped : Option Wrapped) : RangeRecord :=
  .defined { start := 0, count := .toEnd, cls := .guarded, policy := .readWrite, denial := .deny, wrapped := wrapped }

/-- The factory record of each index, range 0 without a wrapped key (R113). -/
def RangeRecord.factory (k : RangeIx) : RangeRecord := if k = 0 then .factoryZero none else .unused

/-! ### Cells (R159, R160) -/

/-- The place of a cell among the eighteen. -/
def Cell.index : Cell → Fin 18
  | .att => 0
  | .bko => 1
  | .ejr => 2
  | .slt k => ⟨3 + k.val, by omega⟩
  | .rng k => ⟨8 + k.val, by omega⟩
  | .cfg => 16
  | .idn => 17

/-- The guard group is ATT, BKO and EJR (R159). -/
def Cell.isGuard : Cell → Bool
  | .att | .bko | .ejr => true
  | _ => false

/-- The cell a write names. -/
def CellWrite.cell : CellWrite → Cell
  | .att _ => .att
  | .bko _ => .bko
  | .ejr _ => .ejr
  | .slt k _ => .slt k
  | .rng k _ => .rng k
  | .cfg _ => .cfg

/-- The cell a waiting write names. -/
def QueueEntry.cell (e : QueueEntry) : Cell := e.write.cell

/-- Every field of the attempt counter in its range (R159). -/
def attInRange (n : Nat) : Bool := n ≤ 20

/-- Every field of a back-off record in its range (R159, R160). -/
def BackoffRecord.inRange (r : BackoffRecord) : Bool :=
  match r.active with
  | none => true
  | some a => 1 ≤ a.count && a.count ≤ 20 && a.elapsed ≤ 30000

/-- Every field of a journal in its range and present as its phase requires: the next index is 0 to 7 in ZEROISE and in
RANGES (R146, R160; entry 28). -/
def Journal.inRange (j : Journal) : Bool :=
  match j.phase with
  | .idle => j.next.isNone && j.sweepEnd.isNone && (j.cursor.isSome == j.incomplete)
  | .zeroise | .ranges => (match j.next with | some k => k ≤ 7 | none => false) && j.cursor.isNone && j.sweepEnd.isNone
  | .sweep => j.next.isNone && (j.cursor.isSome == j.sweepEnd.isSome)

/-- The fields a slot's record may carry (R48, R160). -/
def SlotInfo.inRange (k : SlotIx) (i : SlotInfo) : Bool :=
  6 ≤ i.codeLength && i.codeLength ≤ 15 &&
  (if k = 0 then i.role = .admin && i.mask = BitVec.allOnes 8 && !i.once else !(i.role = .admin))

/-- Every field of slot k's record in its range; slot 0 cannot be RETIRED (R48, R160). -/
def SlotRecord.inRange (k : SlotIx) : SlotRecord → Bool
  | .empty => true
  | .enrolled i _ _ => i.inRange k
  | .retired i => k ≠ 0 && i.inRange k

/-- start + count is at most 4,294,967,296 for a record with a count (R105 condition 3). -/
def RangeDef.fits (d : RangeDef) : Bool :=
  match d.count with
  | .sectors n => d.start.toNat + n.toNat ≤ 4294967296
  | .toEnd => true

/-- Every field of range record k in its range; only the factory record of index 0 may lack a wrapped key (R160). -/
def RangeRecord.inRange (k : RangeIx) : RangeRecord → Bool
  | .unused => true
  | .defined d =>
    (match d.count with | .sectors n => n != 0 | .toEnd => true) && d.fits &&
    !(d.cls = .hidden && d.denial = .fill) &&
    (d.wrapped.isSome || (k = 0 && RangeRecord.defined d = RangeRecord.factoryZero none))

/-- Every setting in its range, and W at least F+2 (R68, R90, R160). -/
def Settings.inRange (c : Settings) : Bool :=
  1 ≤ c.F && c.F ≤ 18 && c.F + 2 ≤ c.W && c.W ≤ 20 && 1 ≤ c.B && c.B ≤ 60 && 60 ≤ c.C && c.C ≤ 3000 &&
  c.idle ≤ 32767 && 5 ≤ c.window && c.window ≤ 120

/-! ### Images (R160) -/

/-- How a cell's contents stand in its image: their bytes, and whether every field lies in its range. -/
structure CellFormat (α : Type) where
  bytes : α → List Byte
  inRange : α → Bool

/-- The check code of an image: the CRC-8 of the sequence byte followed by the contents (R160). -/
def CellFormat.check {α : Type} (f : CellFormat α) (seq : Byte) (contents : α) : Byte := crc8 (seq :: f.bytes contents)

/-- The image that a write programs: sequence byte, contents, and the check code computed over both (R160, R166). -/
def CellFormat.image {α : Type} (f : CellFormat α) (seq : Byte) (contents : α) : Image α :=
  .written seq contents (f.check seq contents)

/-- The contents of an intact image; none for a damaged one. An image is intact when its check code matches, it is not
in the erased state, and every field is in its range (R160). -/
def Image.read {α : Type} (f : CellFormat α) : Image α → Option α
  | .written q c k => if k = f.check q c && f.inRange c then some c else none
  | _ => none

/-- The sequence byte of an image; 00h for one that carries none (R170). -/
def Image.seqByte {α : Type} : Image α → Byte
  | .written q _ _ => q
  | _ => 0

/-! ### The formats of the cells (R159; their byte layout is the model's, entry 7) -/

/-- A number of `n` bytes that may be absent: FFh bytes where it is. -/
def optBytes (n : Nat) (v : Option Nat) : List Byte :=
  match v with
  | some v => beBytes n v
  | none => List.replicate n 0xFF

/-- ATT: the counter. -/
def attFormat : CellFormat Nat := { bytes := beBytes 1, inRange := attInRange }

/-- BKO: active mark, count, elapsed ticks, PFW-seen mark. -/
def bkoFormat : CellFormat BackoffRecord :=
  { bytes := fun r => boolCode r.active.isSome :: optBytes 1 (r.active.map ActiveBackoff.count) ++
      optBytes 2 (r.active.map ActiveBackoff.elapsed) ++ [boolCode r.pfwSeen],
    inRange := BackoffRecord.inRange }

/-- EJR: phase, next index, sweep cursor, sweep end, sweep-incomplete mark. -/
def ejrFormat : CellFormat Journal :=
  { bytes := fun j => j.phase.code :: optBytes 1 j.next ++ optBytes 4 (j.cursor.map BitVec.toNat) ++
      optBytes 4 (j.sweepEnd.map BitVec.toNat) ++ [boolCode j.incomplete],
    inRange := Journal.inRange }

/-- The bytes of the parts of a slot record that STATUS does not carry: the free bytes of its verifier and its wrapped
drive key (entry 9). A record without the two, EMPTY or RETIRED, adds no byte for them: their width is not given, so that
the FFh bytes of the other absent fields cannot stand for them (the model's choice, entry 7). -/
def SlotRecord.secretBytes : SlotRecord → List Byte
  | .enrolled _ v w => Config.verifierBytes v ++ Config.wrappedBytes w
  | _ => []

/-- SLTk: state, role, mask, once, code length, verifier, wrapped drive key. -/
def sltFormat (k : SlotIx) : CellFormat SlotRecord :=
  { bytes := fun r => r.statusBytes ++ r.secretBytes, inRange := SlotRecord.inRange k }

/-- The bytes of a count, 0 for TO_END as SET RANGE codes it. -/
def RangeCount.bytes : RangeCount → List Byte
  | .sectors n => beBytes 4 n.toNat
  | .toEnd => beBytes 4 0

/-- The free bytes of a wrapped range key (entry 9); an absent one adds no byte (the model's choice, entry 7). -/
def wrappedKeyBytes : Option Wrapped → List Byte
  | some w => Config.wrappedBytes w
  | none => []

/-- RNGk: state, start, count, class, write policy, denial mode, wrapped range key. An UNUSED record has FFh bytes for its
absent fields and no byte for the wrapped key (the model's choice, entry 7). -/
def rngFormat (k : RangeIx) : CellFormat RangeRecord :=
  { bytes := fun r => match r with
      | .unused => 0x00 :: List.replicate 11 0xFF
      | .defined d => 0x01 :: beBytes 4 d.start.toNat ++ d.count.bytes ++ [d.cls.code, d.policy.code, d.denial.code] ++
          wrappedKeyBytes d.wrapped,
    inRange := RangeRecord.inRange k }

/-- CFG: the seven settings. -/
def cfgFormat : CellFormat Settings := { bytes := Settings.statusBytes, inRange := Settings.inRange }

/-- IDN: serial number, device key, product identity. -/
def idnFormat : CellFormat Identity :=
  { bytes := fun i => beBytes 8 i.serial.toNat ++ beBytes 32 (Config.keyBytes i.deviceKey).toNat ++
      beBytes 2 i.product.toNat,
    inRange := fun _ => true }

/-! ### Writes to the cells (R166, R168) -/

/-- A write's new image stands in its cell (R166). -/
def Cells.put (c : Cells) (w : CellWrite) (seq : Byte) : Cells :=
  match w with
  | .att n => { c with att := attFormat.image seq n }
  | .bko r => { c with bko := bkoFormat.image seq r }
  | .ejr j => { c with ejr := ejrFormat.image seq j }
  | .slt k r => { c with slt := c.slt.set k ((sltFormat k).image seq r) }
  | .rng k r => { c with rng := c.rng.set k ((rngFormat k).image seq r) }
  | .cfg s => { c with cfg := cfgFormat.image seq s }

/-- A cell is left partly erased or partly programmed (R168). -/
def Cells.tear (c : Cells) (w : CellWrite) : Cells :=
  match w with
  | .att _ => { c with att := .torn }
  | .bko _ => { c with bko := .torn }
  | .ejr _ => { c with ejr := .torn }
  | .slt k _ => { c with slt := c.slt.set k .torn }
  | .rng k _ => { c with rng := c.rng.set k .torn }
  | .cfg _ => { c with cfg := .torn }

/-- What a write attempt whose read-back differs leaves in the cell: the new image, the old one or a damaged one, as
STORE_WRITE_END says (R71, R161, R166 to R168; entry 10). -/
def Cells.afterMismatch (c : Cells) (w : CellWrite) (seq : Byte) : CellLeft → Cells
  | .newImage => c.put w seq
  | .oldImage => c
  | .damagedImage => c.tear w

/-- A rule says of the write that its cell reads damaged once it has ended as failed: of CFG (R90), of EJR (R147, R154), of
RNGk written by an install (R112) or by the erase engine (R147), and of SLTk written by a retirement (R53) or by the
engine (R147). A failed refund leaves the charged value or a damaged image, so that a new value which stands counts as
damaged too (R73). That these rules are followed beside R161 and R167, which have a cell damaged only if the failed
attempts left it so, is the model's reading (entry 10); it follows R161 and R167 for every other write. -/
def Cells.failureDamages (c : Cells) (e : QueueEntry) : Bool :=
  match e.write with
  | .att n => e.awaiter = some .refund && c.att.read attFormat = some n
  | .bko _ => false
  | .ejr _ | .cfg _ => true
  | .slt _ _ => e.awaiter = some .retirement || e.awaiter = some .erase
  | .rng _ _ => e.awaiter != some .firstEnrollment

/-- The cells once a write has ended as failed, its last attempt having left `c` (R53, R73, R90, R112, R147, R154, R161,
R167; entry 10). -/
def Cells.afterFailure (c : Cells) (e : QueueEntry) : Cells := if c.failureDamages e then c.tear e.write else c

/-- What a supply loss leaves in the cell of the write in progress (R156, R168; entry 11). -/
def Cells.afterLoss (c : Cells) (w : WriteInProgress) : LossPoint → Cells
  | .beforeErase => c
  | .inErase | .inProgram | .inReadBackDamaged => c.tear w.entry.write
  | .inReadBackAgreeing | .inReadBackIntact => c.put w.entry.write w.seq

end Sys2Proof.Machine
end

