-- ==== Sys2Proof/Machine/StartValues.lean ====
section
/-! DEFINITION. The value of each block after a supply start or a RESTART, before store-ready, and the cells as they
leave manufacture. Placeholders for values the manual calls absent are DESIGN CHOICE (entry 5), unsafe. -/

namespace Sys2Proof.Machine

/-- KSC after a start (R26, R47). -/
def Ksc.start : Ksc :=
  { down := Vector.replicate 12 false, held := none, chord := .none, pairingTimer := .stopped,
    chordTimer := .stopped, scanMode := .full }

/-- ENU after a start (R47). -/
def Enu.start : Enu :=
  { state := .idle, purpose := none, buffer := [], overlong := false, confirm := [], order := none, cancel := false,
    entryTimer := .stopped, standbyTimer := .held, standby := false }

/-- SLT after a start (R66); the records are absent. -/
def Slt.start : Slt :=
  { slots := Vector.replicate 5 .empty, verification := none, matchHold := none, unwrap := none, build := none,
    heldRetirement := none, driveKey := none }

/-- An inactive back-off record with PFW-seen clear. -/
def BackoffRecord.inactive : BackoffRecord := { active := none, pfwSeen := false }

/-- ATG after a start (R87); counter and record are absent. -/
def Atg.start : Atg :=
  { counter := 0, bko := .inactive, timer := none, attFaulty := false, check := none }

/-- LKC after a start (R24). -/
def Lkc.start : Lkc :=
  { lockState := none, session := false, sessionTimer := .held, windowTimer := .stopped, idleTimer := .held,
    keyBuffer := Vector.replicate 8 none, role := none, mask := 0, idnFault := false }

/-- RGT after a start (R114); the tables are absent. -/
def Rgt.start : Rgt :=
  { live := Vector.replicate 8 .unused, staged := Vector.replicate 8 .unused, dirty := false }

/-- CXM after a start (R127, R142). -/
def Cxm.start : Cxm :=
  { entries := Vector.replicate 4 .empty, lru := [0, 1, 2, 3], orderCounter := 0 }

/-- The journal IDLE with the mark clear, cursor and sweep end absent (R146). -/
def Journal.atRest : Journal :=
  { phase := .idle, next := none, cursor := none, sweepEnd := none, incomplete := false }

/-- ERE after a start (R158); the journal is absent. -/
def Ere.start : Ere :=
  { journal := .atRest, awaited := none, sweepState := none, order := none, retry := 0, sweepOwed := false }

/-- The factory settings (R159). -/
def Settings.factory : Settings :=
  { F := 3, W := 10, B := 15, C := 1920, idle := 900, window := 30, sweep := false }

/-- The cells as they leave manufacture: sequence byte 00h and a matching check code (R159). Serial number and product
identity are free (entry 9). -/
def Cells.manufacture : Cells :=
  { att := attFormat.image 0 0, bko := bkoFormat.image 0 .inactive, ejr := ejrFormat.image 0 .atRest,
    slt := Vector.replicate 5 ((sltFormat 0).image 0 .empty),
    rng := (Vector.replicate 8 ((rngFormat 0).image 0 .unused)).set 0 ((rngFormat 0).image 0 (.factoryZero none)),
    cfg := cfgFormat.image 0 .factory,
    idn := idnFormat.image 0
      { serial := Config.serialNumber, deviceKey := .device, product := Config.productIdentity } }

/-- STC after a start, over the cells as last written (R170, R173); the working copies are absent. -/
def Stc.start (cells : Cells) : Stc :=
  { cells := cells, seq := Vector.replicate 18 0, faulty := Vector.replicate 18 false, queue := [], reserve := [],
    writing := none, ready := false, cfg := .factory, idn := none }

/-- MPT after a start (R184). -/
def Mpt.start : Mpt :=
  { transaction := none, outbound := [], statePending := false, attached := false, capacity := none }

/-- The NONE frame (10.5). -/
def Reply.noneFrame : Reply := { type := 0x00, payload := [] }

/-- PPT after a start of the given cause, PFW found low or high (R181, R183, R190, R192, R194). -/
def Ppt.start (cause : StartCause) (pfwLow : Bool) : Ppt :=
  { request := none, reply := .noneFrame, flags := 0, enables := BitVec.allOnes 12, startCause := cause,
    unresolved := false, restartPending := false, pfwLow := pfwLow, pfwPending := false }

end Sys2Proof.Machine
end

