-- ==== Sys2Proof/Machine/State.lean ====
section
/-! DEFINITION. The state of the JK316: one record per block of the functional overview (00_scope.md), plain data,
and the queue of commands that wait. A value the manual calls absent before store-ready stands in a field that then
holds a placeholder and is not read (entry 5). -/

namespace Sys2Proof.Machine

/-- The reasons a step stops with a fault: none. The manual describes no behaviour that stops the part; what it calls
faults (faulty marks, the IDN fault, STORE_FAULT, KEYLOAD_FAULT) are state. -/
inductive Fault where
  deriving DecidableEq, Repr

/-- The reasons a step is refused. -/
inductive Refusal where
  /-- Raised by an arm of `exec` whose command has no meaning yet; safe. No arm raises it. -/
  | notModelled (mnemonic : String)
  deriving DecidableEq, Repr

/-- The state of the part. -/
structure State where
  ksc : Ksc
  enu : Enu
  slt : Slt
  atg : Atg
  lkc : Lkc
  rgt : Rgt
  cxm : Cxm
  /-- the deferred query queue, in the order parked (R137) -/
  dqq : List Parked
  ere : Ere
  stc : Stc
  mpt : Mpt
  ppt : Ppt
  /-- the supply is up (entry 6) -/
  powered : Bool
  /-- how many keys and verifiers have been generated (entry 8) -/
  freshCount : Nat
  /-- the commands that wait, first in, first out -/
  pending : List Instr
  deriving DecidableEq, Repr

/-- The part right after a supply start, before store-ready, with its cells as they left manufacture, PFW high, and no
command waiting (R24, R47, R66, R87, R101, R114, R142, R158, R173, R184, R194; entry 5). -/
def State.reset : State :=
  { ksc := .start, enu := .start, slt := .start, atg := .start, lkc := .start, rgt := .start, cxm := .start,
    dqq := [], ere := .start, stc := .start .manufacture, mpt := .start, ppt := .start .supply false,
    powered := true, freshCount := 0, pending := [] }

end Sys2Proof.Machine
end

