-- ==== Sys2Proof/Machine/Flags.lean ====
section
/-! DEFINITION. The twelve alert flags, their enables and the ALERT line (R182, R190, R191). -/

namespace Sys2Proof.Machine

/-- The alert flags, in the order of their bits from value 1 upward (10.5). -/
inductive Flag where
  | locked | opened | attemptFailed | holdoffEnded | eraseStarted | eraseDone
  | enrollDone | enrollFailed | storeFault | discard | keyloadFault | supply
  deriving DecidableEq, Repr

/-- The place of a flag in a flag set (10.5). -/
def Flag.place : Flag → Fin 12
  | .locked => 0 | .opened => 1 | .attemptFailed => 2 | .holdoffEnded => 3 | .eraseStarted => 4 | .eraseDone => 5
  | .enrollDone => 6 | .enrollFailed => 7 | .storeFault => 8 | .discard => 9 | .keyloadFault => 10 | .supply => 11

/-- The flag set that names one flag. -/
def Flag.bit (f : Flag) : BitVec 12 := 1#12 <<< f.place.val

/-- A flag becomes pending; it stays so if it already is (R190). -/
def Ppt.setFlag (p : Ppt) (f : Flag) : Ppt := { p with flags := p.flags ||| f.bit }

/-- Whether a flag is pending. -/
def Ppt.isPending (p : Ppt) (f : Flag) : Bool := p.flags.getLsbD f.place

/-- ACK: each flag named becomes clear (R191). -/
def Ppt.acknowledge (p : Ppt) (named : BitVec 12) : Ppt := { p with flags := p.flags &&& ~~~named }

/-- SET ALERT ENABLES replaces all twelve enables (R191). -/
def Ppt.replaceEnables (p : Ppt) (e : BitVec 12) : Ppt := { p with enables := e }

/-- A flag is set at the panel port. -/
def State.setFlag (s : State) (f : Flag) : State := { s with ppt := s.ppt.setFlag f }

/-- A flag is set where the condition holds. -/
def State.setFlagIf (s : State) (c : Bool) (f : Flag) : State :=
  { s with ppt := { s.ppt with flags := if c then (s.ppt.setFlag f).flags else s.ppt.flags } }

/-- ALERT is driven low while a flag whose enable is set is pending (R182). -/
def State.alertLow (s : State) : Bool := s.ppt.flags &&& s.ppt.enables != 0

end Sys2Proof.Machine
end

