-- ==== Sys2Proof/Machine/Ops.lean ====
section
/-! DEFINITION. The small operations every block uses: tables over the fixed index ranges, timers, keys and verifiers,
masks, the outbound frame queue, the admin session, the reply buffer. -/

namespace Sys2Proof.Machine

/-! ### Tables over the index ranges -/

/-- The four contexts in ascending order. -/
def allCtx : List CtxIx := [0, 1, 2, 3]

/-- The five slots in ascending order. -/
def allSlots : List SlotIx := [0, 1, 2, 3, 4]

/-- The eight range indices in ascending order. -/
def allRanges : List RangeIx := [0, 1, 2, 3, 4, 5, 6, 7]

/-- A table over the contexts. -/
def tab4 {α : Type} (f : CtxIx → α) : Vector α 4 := #v[f 0, f 1, f 2, f 3]

/-- A table over the slots. -/
def tab5 {α : Type} (f : SlotIx → α) : Vector α 5 := #v[f 0, f 1, f 2, f 3, f 4]

/-- A table over the range indices. -/
def tab8 {α : Type} (f : RangeIx → α) : Vector α 8 := #v[f 0, f 1, f 2, f 3, f 4, f 5, f 6, f 7]

/-- Whether a set of range indices holds an index. -/
def maskHas (m : Mask) (k : RangeIx) : Bool := m.getLsbD k

/-- The place of a key among the debounced states. -/
def padIndex : PadKey → Fin 12
  | .digit d => ⟨d.val, by omega⟩
  | .lock => 10
  | .unlock => 11

/-! ### Timers (R89) -/

/-- A restart returns a RUNNING timer's elapsed value to zero; it does not start a timer at rest. -/
def Timer.restarted : Timer → Timer
  | .running _ => .running 0
  | t => t

/-- Whether a timer is RUNNING. -/
def Timer.isRunning : Timer → Bool
  | .running _ => true
  | _ => false

/-- Whether a timer is RUNNING with its elapsed value at or above a preset. -/
def Timer.reached (t : Timer) (preset : Nat) : Bool :=
  match t with
  | .running e => preset ≤ e
  | _ => false

/-- One millisecond passes: a RUNNING timer counts. -/
def Timer.tick : Timer → Timer
  | .running e => .running (e + 1)
  | t => t

/-! ### Keys and verifiers (entry 8) -/

/-- The recovery of a key from its wrapped form under another key: it is recovered under the key that wrapped it, and
under no other (R62). -/
def unwrapKey (w : Wrapped) (under : Key) : Option Key := if w.under = under then some w.key else none

/-- A verifier accepts the code it was derived from, and no other (R50, R51). -/
def verifierAccepts (v : Verifier) (digits : List Digit) : Bool := v.digits == digits

/-- The code key derived from an entry and a slot (R50). -/
def codeKeyFor (v : Verifier) (digits : List Digit) : Key := .code digits v.salt

/-! ### The outbound frame queue (R177, R178) -/

/-- GRANT, FILL, DENY, RETRY and ERROR are answer frames (R177). -/
def OutFrame.isAnswer : OutFrame → Bool
  | .grant _ _ _ _ | .fill _ _ _ | .deny _ _ | .retry _ | .error _ _ => true
  | .keyload _ _ _ | .purge _ _ | .sweep _ _ | .state _ => false

/-- Whether a frame is a STATE notice. -/
def OutFrame.isState : OutFrame → Bool
  | .state _ => true
  | _ => false

/-- Whether a frame is a KEYLOAD for a context. -/
def OutFrame.isKeyloadFor (i : CtxIx) : OutFrame → Bool
  | .keyload c _ _ => c = i
  | _ => false

/-- Whether a frame is a SWEEP order. -/
def OutFrame.isSweep : OutFrame → Bool
  | .sweep _ _ => true
  | _ => false

/-- The length of the outbound queue (R177). -/
def outboundLimit : Nat := 8

/-- An order frame joins the tail; a STATE notice that is queued clears the STATE-pending mark (R178). -/
def Mpt.appendOrder (m : Mpt) (f : OutFrame) : Mpt :=
  { m with outbound := m.outbound ++ [f], statePending := if f.isState then false else m.statePending }

/-- An order frame is offered to the outbound queue (R177, R178): the port afterwards, and whether the frame was taken.
In a full queue the oldest STATE notice gives way; without one a STATE notice becomes pending and any other frame is
not taken. -/
def Mpt.offerOrder (m : Mpt) (f : OutFrame) : Mpt × Bool :=
  if m.outbound.length < outboundLimit then (m.appendOrder f, true)
  else if m.outbound.any OutFrame.isState then
    ({ m with outbound := m.outbound.eraseP OutFrame.isState, statePending := true }.appendOrder f, true)
  else if f.isState then ({ m with statePending := true }, false)
  else (m, false)

/-- An answer frame is placed at the head (R177). -/
def Mpt.placeAnswer (m : Mpt) (f : OutFrame) : Mpt := { m with outbound := f :: m.outbound }

/-- Frames a block withdraws leave the queue and those behind close up (R177). -/
def Mpt.withdraw (m : Mpt) (p : OutFrame → Bool) : Mpt := { m with outbound := m.outbound.filter (fun f => !p f) }

/-- ATTN is high while the queue holds a frame (R177). -/
def State.attn (s : State) : Bool := !s.mpt.outbound.isEmpty

/-- An order frame is offered; the state afterwards and whether the frame was taken. -/
def State.sendOrder (s : State) (f : OutFrame) : State × Bool :=
  ({ s with mpt := (s.mpt.offerOrder f).1 }, (s.mpt.offerOrder f).2)

/-- A STATE notice is queued (R9, R178). -/
def State.sendState (s : State) (l : LockState) : State := (s.sendOrder (.state l)).1

/-- An answer is placed at the head of the outbound queue (R177). -/
def State.sendAnswer (s : State) (f : OutFrame) : State := { s with mpt := s.mpt.placeAnswer f }

/-! ### The lock state and the admin session -/

/-- The lock state takes a value. The STATE notice that each change of value queues (R9) is sent apart, at the step where
its rule puts it. -/
def State.setLockState (s : State) (l : LockState) : State := { s with lkc := { s.lkc with lockState := some l } }

/-- The session opens, or its timer is restarted when it is open (R16). -/
def Lkc.openSession (l : Lkc) : Lkc := { l with session := true, sessionTimer := .running 0 }

/-- The session ends: flag cleared, timer held (R17). -/
def Lkc.closeSession (l : Lkc) : Lkc := { l with session := false, sessionTimer := .held }

/-- An accepted admin request restarts the session timer (R17, R96). -/
def Lkc.touchSession (l : Lkc) : Lkc := { l with sessionTimer := l.sessionTimer.restarted }

/-- The session opens in the state. -/
def State.openSession (s : State) : State := { s with lkc := s.lkc.openSession }

/-- The session ends in the state. -/
def State.closeSession (s : State) : State := { s with lkc := s.lkc.closeSession }

/-- The session timer is restarted in the state. -/
def State.touchSession (s : State) : State := { s with lkc := s.lkc.touchSession }

/-- The idle lock timer at the entry into OPEN: from zero, or HELD under preset 0 (R18, R92). -/
def State.startIdle (s : State) : State :=
  { s with lkc := { s.lkc with idleTimer := if s.stc.cfg.idle = 0 then .held else .running 0 } }

/-- A GRANT or FILL queued while OPEN restarts the idle lock timer (R18). -/
def State.restartIdle (s : State) : State :=
  if s.lkc.lockState = some .opened then { s with lkc := { s.lkc with idleTimer := s.lkc.idleTimer.restarted } }
  else s

/-! ### The reply buffer -/

/-- A reply is formed, replacing whatever reply the buffer held (R181). -/
def State.setReply (s : State) (r : Reply) : State := { s with ppt := { s.ppt with reply := r } }

/-! ### STANDBY (R44 to R46, R98, R100) -/

/-- The store holds no waiting write and none in progress: the fifth condition (R98). -/
def Stc.atRest (q : Stc) : Bool := q.queue.isEmpty && q.reserve.isEmpty && q.writing.isNone

/-- The five conditions under which the standby timer runs (R44). -/
def State.mayStandBy (s : State) : Bool :=
  s.lkc.lockState = some .locked && s.enu.state = .idle && !s.mpt.attached && s.atg.timer.isNone && s.stc.atRest

/-- The standby timer after an event (R98, R100): HELD in STANDBY and while a condition fails; started from zero when
the five hold and it is not RUNNING; otherwise it counts on. -/
def State.settleStandby (s : State) : State :=
  { s with enu := { s.enu with standbyTimer :=
      if s.enu.standby || !s.mayStandBy then .held
      else if s.enu.standbyTimer.isRunning then s.enu.standbyTimer else .running 0 } }

/-- The end of STANDBY: the scan mode returns to FULL (R46). The standby timer follows by `settleStandby`. -/
def State.wake (s : State) : State :=
  if s.enu.standby then
    { s with enu := { s.enu with standby := false }, ksc := { s.ksc with scanMode := .full } }
  else s

/-- An event is taken: its effect, and the standby timer brought into line with the five conditions. A part without
supply takes no event (entry 6). -/
def State.event (s : State) (f : State → State) : Host.Outcome State Fault Refusal :=
  if s.powered then .next (f s).settleStandby else .next s

end Sys2Proof.Machine
end

