-- ==== Sys2Proof/Machine/Store.lean ====
section
/-! DEFINITION. The Store Controller (09): admission to the store write queue and the reserve list, the taking of a
write. -/

namespace Sys2Proof.Machine

/-! ### The store write queue and the reserve list (R162 to R165) -/

/-- Whether a list of waiting writes has an entry for a cell. -/
def holdsCell (l : List QueueEntry) (c : Cell) : Bool := l.any (fun e => e.cell = c)

/-- The number of settings-group entries. -/
def settingsCount (l : List QueueEntry) : Nat := l.countP (fun e => !e.cell.isGuard)

/-- The most settings-group entries the queue holds (R162). -/
def settingsLimit : Nat := 5

/-- A newer value replaces the waiting one in place; the end of that entry is then what both offers' blocks await
(R149, R162; entry 20). -/
def replaceIn (l : List QueueEntry) (e : QueueEntry) : List QueueEntry :=
  l.map (fun x => if x.cell = e.cell then { e with awaiter := e.awaiter.or x.awaiter } else x)

/-- The kinds of offer (R163). -/
inductive OfferKind where
  | ordinary | reserved
  deriving DecidableEq, Repr

/-- The admission of an offered write, or none where the store refuses it (R163). -/
def Stc.admission (q : Stc) (kind : OfferKind) (e : QueueEntry) : Option Stc :=
  if holdsCell q.queue e.cell then some { q with queue := replaceIn q.queue e }
  else if holdsCell q.reserve e.cell then some { q with reserve := replaceIn q.reserve e }
  else if e.cell.isGuard then some { q with queue := q.queue ++ [e] }
  else if settingsCount q.queue < settingsLimit && q.reserve.isEmpty then some { q with queue := q.queue ++ [e] }
  else if kind = .reserved then some { q with reserve := q.reserve ++ [e] }
  else none

/-- The oldest reserve entries move to the tail of the queue while it holds fewer than five settings-group entries
(R164): the queue and the reserve list afterwards. -/
def refill : List QueueEntry → List QueueEntry → List QueueEntry × List QueueEntry
  | queue, [] => (queue, [])
  | queue, e :: rest => if settingsCount queue < settingsLimit then refill (queue ++ [e]) rest else (queue, e :: rest)

/-- The entry the store takes next: the oldest guard-group entry, otherwise the oldest settings-group entry (R165). -/
def nextEntry (queue : List QueueEntry) : Option QueueEntry :=
  (queue.find? (fun e => e.cell.isGuard)).or queue.head?

/-- The idle store takes its next entry, which leaves the queue and becomes the write in progress with attempt 1 and
the next sequence byte; the reserve list then fills the room (R160, R164, R165). -/
def Stc.take (q : Stc) : Stc :=
  match q.writing, nextEntry q.queue with
  | none, some e =>
    let seq := q.seq[e.cell.index] + 1
    let moved := refill (q.queue.eraseP (fun x => x.cell = e.cell)) q.reserve
    { q with queue := moved.1, reserve := moved.2, seq := q.seq.set e.cell.index seq,
             writing := some { entry := e, attempt := 1, seq := seq } }
  | _, _ => q

/-- The store takes its next entry, unless a RESTART is pending: then what is admitted waits (R169, R193). -/
def State.takeNext (s : State) : State :=
  if s.ppt.restartPending then s else { s with stc := s.stc.take }

/-- The working copy of a cell takes the value a write carries (R161). -/
def State.setWorking (s : State) (w : CellWrite) : State :=
  match w with
  | .att n => { s with atg := { s.atg with counter := n } }
  | .bko r => { s with atg := { s.atg with bko := r } }
  | .ejr j => { s with ere := { s.ere with journal := j } }
  | .slt k r => { s with slt := { s.slt with slots := s.slt.slots.set k r } }
  | .rng k r => { s with rgt := { s.rgt with live := s.rgt.live.set k r } }
  | .cfg c => { s with stc := { s.stc with cfg := c } }

/-- A write is offered: when admitted, its working copy changes and an idle store takes an entry; when refused, nothing
changes (R161, R163, R165). The state afterwards, and whether the write was admitted. Of several writes that one event
offers, each is offered by itself, and an idle store takes an entry at the first of them (entry 54). -/
def State.offer (s : State) (kind : OfferKind) (w : CellWrite) (awaiter : Option Awaiter) : State × Bool :=
  match s.stc.admission kind { write := w, awaiter := awaiter } with
  | some q => ({ s with stc := q }.setWorking w |>.takeNext, true)
  | none => (s, false)

/-- A guard-group write, which is always admitted. -/
def State.offerGuard (s : State) (w : CellWrite) (awaiter : Option Awaiter) : State :=
  (s.offer .ordinary w awaiter).1

/-- A reserved offer, which is always admitted. -/
def State.offerReserved (s : State) (w : CellWrite) (awaiter : Option Awaiter) : State :=
  (s.offer .reserved w awaiter).1

/-- The store queue depth (R172). -/
def Stc.depth (q : Stc) : Nat := q.queue.length + q.reserve.length + (if q.writing.isSome then 1 else 0)

end Sys2Proof.Machine
end

