-- ==== Sys2Proof/Machine/Contexts.lean ====
section
/-! DEFINITION. The Context Map (07, 7.1 to 7.4): entries, the LRU list, loads and purges. -/

namespace Sys2Proof.Machine

/-- The range a LOADING or LOADED entry holds (R128). -/
def ContextEntry.heldRange : ContextEntry → Option RangeIx
  | .loading r _ _ _ => some r
  | .loaded r _ => some r
  | _ => none

/-- A context entry takes a value. -/
def State.setEntry (s : State) (i : CtxIx) (e : ContextEntry) : State :=
  { s with cxm := { s.cxm with entries := s.cxm.entries.set i e } }

/-- The order counter advances by one, wrapping from 255 to 0 (R126). -/
def State.advanceOrder (s : State) : State :=
  { s with cxm := { s.cxm with orderCounter := s.cxm.orderCounter + 1 } }

/-- A context moves to the head of the LRU list; the others keep their relative order (R127). -/
def State.touchContext (s : State) (i : CtxIx) : State :=
  { s with cxm := { s.cxm with lru := i :: s.cxm.lru.filter (fun c => c ≠ i) } }

/-- The reply timer of a frame just offered: set to start when the bridge has read it, or running at once when the
outbound queue could not take it (R130, R135). -/
def replyAfter (taken : Bool) : ReplyTimer := if taken then .onRead else .running 0

/-- Whether a reply timer has reached its 20 ms (R130, R135). -/
def ReplyTimer.due : ReplyTimer → Bool
  | .running e => Config.replyMs ≤ e
  | _ => false

/-- A KEYLOAD of the load in progress is queued with the key that the key buffer holds at this send, as try `tries`
(R130, R133). A position without a key has no KEYLOAD to send and counts as not taken (entry 36). -/
def State.sendKeyload (s : State) (i : CtxIx) (r : RangeIx) (order : Byte) (tries : Nat) : State :=
  match s.lkc.keyBuffer[r] with
  | some b =>
    let sent := s.sendOrder (.keyload i order b.key)
    sent.1.setEntry i (.loading r order tries (replyAfter sent.2))
  | none => s.setEntry i (.loading r order tries (.running 0))

/-- A PURGE is queued with the entry's order number (R135). -/
def State.sendPurge (s : State) (i : CtxIx) (r : RangeIx) (order : Byte) : State :=
  let sent := s.sendOrder (.purge i order)
  sent.1.setEntry i (.purging r order (replyAfter sent.2))

/-- A purge of context i, held for range r, begins: a new order number, the unread KEYLOAD withdrawn, the PURGE queued
(R135). The order counter advances once for each purge, as R126 and R135 have it; that these are followed, where the table
of R142 has the counter unchanged at a lock procedure and at an erase start, is the model's reading (entry 51). -/
def State.startPurge (s : State) (i : CtxIx) (r : RangeIx) : State :=
  let order := s.cxm.orderCounter
  let s := { s.advanceOrder with mpt := s.mpt.withdraw (OutFrame.isKeyloadFor i) }
  s.sendPurge i r order

/-- Every LOADING or LOADED entry whose range satisfies `p` is put into PURGING, contexts in ascending order
(R7 step 5, R8, R136; entry 34). -/
def State.purgeWhere (s : State) (p : RangeIx → Bool) : State :=
  allCtx.foldl (fun s i => match s.cxm.entries[i].heldRange with
    | some r => if p r then s.startPurge i r else s
    | none => s) s

/-- The context LOADED for a range, if any (R121). -/
def Cxm.loadedFor (c : Cxm) (r : RangeIx) : Option CtxIx :=
  allCtx.find? (fun i => match c.entries[i] with | .loaded q _ => q = r | _ => false)

/-- Whether an entry is LOADING for a range (R128). -/
def Cxm.loadingFor (c : Cxm) (r : RangeIx) : Bool :=
  allCtx.any (fun i => match c.entries[i] with | .loading q _ _ _ => q = r | _ => false)

/-- Whether a READY parked entry references a range (R129; entry 32). -/
def readyReferences (dqq : List Parked) (r : RangeIx) : Bool :=
  dqq.any (fun p => p.range = r && (match p.state with | .ready _ _ _ => true | .waiting => false))

/-- The context chosen for a new load: of the EMPTY entries the one nearest the tail of the LRU list, otherwise of the
LOADED entries that no READY parked entry references the one nearest the tail (R129). -/
def State.chooseContext (s : State) : Option CtxIx :=
  let fromTail := s.cxm.lru.reverse
  (fromTail.find? (fun i => s.cxm.entries[i] = .empty)).or
    (fromTail.find? (fun i => match s.cxm.entries[i] with
      | .loaded r _ => !readyReferences s.dqq r
      | _ => false))

/-- A load of range r into context i begins with try 1 and a new order number (R130 steps 1, 3, 4). -/
def State.beginLoad (s : State) (i : CtxIx) (r : RangeIx) : State :=
  s.advanceOrder.sendKeyload i r s.cxm.orderCounter 1

/-- The WAITING entries of a range become READY with a decision, stale mark clear, repeat timer from zero; a query that
`decide` gives no decision for keeps waiting (R132, R133; entry 35). -/
def resolveWaiting (dqq : List Parked) (r : RangeIx) (decide : Query → Option Decision) : List Parked :=
  dqq.map (fun p => match p.state with
    | .waiting => if p.range = r then
        (match decide p.query with
         | some d => { p with state := .ready d false 0 }
         | none => p) else p
    | .ready _ _ _ => p)

/-- A try of a load has failed: a resend with the same number, or at the third try the end of the load (R133). -/
def State.loadTryFailed (s : State) (i : CtxIx) : State :=
  match s.cxm.entries[i] with
  | .loading r order tries _ =>
    if tries < 3 then s.sendKeyload i r order (tries + 1)
    else
      let s := (s.setEntry i .empty).setFlag .keyloadFault
      { s with dqq := resolveWaiting s.dqq r (fun _ => some (.deny .fault)) }
  | _ => s

/-- An ATTACH or a DETACH sets the stale mark of each READY parked entry (R139). -/
def State.markStale (s : State) : State :=
  { s with dqq := s.dqq.map (fun p => match p.state with
      | .ready d _ e => { p with state := .ready d true e }
      | .waiting => p) }

/-- A frame has been read by the bridge: the reply timer that waited on it starts, unless the same frame still waits in
the queue from a later send (R130, R135, R174; entry 15). -/
def State.frameRead (s : State) (f : OutFrame) : State :=
  if f ∈ s.mpt.outbound then s
  else match f with
    | .keyload i order _ =>
      (match s.cxm.entries[i] with
       | .loading r o tries .onRead => if o = order then s.setEntry i (.loading r o tries (.running 0)) else s
       | _ => s)
    | .purge i order =>
      (match s.cxm.entries[i] with
       | .purging r o .onRead => if o = order then s.setEntry i (.purging r o (.running 0)) else s
       | _ => s)
    | _ => s

end Sys2Proof.Machine
end

