-- ==== Sys2Proof/Machine/Lock.lean ====
section
/-! DEFINITION. The Lock Controller (01): lock events, the lock procedure with the install, unlock completion. -/

namespace Sys2Proof.Machine

/-! ### Range records -/

/-- The class of a DEFINED record. -/
def RangeRecord.cls? : RangeRecord → Option RangeClass
  | .unused => none
  | .defined d => some d.cls

/-- The wrapped key of a record that has one. -/
def RangeRecord.wrapped? : RangeRecord → Option Wrapped
  | .unused => none
  | .defined d => d.wrapped

/-- Whether a record is DEFINED and GUARDED or HIDDEN. -/
def RangeRecord.isClosed : RangeRecord → Bool
  | .unused => false
  | .defined d => d.cls != .pub

/-- The public range key of a record, unwrapped under the device key; none for any other record, while the IDN fault
mark is held, or where the key is not recovered (R8, R21). -/
def State.publicKey (s : State) (r : RangeRecord) : Option BufferKey :=
  match r, s.stc.idn with
  | .defined d, some id =>
    if d.cls = .pub && !s.lkc.idnFault then
      ((d.wrapped.bind (fun w => unwrapKey w id.deviceKey)).map (fun k => { key := k, cls := .pub }))
    else none
  | _, _ => none

/-- A key buffer position takes a value; emptying it zeroises the key it held (R20). -/
def State.setPosition (s : State) (k : RangeIx) (b : Option BufferKey) : State :=
  { s with lkc := { s.lkc with keyBuffer := s.lkc.keyBuffer.set k b } }

/-- The key buffer with every GUARDED and HIDDEN position zeroised (R7 step 4). -/
def Lkc.zeroiseClosed (l : Lkc) : Lkc :=
  { l with keyBuffer := tab8 (fun k => match l.keyBuffer[k] with
      | some b => if b.cls = .pub then some b else none
      | none => none) }

/-! ### The install (R8, R111) -/

/-- After an install changed the record of index k from `old` to `new`, the key buffer and the context map are brought
into line (R8): a public record's key replaces the position, any other record empties it; an entry held for k is purged
when the new record is UNUSED or carries another key. R134's table names every install that changes the record; R8 keeps
the entry of a record that carries the same key, and R8 is followed (entry 48). -/
def State.alignRange (s : State) (k : RangeIx) (old new : RangeRecord) : State :=
  let s := s.setPosition k (s.publicKey new)
  if new = .unused || old.wrapped? != new.wrapped? then s.purgeWhere (fun r => r = k) else s

/-- The indices whose staged record differs from the live one, ascending (R111). -/
def Rgt.changed (g : Rgt) : List RangeIx := allRanges.filter (fun k => g.staged[k] != g.live[k])

/-- The staged table becomes live: for each changed index, in order, the staged record becomes the live one and its
RNGk write is offered; the dirty mark is cleared; then key buffer and contexts are brought into line (R8, R111). -/
def State.install (s : State) : State :=
  let g := s.rgt
  let s := g.changed.foldl (fun s k => s.offerReserved (.rng k g.staged[k]) none) s
  let s := { s with rgt := { s.rgt with dirty := false } }
  g.changed.foldl (fun s k => s.alignRange k g.live[k] g.staged[k]) s

/-! ### Lock events (R4 to R7) -/

/-- The cancel mark of a check in CHECKING is set (R6, R39, R42). -/
def State.cancelCheck (s : State) : State :=
  if s.enu.state = .checking then { s with enu := { s.enu with cancel := true } } else s

/-- The lock procedure, its twelve steps in order (R7). -/
def State.lockProcedure (s : State) (reason : LockReason) : State :=
  let s := s.setLockState .locked
  let s := s.closeSession
  let s := { s with lkc := { s.lkc with role := none, mask := 0 } }
  let s := { s with lkc := s.lkc.zeroiseClosed }
  let live := s.rgt.live
  let s := s.purgeWhere (fun r => live[r].isClosed)
  let s := { s with dqq := [] }
  let s := if s.rgt.dirty && reason != .erase then s.install else s
  let s := { s with lkc := { s.lkc with idleTimer := .held, windowTimer := .stopped } }
  let s := s.sendState .locked
  let s := s.setFlag .locked
  let s := s.cancelCheck
  { s with slt := { s.slt with driveKey := none } }

/-- A lock event taken in LOCKED acts on an unlock in progress (R6): KEY and PANEL set the cancel mark of a check; any
reason marks an unwrap for discard. -/
def State.lockedEvent (s : State) (reason : LockReason) : State :=
  let s := if reason = .key || reason = .panel then s.cancelCheck else s
  match s.slt.unwrap with
  | some u => { s with slt := { s.slt with unwrap := some { u with discard := true } } }
  | none => s

/-- A lock event, by the lock state at the moment it is taken (R5). -/
def State.lockEvent (s : State) (reason : LockReason) : State :=
  match s.lkc.lockState with
  | some .opened | some .openPending => s.lockProcedure reason
  | some .locked => s.lockedEvent reason
  | some .blank | some .erasing | none => s

/-! ### Entry unit, as the lock state's changes reach it -/

/-- The entry unit at rest: both buffers, the overlong and cancel marks and the order cleared, the entry timer stopped,
IDLE. The standby timer and STANDBY stand. -/
def Enu.toIdle (e : Enu) : Enu :=
  { e with state := .idle, purpose := none, buffer := [], overlong := false, confirm := [], order := none,
           cancel := false, entryTimer := .stopped }

/-- Whether a purpose is an enrollment's. -/
def isEnrollment : Option Purpose → Bool
  | some .enroll1 | some .enroll2 => true
  | _ => false

/-- An entry is abandoned or refused: the unit returns to IDLE; for an enrollment purpose ENROLL_FAILED is set
(R33, R34, R38, R42). -/
def State.abandonEntry (s : State) : State :=
  { s.setFlagIf (isEnrollment s.enu.purpose) .enrollFailed with enu := s.enu.toIdle }

/-- The unit leaves CHECKING for IDLE: the cancel mark is cleared and the purpose becomes absent (R40). -/
def State.leaveChecking (s : State) : State :=
  if s.enu.state = .checking then { s with enu := s.enu.toIdle } else s

/-! ### Unlock completion (R10 to R12, R42, R63) -/

/-- The role of a slot record that has one. -/
def SlotRecord.info? : SlotRecord → Option SlotInfo
  | .empty => none
  | .enrolled i _ _ => some i
  | .retired i => some i

/-- The unlock mask a slot record gives; empty for an EMPTY record. -/
def SlotRecord.mask (r : SlotRecord) : Mask :=
  match r.info? with
  | some i => i.mask
  | none => 0

/-- The key buffer with the unwrapped guarded and hidden keys delivered, each with the class of its live record
(R10 step 1, R20). -/
def State.deliverKeys (s : State) (keys : Vector (Option Key) 8) (mask : Mask) : State :=
  { s with lkc := { s.lkc with keyBuffer := tab8 (fun k =>
      match keys[k], s.rgt.live[k] with
      | some key, .defined d =>
        if d.cls != .pub && maskHas mask k then some { key := key, cls := d.cls } else s.lkc.keyBuffer[k]
      | _, _ => s.lkc.keyBuffer[k]) } }

/-- At the change from LOCKED to an unlocked state an UNLOCK entry being collected is abandoned and a check in CHECKING
is cancelled (R42). -/
def State.enuAtUnlock (s : State) : State :=
  match s.enu.state, s.enu.purpose with
  | .collecting, some .unlock => { s with enu := s.enu.toIdle }
  | .checking, _ => s.cancelCheck
  | _, _ => s

/-- The unwrap's results are delivered and the lock opens (R10, R63). -/
def State.deliverUnlock (s : State) (u : Unwrap) : State :=
  let wasLocked := s.lkc.lockState = some .locked
  let record := s.slt.slots[u.slot]
  let s := s.deliverKeys u.rangeKeys record.mask
  let s := { s with slt := { s.slt with unwrap := none, driveKey := u.driveKey } }
  let s := { s with lkc := { s.lkc with role := record.info?.map SlotInfo.role, mask := record.mask } }
  let s := if s.mpt.attached then (s.setLockState .opened).startIdle
    else let s := s.setLockState .openPending
         { s with lkc := { s.lkc with windowTimer := .running 0 } }
  let s := if u.opensSession then s.openSession else s
  let s := s.sendState (if s.mpt.attached then .opened else .openPending)
  let s := s.setFlag .opened
  if wasLocked then s.enuAtUnlock else s

/-- Unlock completion: the results are delivered in LOCKED or BLANK when not marked for discard, and otherwise
discarded (R10, R12). -/
def State.completeUnlock (s : State) : State :=
  match s.slt.unwrap with
  | none => s
  | some u =>
    if !u.discard && (s.lkc.lockState = some .locked || s.lkc.lockState = some .blank) then s.deliverUnlock u
    else { s with slt := { s.slt with unwrap := none } }

/-- The idle lock timer has reached the preset that CFG's working copy holds at this moment; preset 0 disables it (R89, R90,
R92). -/
def State.idleDue (s : State) : Bool := s.stc.cfg.idle != 0 && s.lkc.idleTimer.reached (1000 * s.stc.cfg.idle)

/-- The attach window has reached the preset that CFG's working copy holds at this moment (R89, R90). -/
def State.windowDue (s : State) : Bool := s.lkc.windowTimer.reached (1000 * s.stc.cfg.window)

/-- An expiry of the idle lock timer: HELD, and an IDLE lock event (R93). It occurs only where the timer has reached its
preset (R89). -/
def State.idleExpiry (s : State) : State :=
  if s.idleDue then
    { s with lkc := { s.lkc with idleTimer := .held } }.lockEvent .idle
  else s

/-- An expiry of the attach window: STOPPED, and a WINDOW lock event (R95). It occurs only where the timer has reached its
preset (R89). -/
def State.windowExpiry (s : State) : State :=
  if s.windowDue then
    { s with lkc := { s.lkc with windowTimer := .stopped } }.lockEvent .window
  else s

end Sys2Proof.Machine
end

