-- ==== Sys2Proof/Machine/Operands.lean ====
section
/-! DEFINITION. The coded values of the frames (10.5), the settings fields (R68, R90, R188), and the checks of gate 5
(R186). -/

namespace Sys2Proof.Machine

/-! ### Codes -/

/-- The role a code names. -/
def roleOf (b : Byte) : Option Role :=
  if b = 0x00 then some .admin else if b = 0x01 then some .user else if b = 0x02 then some .reader else none

/-- The class a code names. -/
def classOf (b : Byte) : Option RangeClass :=
  if b = 0x00 then some .pub else if b = 0x01 then some .guarded else if b = 0x02 then some .hidden else none

/-- The write policy a code names. -/
def policyOf (b : Byte) : Option WritePolicy :=
  if b = 0x00 then some .readWrite else if b = 0x01 then some .readOnly else none

/-- The denial mode a code names. -/
def denialOf (b : Byte) : Option DenialMode :=
  if b = 0x00 then some .deny else if b = 0x01 then some .fill else none

/-- The yes or no a code names. -/
def flagOf (b : Byte) : Option Bool :=
  if b = 0x00 then some false else if b = 0x01 then some true else none

/-- Direction codes (ACCESS). -/
def directionCode : Direction → Byte
  | .read => 0x00 | .write => 0x01

/-- The direction a code names. -/
def directionOf (b : Byte) : Option Direction :=
  if b = 0x00 then some .read else if b = 0x01 then some .write else none

/-- The results of a panel reply. -/
inductive ReplyResult where
  | accepted | noSession | busy | format | overlap | fault | check
  deriving DecidableEq, Repr

/-- Result codes. -/
def ReplyResult.code : ReplyResult → Byte
  | .accepted => 0x00 | .noSession => 0x01 | .busy => 0x02 | .format => 0x03 | .overlap => 0x04 | .fault => 0x05
  | .check => 0x06

/-! ### Gate 5 (R186) -/

/-- A flag set names flags alone: the top four bits are 0. -/
def flagSetCoded (b : BitVec 16) : Bool := b.extractLsb' 12 4 == 0

/-- The coded fields of ENROLL. -/
def enrollCoded (role once : Byte) : Bool := (roleOf role).isSome && (flagOf once).isSome

/-- The coded fields of SET RANGE. -/
def setRangeCoded (cls policy denial : Byte) : Bool :=
  (classOf cls).isSome && (policyOf policy).isSome && (denialOf denial).isSome

/-- The field codes of SET SETTINGS: 01h to 07h, none twice. -/
def settingsCoded (entries : List (Byte × BitVec 16)) : Bool :=
  entries.all (fun e => 1 ≤ e.1.toNat && e.1.toNat ≤ 7) && decide (entries.map Prod.fst).Nodup

/-! ### Settings fields (R68, R90, R188) -/

/-- Whether a field's value lies in its range. -/
def settingInRange (field : Byte) (v : BitVec 16) : Bool :=
  if field = 0x01 then 1 ≤ v.toNat && v.toNat ≤ 18
  else if field = 0x02 then 3 ≤ v.toNat && v.toNat ≤ 20
  else if field = 0x03 then 1 ≤ v.toNat && v.toNat ≤ 60
  else if field = 0x04 then 60 ≤ v.toNat && v.toNat ≤ 3000
  else if field = 0x05 then v.toNat ≤ 32767
  else if field = 0x06 then 5 ≤ v.toNat && v.toNat ≤ 120
  else v.toNat ≤ 1

/-- One field of the settings takes a value. -/
def Settings.setField (c : Settings) (field : Byte) (v : BitVec 16) : Settings :=
  if field = 0x01 then { c with F := v.toNat }
  else if field = 0x02 then { c with W := v.toNat }
  else if field = 0x03 then { c with B := v.toNat }
  else if field = 0x04 then { c with C := v.toNat }
  else if field = 0x05 then { c with idle := v.toNat }
  else if field = 0x06 then { c with window := v.toNat }
  else { c with sweep := v.toNat = 1 }

/-- The settings with a list of field values applied. -/
def Settings.apply (c : Settings) (entries : List (Byte × BitVec 16)) : Settings :=
  entries.foldl (fun c e => c.setField e.1 e.2) c

/-- Whether a field is F or W. -/
def isPairField (field : Byte) : Bool := field = 0x01 || field = 0x02

/-- The entries of a request that are not held: those in range, without F and W where the pair that would result breaks
W ≥ F+2 (R68, R188). -/
def keptSettings (c : Settings) (entries : List (Byte × BitVec 16)) : List (Byte × BitVec 16) :=
  let inRange := entries.filter (fun e => settingInRange e.1 e.2)
  let next := c.apply inRange
  if next.F + 2 ≤ next.W then inRange else inRange.filter (fun e => !isPairField e.1)

/-- The bit of a field in the held list. -/
def fieldBit (field : Byte) : Byte := 1#8 <<< (field.toNat - 1)

/-- The held list of a request: the bits of the named fields that are not kept (R188). -/
def heldList (c : Settings) (entries : List (Byte × BitVec 16)) : Byte :=
  (entries.filter (fun e => !(keptSettings c entries).any (fun k => k.1 = e.1))).foldl
    (fun b e => b ||| fieldBit e.1) 0

end Sys2Proof.Machine
end

