-- ==== Sys2Proof/Machine/Erase.lean ====
section
/-! DEFINITION. The Erase Engine (08): the erase start, the steps of the phases, the sweep, the end. -/

namespace Sys2Proof.Machine

/-! ### Journal writes and sweep orders -/

/-- An EJR write is queued; the working copy takes its value and it becomes the awaited write (R146, R147). -/
def State.putJournal (s : State) (j : Journal) : State :=
  let s := s.offerGuard (.ejr j) (some .erase)
  { s with ere := { s.ere with awaited := some .ejr } }

/-- The SWEEP frame of an order is offered; an order that the queue cannot take is owed (R151, R152). -/
def State.sendSweep (s : State) (o : SweepOrder) : State :=
  let sent := s.sendOrder (.sweep o.start o.count)
  { sent.1 with ere := { sent.1.ere with sweepOwed := !sent.2 } }

/-- The chunk at the cursor: at most 32,768 sectors, ending no later than the sweep end (R151). -/
def chunkAt (cursor sweepEnd : Lba) : SweepOrder :=
  { start := cursor, count := min 32768 (sweepEnd.toNat + 1 - cursor.toNat) }

/-- An order is given for the chunk at the cursor (R151). -/
def State.giveOrder (s : State) (cursor sweepEnd : Lba) : State :=
  let o := chunkAt cursor sweepEnd
  { s with ere := { s.ere with order := some o, retry := 1, sweepState := some .ordered } }.sendSweep o

/-- The erasure ends after RANGES or the sweep: the IDLE record is queued with its cursor and mark (R154). -/
def State.eraseFinish (s : State) (cursor : Option Lba) (incomplete : Bool) : State :=
  { s with ere := { s.ere with order := none, sweepOwed := false } }.putJournal
    { phase := .idle, next := none, cursor := cursor, sweepEnd := none, incomplete := incomplete }

/-- The sweep end that a capacity above 0 gives (R150). -/
def sweepEndOf (capacity : BitVec 64) : Lba := BitVec.ofNat 32 (min capacity.toNat 4294967296 - 1)

/-- The engine leaves PAUSED, the media being attached (R150). -/
def State.leavePaused (s : State) : State :=
  match s.ere.journal.cursor, s.ere.journal.sweepEnd with
  | some cursor, some sweepEnd => s.giveOrder cursor sweepEnd
  | _, _ =>
    let capacity := s.mpt.capacity.getD 0
    if capacity = 0 then s.eraseFinish none false
    else
      { s with ere := { s.ere with sweepState := some .recording } }.putJournal
        { phase := .sweep, next := none, cursor := some 0, sweepEnd := some (sweepEndOf capacity), incomplete := false }

/-- The engine enters PAUSED and leaves it at once where the media is attached (R150, R151). -/
def State.pausedOrOn (s : State) : State :=
  let s := { s with ere := { s.ere with sweepState := some .paused } }
  if s.mpt.attached then s.leavePaused else s

/-- A DETACH or LINKRESET pauses an ordered sweep (R153). -/
def State.pauseSweep (s : State) : State :=
  if s.ere.journal.phase = .sweep && s.ere.sweepState = some .ordered then
    { s with mpt := s.mpt.withdraw OutFrame.isSweep,
             ere := { s.ere with order := none, retry := 0, sweepState := some .paused, sweepOwed := false } }
  else s

/-- An ATTACH reaches a paused sweep (R150, R153). -/
def State.resumeSweep (s : State) : State :=
  if s.ere.journal.phase = .sweep && s.ere.sweepState = some .paused then s.leavePaused else s

/-- A SWEPT frame (R151, R152). -/
def State.sweptTaken (s : State) (start : Lba) (count : Nat) (ok : Bool) : State :=
  match s.ere.order, s.ere.journal.cursor, s.ere.journal.sweepEnd with
  | some o, some cursor, some sweepEnd =>
    if s.ere.journal.phase = .sweep && s.ere.sweepState = some .ordered && o.start = start && o.count = count then
      if ok then
        let s := { s with ere := { s.ere with order := none, sweepOwed := false } }
        if o.start.toNat + o.count = sweepEnd.toNat + 1 then s.eraseFinish none false
        else { s with ere := { s.ere with sweepState := some .recording } }.putJournal
          { phase := .sweep, next := none, cursor := some (cursor + BitVec.ofNat 32 o.count),
            sweepEnd := some sweepEnd, incomplete := false }
      else if s.ere.retry < 3 then
        { s with ere := { s.ere with retry := s.ere.retry + 1 } }.sendSweep o
      else s.eraseFinish (some cursor) true
    else s
  | _, _, _ => s

/-- A SWEEP frame that is owed is offered again (R152). -/
def State.reofferSweep (s : State) : State :=
  match s.ere.order with
  | some o => if s.ere.sweepOwed then s.sendSweep o else s
  | none => s

/-! ### The erase start (R145) -/

/-- LKC's part of the erase start (R22). -/
def State.lkcEraseStart (s : State) : State :=
  let s := if s.lkc.lockState = some .opened || s.lkc.lockState = some .openPending then s.lockProcedure .erase else s
  let s := { s with lkc := { s.lkc with keyBuffer := Vector.replicate 8 none } }
  let s := s.closeSession
  let s := { s with lkc := { s.lkc with role := none, mask := 0, idleTimer := .held, windowTimer := .stopped } }
  (s.setLockState .erasing).sendState .erasing

/-- The entry unit's part: an entry being collected is abandoned, a check or a HOLDOFF gives way to IDLE (R42). -/
def State.enuEraseStart (s : State) : State :=
  if s.enu.state = .collecting then s.abandonEntry else { s with enu := s.enu.toIdle }

/-- ATG's part: a running back-off is stopped without a BKO write (R84). -/
def State.atgEraseStart (s : State) : State :=
  { s with atg := { s.atg with timer := none, bko := { s.atg.bko with active := none } } }

/-- SLT's part: held drive key and match hold zeroised, operations in flight marked as met by an erasure, held writes
dropped, a held retirement with the check ended and no refund (R65; entries 19 and 46). -/
def State.sltEraseStart (s : State) : State :=
  let s := match s.slt.build with
    | some (.enrolling code order key _) =>
      { s with slt := { s.slt with build := some (.enrolling code order key true) } }
    | some (.enrollHeld _ _) => { s with slt := { s.slt with build := none } }.setFlag .enrollFailed
    | _ => s
  let s := if s.slt.heldRetirement.isSome then
      { s with slt := { s.slt with heldRetirement := none }, atg := { s.atg with check := none } } else s
  { s with slt := { s.slt with
      driveKey := none, matchHold := none,
      verification := s.slt.verification.map (fun v => { v with voided := v.snapshot.isSome }),
      unwrap := s.slt.unwrap.map (fun u => { u with discard := true }) } }

/-- The erase start, its steps in order (R145). -/
def State.eraseStart (s : State) : State :=
  let s := s.lkcEraseStart
  let s := s.purgeWhere (fun _ => true)
  let s := { s with dqq := [] }
  let s := { s with rgt := { s.rgt with staged := s.rgt.live, dirty := false } }
  let s := s.enuEraseStart.atgEraseStart
  let s := s.sltEraseStart
  let s := { s with ere := { s.ere with sweepState := none, order := none, retry := 0, sweepOwed := false } }
  let s := s.putJournal { phase := .zeroise, next := some 0, cursor := none, sweepEnd := none, incomplete := false }
  s.setFlag .eraseStarted

/-! ### The phases (R148, R149) -/

/-- The engine queues the EMPTY record of a slot (R148). -/
def State.zeroiseSlot (s : State) (k : SlotIx) : State :=
  let s := s.offerReserved (.slt k .empty) (some .erase)
  { s with ere := { s.ere with awaited := some (.slt k) } }

/-- The engine queues the factory record of a range; live and staged record become it (R113, R149). -/
def State.factoryRange (s : State) (k : RangeIx) : State :=
  let s := s.offerReserved (.rng k (.factory k)) (some .erase)
  { s with rgt := { s.rgt with staged := s.rgt.staged.set k (.factory k) },
           ere := { s.ere with awaited := some (.rng k) } }

/-- The engine queues ATT as 0 and then BKO inactive, and awaits BKO (R84, R149). At the end of RNG7 the store is idle
while the engine is told, so it takes an entry as ATT is offered: a BKO write of a PFW edge that waited already is taken
then, and the engine's BKO is an entry of its own behind ATT, not a replacement in place (the model's choice, entry 54). -/
def State.clearGuard (s : State) : State :=
  let s := s.offerGuard (.att 0) none
  let s := s.offerGuard (.bko { s.atg.bko with active := none }) (some .erase)
  { s with ere := { s.ere with awaited := some .bko } }

/-- The journal record of a phase at an index. -/
def Journal.at (phase : Phase) (index : Nat) : Journal :=
  { phase := phase, next := some index, cursor := none, sweepEnd := none, incomplete := false }

/-- The step that the journal's phase and index name, in ZEROISE and RANGES (R148, R149, R155). An index past the last slot
or range names no write, and the engine goes on as after the last one (entry 28). -/
def State.journalStep (s : State) : State :=
  match s.ere.journal.phase, s.ere.journal.next with
  | .zeroise, some k => if h : k < 5 then s.zeroiseSlot ⟨k, h⟩ else s.putJournal (.at .ranges 0)
  | .ranges, some k => if h : k < 8 then s.factoryRange ⟨k, h⟩ else s.clearGuard
  | _, _ => s

/-- Erase end (R23, R154). -/
def State.eraseEnd (s : State) : State :=
  let s := s.setFlag .eraseDone
  let s := { s with ere := { s.ere with awaited := none, sweepState := none, order := none, retry := 0,
                                        sweepOwed := false } }
  (s.setLockState .blank).sendState .blank

/-- The awaited write of the engine has ended, completed or failed: the next step (R147 to R151, R154). -/
def State.ereWriteEnd (s : State) (cell : Cell) : State :=
  if s.ere.awaited = some cell then
    match s.ere.journal.phase, cell with
    | .zeroise, .ejr => s.journalStep
    | .zeroise, .slt k => s.putJournal (if k = 4 then .at .ranges 0 else .at .zeroise (k.val + 1))
    | .ranges, .ejr => s.journalStep
    | .ranges, .rng k => if k = 7 then s.clearGuard else s.putJournal (.at .ranges (k.val + 1))
    | .ranges, .bko =>
      if s.stc.cfg.sweep then
        s.putJournal { phase := .sweep, next := none, cursor := none, sweepEnd := none, incomplete := false }
      else s.eraseFinish none false
    | .sweep, .ejr => { s with ere := { s.ere with awaited := none } }.pausedOrOn
    | .idle, .ejr => s.eraseEnd
    | _, _ => s
  else s

end Sys2Proof.Machine
end

