-- ==== Sys2Proof/Machine/Guard.lean ====
section
/-! DEFINITION. The Attempt Guard (04): the back-off, and the outcomes of a check. -/

namespace Sys2Proof.Machine

/-! ### The back-off (R77 to R84) -/

/-- The required duration D(n) of a back-off of count n, in seconds (R77). -/
def backoffSeconds (c : Settings) (n : Nat) : Nat :=
  let e := n - c.F - 1
  if 12 ≤ e then c.C else min (c.B * 2 ^ e) c.C

/-- The preset PT in ticks (R77). -/
def backoffPreset (c : Settings) (n : Nat) : Nat := 10 * backoffSeconds c n

/-- A back-off ends, its four steps (R80). -/
def State.endBackoff (s : State) : State :=
  let s := { s with atg := { s.atg with timer := none } }
  let s := s.offerGuard (.bko { s.atg.bko with active := none }) none
  let s := s.setFlag .holdoffEnded
  if s.enu.state = .holdoff then { s with enu := s.enu.toIdle } else s

/-- The greatest multiple of 100 ticks that an elapsed value has reached (R81). -/
def lastMultiple (elapsed : Nat) : Nat := elapsed - elapsed % Config.checkpointTicks

/-- A back-off starts with a count and an elapsed value, its four steps (R78); one resumed at or above its preset ends
at once. -/
def State.startBackoff (s : State) (n elapsed : Nat) : State :=
  let preset := backoffPreset s.stc.cfg n
  let timer := { elapsed := elapsed, preset := preset, phase := 0, checkpointed := lastMultiple elapsed }
  let s := { s with atg := { s.atg with timer := some timer } }
  let s := s.offerGuard (.bko { s.atg.bko with active := some { count := n, elapsed := elapsed } }) none
  let s := { s with enu := { s.enu.toIdle with state := .holdoff } }
  if preset ≤ elapsed then s.endBackoff else s

/-- A multiple of 100 ticks below PT that the timer has reached and no checkpoint has recorded (R81). -/
def BackoffTimer.checkpointDue (t : BackoffTimer) : Bool :=
  t.checkpointed + Config.checkpointTicks ≤ t.elapsed && lastMultiple t.elapsed < t.preset

/-- The timer has reached PT (R80). -/
def BackoffTimer.ended (t : BackoffTimer) : Bool := t.preset ≤ t.elapsed

/-- A checkpoint of a running back-off: the working copy takes the multiple of 100 ticks that the timer has reached (R81). -/
def State.checkpoint (s : State) : State :=
  match s.atg.timer, s.atg.bko.active with
  | some t, some a =>
    if t.checkpointDue then
      { s with atg := { s.atg with timer := some { t with checkpointed := lastMultiple t.elapsed } } }.offerGuard
        (.bko { s.atg.bko with active := some { a with elapsed := lastMultiple t.elapsed } }) none
    else s
  | _, _ => s

/-- The elapsed value of a running back-off: the timer's exact value (R82). -/
def Atg.exactRecord (a : Atg) : Option ActiveBackoff :=
  match a.bko.active, a.timer with
  | some r, some t => some { r with elapsed := t.elapsed }
  | r, _ => r

/-- The BKO write of a PFW edge (R82). -/
def State.pfwRecord (s : State) : State :=
  s.offerGuard (.bko { active := s.atg.exactRecord, pfwSeen := true }) none

/-- The three effects of an active PFW edge after store-ready (R183). -/
def State.pfwEffects (s : State) : State :=
  ((s.setFlag .supply).lockEvent .supply).pfwRecord

/-- A change of F, B or C recomputes a running back-off from the new settings (R83). -/
def State.recomputeBackoff (s : State) : State :=
  match s.atg.timer, s.atg.bko.active with
  | some t, some a =>
    let preset := backoffPreset s.stc.cfg a.count
    if a.count ≤ s.stc.cfg.F || preset ≤ t.elapsed then s.endBackoff
    else { s with atg := { s.atg with timer := some { t with preset := preset } } }
  | _, _ => s

/-- The remaining ticks that STATUS shows (R88). -/
def Atg.remaining (a : Atg) : Nat :=
  match a.timer with
  | some t => t.preset - t.elapsed
  | none => 0

/-! ### The check (R69 to R74) -/

/-- The check in progress ends. -/
def State.endCheck (s : State) : State := { s with atg := { s.atg with check := none } }

/-- The verification workspace is zeroised. -/
def State.dropVerification (s : State) : State := { s with slt := { s.slt with verification := none } }

/-- A failed charge's end: no verification, the entry unit IDLE (R71). -/
def State.chargeFails (s : State) : State := s.endCheck.dropVerification.leaveChecking

/-- The failure decision (R74). -/
def State.failureDecision (s : State) : State :=
  let s := (s.endCheck.dropVerification).setFlag .attemptFailed
  let n := s.atg.counter
  if s.stc.cfg.W ≤ n then s.eraseStart
  else if s.stc.cfg.F < n then s.startBackoff n 0
  else s.leaveChecking

/-- The charge request of an entry that enters CHECKING (R69). -/
def State.charge (s : State) (purpose : Purpose) : State :=
  if s.atg.attFaulty then (s.setFlag .storeFault).chargeFails
  else if s.stc.cfg.W ≤ s.atg.counter then s.failureDecision
  else
    { s with atg := { s.atg with check := some { purpose := purpose, step := .charging } } }.offerGuard
      (.att (s.atg.counter + 1)) (some .charge)

/-- The step of a check becomes refunding. -/
def CheckInProgress.toRefunding (c : CheckInProgress) : CheckInProgress := { c with step := .refunding }

/-- A success is handed on: the refund is queued (R72). -/
def State.refund (s : State) : State :=
  let s := { s with atg := { s.atg with check := s.atg.check.map CheckInProgress.toRefunding } }
  let s := s.offerGuard (.att 0) (some .refund)
  if s.atg.bko.active.isSome then
    { s with atg := { s.atg with timer := none } }.offerGuard (.bko { s.atg.bko with active := none }) none
  else s

end Sys2Proof.Machine
end

