-- ==== Sys2Proof/Machine/Slots.lean ====
section
/-! DEFINITION. The Slot Table (03): verification, retirement, enrollment builds, the unwrap's start, re-offers; and the
ends of the check that hang on them (R70, R73). -/

namespace Sys2Proof.Machine

/-! ### Verification (R50 to R53) -/

/-- The start snapshot: each ENROLLED slot's index, code length and verifier (R50). -/
def snapshotOf (slots : Vector SlotRecord 5) : List SnapSlot :=
  allSlots.filterMap (fun k => match slots[k] with
    | .enrolled i v _ => some { slot := k, codeLength := i.codeLength, verifier := v }
    | _ => none)

/-- The verification of the entry copy starts (R50). -/
def State.startVerification (s : State) : State :=
  { s with slt := { s.slt with
      verification := s.slt.verification.map (fun (v : Verification) =>
        { v with snapshot := some (snapshotOf s.slt.slots) }) } }

/-- Whether a slot is ENROLLED with a given verifier. -/
def SlotRecord.hasVerifier (r : SlotRecord) (v : Verifier) : Bool :=
  match r with
  | .enrolled _ w _ => w = v
  | _ => false

/-- The slot that matches at completion: of the snapshot's slots of the entry's length, the first whose verifier accepts
the entry and that is still ENROLLED with that verifier (R50, R51; entry 41). -/
def matchedSlot (slots : Vector SlotRecord 5) (snap : List SnapSlot) (digits : List Digit) : Option SnapSlot :=
  snap.find? (fun e => e.codeLength = digits.length && verifierAccepts e.verifier digits &&
    slots[e.slot].hasVerifier e.verifier)

/-- The slot whose success the purpose allows (R52). -/
def successSlot (purpose : Purpose) (m : Option SnapSlot) : Option SnapSlot :=
  match purpose, m with
  | .unlock, some e => some e
  | .admin, some e => if e.slot = 0 then some e else none
  | _, _ => none

/-- The match hold takes the code key, a copy of the wrapped drive key and the index of the matched slot (R52). -/
def State.fillHold (s : State) (e : SnapSlot) (digits : List Digit) : State :=
  match s.slt.slots[e.slot] with
  | .enrolled _ v w =>
    { s with slt := { s.slt with matchHold := some { codeKey := codeKeyFor v digits, wrapped := w, slot := e.slot } } }
  | _ => s

/-- A once slot matched by UNLOCK purpose is made RETIRED and its write is offered; a refused write is held (R53;
entry 22). -/
def State.retire (s : State) (k : SlotIx) (i : SlotInfo) : State :=
  let w := CellWrite.slt k (.retired i)
  let offered := s.offer .ordinary w (some .retirement)
  if offered.2 then offered.1
  else
    let s := s.setWorking w
    { s with slt := { s.slt with heldRetirement := some k } }

/-- The verification completes (R51, R52, R75; entry 19). -/
def State.verificationEnds (s : State) : State :=
  match s.slt.verification with
  | some { digits := digits, purpose := purpose, snapshot := some snap, voided := voided } =>
    let s := s.dropVerification
    if voided || s.lkc.lockState = some .erasing then s.endCheck
    else
      match successSlot purpose (matchedSlot s.slt.slots snap digits) with
      | none => s.failureDecision
      | some e =>
        let s := s.fillHold e digits
        match s.slt.slots[e.slot] with
        | .enrolled i _ _ => if purpose = .unlock && i.once then s.retire e.slot i else s.refund
        | _ => s.refund
  | _ => s

/-- The retirement write has ended, completed or failed: the success is handed on, in every lock state, and the refund is
queued (R53, R65, R72). In ERASING this makes the counter 0 at once, where R84 and R145 have it keep its value until the
RANGES phase; that R53, R65 and R72 are followed there is the model's choice (entry 53). -/
def State.retirementEnds (s : State) : State := if s.atg.check.isSome then s.refund else s

/-! ### The unwrap's start (R62) -/

/-- The wrapped key of a GUARDED or HIDDEN record. -/
def RangeRecord.closedKey (r : RangeRecord) : Option Wrapped := if r.isClosed then r.wrapped? else none

/-- The range keys an unwrap recovers: of each index of the mask whose live record is DEFINED and GUARDED or HIDDEN, the
key that the drive key recovers (R62). -/
def unwrapRanges (live : Vector RangeRecord 8) (mask : Mask) (driveKey : Option Key) : Vector (Option Key) 8 :=
  tab8 (fun k => if maskHas mask k then
      driveKey.bind (fun dk => live[k].closedKey.bind (fun w => unwrapKey w dk))
    else none)

/-- The match hold moves into the unwrap workspace (R62). -/
def State.startUnwrap (s : State) (opensSession first : Bool) : State :=
  match s.slt.matchHold with
  | some m =>
    let driveKey := unwrapKey m.wrapped m.codeKey
    { s with slt := { s.slt with
        matchHold := none,
        unwrap := some { driveKey := driveKey,
                         rangeKeys := unwrapRanges s.rgt.live (s.slt.slots[m.slot].mask) driveKey,
                         slot := m.slot, opensSession := opensSession, first := first, discard := false } } }
  | none => s

/-- The match hold is zeroised without an unwrap (R62). -/
def State.dropHold (s : State) : State := { s with slt := { s.slt with matchHold := none } }

/-! ### The ends of the charge and the refund (R70, R71, R73) -/

/-- The ATT faulty mark is set by a failed write of a charge or refund (R71, R73). -/
def State.markAttFaulty (s : State) (completed : Bool) : State :=
  if completed then s else { s with atg := { s.atg with attFaulty := true } }

/-- The charge write has ended (R70, R71). -/
def State.chargeEnds (s : State) (completed : Bool) : State :=
  match s.atg.check with
  | none => s.markAttFaulty completed
  | some c =>
    if !completed then (s.markAttFaulty false).chargeFails
    else if s.lkc.lockState = some .erasing then s.endCheck.dropVerification
    else { s with atg := { s.atg with check := some { c with step := .verifying } } }.startVerification

/-- The effect of refund completion, by the cancel mark, the lock state and the purpose (R73; entry 31). -/
def State.refundEffect (s : State) (cancel : Bool) (purpose : Purpose) : State :=
  match s.lkc.lockState with
  | some .locked =>
    if cancel || s.slt.unwrap.isSome then s.dropHold else s.startUnwrap (purpose = .admin) false
  | some .opened | some .openPending =>
    if !cancel && purpose = .admin then s.dropHold.openSession else s.dropHold
  | _ => s.dropHold

/-- The refund write has ended, completed or failed (R73). -/
def State.refundEnds (s : State) (completed : Bool) : State :=
  let s := s.markAttFaulty completed
  match s.atg.check with
  | none => s
  | some c =>
    let cancel := s.enu.cancel
    s.endCheck.leaveChecking.refundEffect cancel c.purpose

/-! ### Builds (R56 to R60) -/

/-- An enrollment build starts with the code, the order and a copy of the held drive key (R56; entry 37). -/
def State.startEnrollment (s : State) (code : List Digit) (order : EnrollOrder) : State :=
  match s.slt.driveKey with
  | some dk => { s with slt := { s.slt with build := some (.enrolling code order dk false) } }
  | none => s.setFlag .enrollFailed

/-- A first-enrollment build starts (R59). -/
def State.startFirstEnrollment (s : State) (code : List Digit) : State :=
  { s with slt := { s.slt with build := some (.firstBuilding code) } }

/-- Whether an ENROLLED slot other than `target` holds the code (R56). -/
def holdsCode (slots : Vector SlotRecord 5) (target : SlotIx) (code : List Digit) : Bool :=
  allSlots.any (fun k => k != target && (match slots[k] with
    | .enrolled i v _ => i.codeLength = code.length && verifierAccepts v code
    | _ => false))

/-- The build workspace takes a value. -/
def State.setBuild (s : State) (b : Option Build) : State := { s with slt := { s.slt with build := b } }

/-- The next fresh name is spent (entry 8). -/
def State.spendFresh (s : State) : State := { s with freshCount := s.freshCount + 1 }

/-- The record that an enrollment forms (R56). -/
def enrolledRecord (code : List Digit) (order : EnrollOrder) (driveKey : Key) (salt : Nat) : SlotRecord :=
  .enrolled { role := order.role, mask := order.mask, once := order.once, codeLength := code.length }
    { digits := code, salt := salt } { key := driveKey, under := .code code salt }

/-- An enrollment build completes (R56, R57). -/
def State.enrollBuildEnds (s : State) : State :=
  match s.slt.build with
  | some (.enrolling code order driveKey doomed) =>
    if doomed || s.lkc.lockState = some .erasing || holdsCode s.slt.slots order.slot code then
      (s.setBuild none).setFlag .enrollFailed
    else
      let record := enrolledRecord code order driveKey s.freshCount
      let offered := s.spendFresh.offer .ordinary (.slt order.slot record) none
      if offered.2 then (offered.1.setBuild none).setFlag .enrollDone
      else offered.1.setBuild (some (.enrollHeld order.slot record))
  | _ => s

/-- The enrollment order of a first enrollment (R31). -/
def firstOrder : EnrollOrder := { slot := 0, role := .admin, mask := BitVec.allOnes 8, once := false }

/-- Writes are offered in turn as ordinary offers that the first enrollment awaits; those refused are answered in order
(R59). -/
def State.offerFirst (s : State) : List CellWrite → State × List CellWrite
  | [] => (s, [])
  | w :: rest =>
    let offered := s.offer .ordinary w (some .firstEnrollment)
    let tail := offered.1.offerFirst rest
    (tail.1, if offered.2 then tail.2 else w :: tail.2)

/-- The DEFINED live records of index 1 to 7, which a first enrollment makes UNUSED (R59). -/
def staleRanges (live : Vector RangeRecord 8) : List RangeIx := allRanges.filter (fun k => k != 0 && live[k] != .unused)

/-- A range record becomes `r` in the live and the staged table (R59, R106). -/
def State.setBoth (s : State) (k : RangeIx) (r : RangeRecord) : State :=
  { s with rgt := { s.rgt with live := s.rgt.live.set k r, staged := s.rgt.staged.set k r } }

/-- The range table's part of a first enrollment: range 0 takes the factory record with the new key, every other DEFINED
record becomes UNUSED with its key buffer position zeroised, and the staged table is not dirty (R59). -/
def State.firstRanges (s : State) (wrapped : Wrapped) : State :=
  let stale := staleRanges s.rgt.live
  let s := s.setBoth 0 (.factoryZero (some wrapped))
  let s := stale.foldl (fun s k => (s.setBoth k .unused).setPosition k none) s
  { s with rgt := { s.rgt with dirty := false } }

/-- A first-enrollment build completes: drive key, range key and slot record are made and the writes offered (R59). -/
def State.firstBuildEnds (s : State) : State :=
  match s.slt.build with
  | some (.firstBuilding code) =>
    let salt := s.freshCount
    let driveKey := Key.drive (s.freshCount + 1)
    let rangeKey := Key.range (s.freshCount + 2)
    let stale := staleRanges s.rgt.live
    let record := enrolledRecord code firstOrder driveKey salt
    let wrappedRange : Wrapped := { key := rangeKey, under := driveKey }
    let s := s.spendFresh.spendFresh.spendFresh
    let s := (s.firstRanges wrappedRange).setWorking (.slt 0 record)
    let offered := s.offerFirst
      ([.rng 0 (.factoryZero (some wrappedRange))] ++ stale.map (fun k => .rng k .unused) ++ [.slt 0 record])
    offered.1.setBuild (some (.firstWriting offered.2 false (.code code salt)
      { key := driveKey, under := .code code salt }))
  | _ => s

/-- The EMPTY write of slot 0 that a refused first enrollment owes is offered; the refusal ends when it is admitted
(R60). -/
def State.offerEmptyZero (s : State) : State :=
  let offered := s.offer .ordinary (.slt 0 .empty) none
  if offered.2 then offered.1.setBuild none else offered.1.setBuild (some .firstRefused)

/-- A write of a first enrollment has ended; at the SLT0 write the enrollment continues or is refused (R60). -/
def State.firstWriteEnds (s : State) (cell : Cell) (completed : Bool) : State :=
  match s.slt.build with
  | some (.firstWriting held failed codeKey wrapped) =>
    let failed := failed || !completed
    if cell = .slt 0 then
      if failed then
        let s := s.setFlag .enrollFailed
        if completed then s.offerEmptyZero else (s.setWorking (.slt 0 .empty)).setBuild none
      else
        let s := (s.setBuild none).setFlag .enrollDone
        let s := { s with slt := { s.slt with
          matchHold := some { codeKey := codeKey, wrapped := wrapped, slot := 0 } } }
        s.startUnwrap true true
    else s.setBuild (some (.firstWriting held failed codeKey wrapped))
  | _ => s

/-- Whether a first enrollment handed over earlier is still in flight (R31). -/
def Slt.firstInFlight (t : Slt) : Bool :=
  (match t.build with
   | some (.firstBuilding _) | some (.firstWriting _ _ _ _) | some .firstRefused => true
   | _ => false) ||
  (match t.unwrap with
   | some u => u.first
   | none => false)

/-! ### Re-offers (R53, R56, R59, R60) -/

/-- SLT offers its held writes again after a settings-group write has ended. A retirement is offered before a build's write,
and it carries the record that its slot holds now (entries 23 and 38). -/
def State.reofferSlots (s : State) : State :=
  let s := match s.slt.heldRetirement with
    | some k =>
      let offered := s.offer .ordinary (.slt k s.slt.slots[k]) (some .retirement)
      if offered.2 then { offered.1 with slt := { offered.1.slt with heldRetirement := none } } else offered.1
    | none => s
  match s.slt.build with
  | some (.enrollHeld k record) =>
    let offered := s.offer .ordinary (.slt k record) none
    if offered.2 then (offered.1.setBuild none).setFlag .enrollDone else offered.1
  | some (.firstWriting held failed codeKey wrapped) =>
    let offered := s.offerFirst held
    offered.1.setBuild (some (.firstWriting offered.2 failed codeKey wrapped))
  | some .firstRefused => s.offerEmptyZero
  | _ => s

end Sys2Proof.Machine
end

