-- ==== Sys2Proof/Machine/Entry.lean ====
section
/-! DEFINITION. The keypad (02): the scanner's key events and the Entry Unit's treatment of them. -/

namespace Sys2Proof.Machine

/-! ### The Entry Unit (R30 to R39) -/

/-- A key event of the scanner (02, introduction). -/
inductive KeyEvent where
  | digit (d : Digit)
  | lock
  | unlock
  | chord
  deriving DecidableEq, Repr

/-- The most digits an entry buffer holds (R32). -/
def entryLimit : Nat := 15

/-- The fewest digits an entry may end with (R34). -/
def entryLeast : Nat := 6

/-- An entry begins: COLLECTING with a purpose, a first buffer and an order, the entry timer from zero (R30, R33). -/
def State.startEntry (s : State) (purpose : Purpose) (buffer : List Digit) (order : Option EnrollOrder) : State :=
  { s with enu := { s.enu.toIdle with
      state := .collecting, purpose := some purpose, buffer := buffer, order := order, entryTimer := .running 0 } }

/-- A key event taken in IDLE, by the lock state (R30, R31). -/
def State.idleKey (s : State) (l : LockState) (e : KeyEvent) : State :=
  match e, l with
  | .digit d, .blank =>
    if s.lkc.idnFault || s.slt.firstInFlight then s else s.startEntry .enroll1 [d] (some firstOrder)
  | .digit d, .locked => s.startEntry .unlock [d] none
  | .chord, .locked | .chord, .openPending | .chord, .opened => s.startEntry .admin [] none
  | .lock, _ => s.lockEvent .key
  | _, _ => s

/-- A DIGIT taken in COLLECTING (R32). -/
def Enu.addDigit (e : Enu) (d : Digit) : Enu :=
  if e.buffer.length < entryLimit then { e with buffer := e.buffer ++ [d], entryTimer := .running 0 }
  else { e with overlong := true, entryTimer := .running 0 }

/-- The entry goes to a code check, the four steps in order (R35). -/
def State.enterChecking (s : State) (purpose : Purpose) : State :=
  let s := { s with slt := { s.slt with
    verification := some { digits := s.enu.buffer, purpose := purpose, snapshot := none, voided := false } } }
  let s := { s with enu := { s.enu.toIdle with state := .checking, purpose := some purpose } }
  s.charge purpose

/-- The ENROLL1 digits move to the confirm buffer and the entry continues as ENROLL2 (R36). -/
def Enu.toConfirm (e : Enu) : Enu :=
  { e with purpose := some .enroll2, confirm := e.buffer, buffer := [], entryTimer := .running 0 }

/-- The end of an ENROLL2 entry: the code is handed to the Slot Table or the enrollment is abandoned (R37). -/
def State.endEnroll (s : State) : State :=
  let code := s.enu.buffer
  match s.enu.order with
  | some order =>
    if code = s.enu.confirm && (s.lkc.lockState = some .blank || s.lkc.session) then
      let s := { s with enu := s.enu.toIdle }
      if s.lkc.lockState = some .blank then s.startFirstEnrollment code else s.startEnrollment code order
    else s.abandonEntry
  | none => s.abandonEntry

/-- An UNLOCK taken in COLLECTING ends the entry (R34 to R37). -/
def State.endEntry (s : State) : State :=
  if s.enu.buffer.length < entryLeast || s.enu.overlong then s.abandonEntry
  else
    match s.enu.purpose with
    | some .unlock => s.enterChecking .unlock
    | some .admin => s.enterChecking .admin
    | some .enroll1 => { s with enu := s.enu.toConfirm }
    | some .enroll2 => s.endEnroll
    | none => s.abandonEntry

/-- A key event taken in COLLECTING (R32, R34, R38). -/
def State.collectingKey (s : State) (e : KeyEvent) : State :=
  match e with
  | .digit d => { s with enu := s.enu.addDigit d }
  | .chord => s
  | .unlock => s.endEntry
  | .lock => s.abandonEntry.lockEvent .key

/-- The standby timer is restarted by a key event while it runs (R29, R44). -/
def State.restartStandby (s : State) : State :=
  { s with enu := { s.enu with standbyTimer := s.enu.standbyTimer.restarted } }

/-- A key event reaches the entry unit (R30, R39, R41, R42). -/
def State.keyEvent (s : State) (e : KeyEvent) : State :=
  let s := s.restartStandby
  match s.lkc.lockState with
  | none | some .erasing => s
  | some l =>
    match s.enu.state with
    | .idle => s.idleKey l e
    | .collecting => s.collectingKey e
    | .checking | .holdoff => if e = .lock then s.lockEvent .key else s

/-- The entry timer has reached its 12 s (R33). -/
def Enu.entryDue (e : Enu) : Bool := e.entryTimer.reached Config.entryMs

/-- The entry timer expires: the entry is abandoned (R33). -/
def State.entryExpiry (s : State) : State :=
  if s.enu.entryDue then s.abandonEntry else s

/-! ### The Keypad Scanner (R26 to R29, R46) -/

/-- Whether a key's debounced state is DOWN. -/
def Ksc.isDown (k : Ksc) (key : PadKey) : Bool := k.down[padIndex key]

/-- The number of the debounced states that are DOWN is zero. -/
def Ksc.allUp (k : Ksc) : Bool := (List.finRange 12).all (fun i => !k.down[i])

/-- A key's debounced state changes. -/
def Ksc.setDown (k : Ksc) (key : PadKey) (v : Bool) : Ksc := { k with down := k.down.set (padIndex key) v }

/-- The other key of the chord (R28). -/
def chordPartner : PadKey → Option PadKey
  | .lock => some .unlock
  | .unlock => some .lock
  | .digit _ => none

/-- The event a key gives (R27, R28). -/
def eventOf : PadKey → KeyEvent
  | .digit d => .digit d
  | .lock => .lock
  | .unlock => .unlock

/-- The scanner takes a value. -/
def State.setKsc (s : State) (k : Ksc) : State := { s with ksc := k }

/-- An accepted press in WAKE scan mode wakes the part and gives no event; the key becomes the held key only if no key was
held (R46, R99). -/
def State.wakePress (s : State) (key : PadKey) : State :=
  let s := s.wake
  if s.ksc.held.isNone then s.setKsc { s.ksc.setDown key true with held := some key }
  else s.setKsc (s.ksc.setDown key true)

/-- An accepted press in FULL scan mode (R27, R28). -/
def State.fullPress (s : State) (key : PadKey) : State :=
  let free := s.ksc.held.isNone && s.ksc.allUp
  let k := s.ksc.setDown key true
  if free then
    match key with
    | .digit d => (s.setKsc { k with held := some key }).keyEvent (.digit d)
    | .lock | .unlock => s.setKsc { k with held := some key, chord := .pairing, pairingTimer := .running 0 }
  else if k.chord = .pairing && k.held.bind chordPartner = some key then
    s.setKsc { k with chord := .forming, pairingTimer := .stopped, chordTimer := .running 0 }
  else s.setKsc k

/-- An accepted press of a key (R26, R27). -/
def State.press (s : State) (key : PadKey) : State :=
  if s.ksc.isDown key then s
  else if s.ksc.scanMode = .wake then s.wakePress key
  else s.fullPress key

/-- Both chord keys are UP. -/
def Ksc.chordKeysUp (k : Ksc) : Bool := !k.isDown .lock && !k.isDown .unlock

/-- Whether a key is LOCK or UNLOCK. -/
def isChordKey (key : PadKey) : Bool := (chordPartner key).isSome

/-- The chord state and the held key after a release that leaves the chord FORMED or ABANDONED (R29). -/
def Ksc.settleChord (k : Ksc) : Ksc := if k.chordKeysUp then { k with chord := .none, held := none } else k

/-- An accepted release of a key (R26 to R29). -/
def State.release (s : State) (key : PadKey) : State :=
  if !s.ksc.isDown key then s
  else
    let k := s.ksc.setDown key false
    match k.chord with
    | .pairing =>
      if k.held = some key then
        (s.setKsc { k with held := none, chord := .none, pairingTimer := .stopped }).keyEvent (eventOf key)
      else s.setKsc k
    | .forming =>
      if isChordKey key then
        s.setKsc { k with chord := .abandoned, chordTimer := .stopped }.settleChord
      else s.setKsc k
    | .formed | .abandoned => s.setKsc k.settleChord
    | .none => s.setKsc (if k.held = some key then { k with held := none } else k)

/-- The pairing window has reached its 20 ms (R28). -/
def Ksc.pairingDue (k : Ksc) : Bool := k.chord = .pairing && k.pairingTimer.reached Config.pairingMs

/-- The chord timer has reached its 1 s (R29). -/
def Ksc.chordDue (k : Ksc) : Bool := k.chord = .forming && k.chordTimer.reached Config.chordMs

/-- The pairing timer expires: the held key's event is taken (R28). -/
def State.pairingExpiry (s : State) : State :=
  if s.ksc.pairingDue then
    let s' := s.setKsc { s.ksc with chord := .none, pairingTimer := .stopped }
    match s.ksc.held with
    | some key => s'.keyEvent (eventOf key)
    | none => s'
  else s

/-- The chord timer expires: a CHORD event is taken (R29). -/
def State.chordExpiry (s : State) : State :=
  if s.ksc.chordDue then
    (s.setKsc { s.ksc with chord := .formed, chordTimer := .stopped }).keyEvent .chord
  else s

/-- The scanner as the part enters STANDBY (R45, R99). -/
def Ksc.enterStandby (k : Ksc) : Ksc :=
  match k.chord with
  | .pairing => { k with scanMode := .wake, chord := .none, pairingTimer := .stopped }
  | .forming => { k with scanMode := .wake, chord := .abandoned, chordTimer := .stopped }
  | _ => { k with scanMode := .wake }

/-- The standby timer has reached its 30 s (R44). -/
def Enu.standbyDue (e : Enu) : Bool := e.standbyTimer.reached Config.standbyMs

/-- The standby timer expires: the part enters STANDBY (R45). It occurs only where the timer has reached its preset, so a key
event that restarted it first leaves no expiry (R89, R99). -/
def State.standbyExpiry (s : State) : State :=
  if s.enu.standbyDue then
    { s with enu := { s.enu with standby := true, standbyTimer := .held }, ksc := s.ksc.enterStandby }
  else s

end Sys2Proof.Machine
end

