-- ==== Sys2Proof/Machine/Access.lean ====
section
/-! DEFINITION. Range tables (R104, R105), the access decision (R116 to R121) and the deferred query queue (R128, R138 to
R141). -/

namespace Sys2Proof.Machine

/-! ### Spans (R104, R105) -/

/-- The number of LBAs. -/
def lbaLimit : Nat := 4294967296

/-- One past the last LBA of a DEFINED record, TO_END resolved against the capacity (R104). -/
def RangeDef.stop (d : RangeDef) (capacity : Nat) : Nat :=
  match d.count with
  | .sectors n => d.start.toNat + n.toNat
  | .toEnd => min capacity lbaLimit

/-- Two records share an LBA, TO_END taken to LBA 4,294,967,295 (R104, R105 condition 1). -/
def RangeDef.overlaps (a b : RangeDef) : Bool :=
  a.start.toNat < b.stop lbaLimit && b.start.toNat < a.stop lbaLimit

/-- Whether two records conflict. -/
def RangeRecord.conflicts : RangeRecord → RangeRecord → Bool
  | .defined a, .defined b => a.overlaps b
  | _, _ => false

/-- Whether record k of a table conflicts with none of the other records (R105, R107). -/
def tableFits (t : Vector RangeRecord 8) (k : RangeIx) : Bool :=
  allRanges.all (fun j => j = k || !(t[k].conflicts t[j]))

/-- The table with conflicting records of higher index read as UNUSED, index by index (R114 step 2). -/
def setAside (t : Vector RangeRecord 8) : Vector RangeRecord 8 :=
  allRanges.foldl (fun acc k =>
    if allRanges.any (fun j => j < k && acc[k].conflicts acc[j]) then acc.set k .unused else acc) t

/-! ### The decision (R116 to R121) -/

/-- The outcome of a decision: an answer, or a hand-over for a range (R121). -/
inductive Verdict where
  | answer (d : Decision)
  | load (r : RangeIx)
  deriving DecidableEq, Repr

/-- The capacity that decisions read; absent reads as 0, which no decision meets (R179). -/
def State.capacityNat (s : State) : Nat := (s.mpt.capacity.getD 0).toNat

/-- Whether a live record holds an LBA (R104). -/
def RangeRecord.holdsLba (r : RangeRecord) (capacity lba : Nat) : Bool :=
  match r with
  | .defined d => d.start.toNat ≤ lba && lba < d.stop capacity
  | .unused => false

/-- The DEFINED live range that holds an LBA (R116 step 7). -/
def State.rangeAt (s : State) (lba : Nat) : Option (RangeIx × RangeDef) :=
  (allRanges.find? (fun k => s.rgt.live[k].holdsLba s.capacityNat lba)).bind (fun k => match s.rgt.live[k] with
    | .defined d => some (k, d)
    | .unused => none)

/-- The granted count: the least of the count asked, the rest of the range, the rest of the media, and 4096 (R117). -/
def grantedCount (d : RangeDef) (capacity lba count : Nat) : Nat :=
  min count (min (d.stop capacity) (min capacity (lba + 4096)) - lba)

/-- Whether a range can be reached (R118; entry 31 for an attached OPEN_PENDING, which does not arise). -/
def State.canReach (s : State) (r : RangeIx) (d : RangeDef) : Bool :=
  d.cls = .pub || (s.lkc.lockState = some .opened && maskHas s.lkc.mask r)

/-- The outcome for a range that cannot be reached (R119). -/
def unreachable (d : RangeDef) (dir : Direction) (granted : Nat) (part : Bool) : Decision :=
  if d.cls = .hidden then .deny .outside
  else if dir = .read && d.denial = .fill then .fill granted part
  else .deny .locked

/-- A write to a reachable range is refused (R120). -/
def State.writeRefused (s : State) (d : RangeDef) : Bool :=
  d.policy = .readOnly || s.lkc.role = some .reader || (d.cls = .pub && s.lkc.lockState != some .opened)

/-- The outcome at step 11 (R121). -/
def State.grantOrLoad (s : State) (r : RangeIx) (granted : Nat) (part : Bool) : Verdict :=
  if s.lkc.keyBuffer[r].isNone then .answer (.deny .fault)
  else match s.cxm.loadedFor r with
    | some i => .answer (.grant i granted part)
    | none => .load r

/-- Steps 7 to 11 of the decision (R116). -/
def State.decideSpan (s : State) (q : Query) : Verdict :=
  match s.rangeAt q.lba.toNat with
  | none => .answer (.deny .outside)
  | some (r, d) =>
    let granted := grantedCount d s.capacityNat q.lba.toNat q.count.toNat
    let part := decide (granted < q.count.toNat)
    if !s.canReach r d then .answer (unreachable d q.dir granted part)
    else if q.dir = .write && s.writeRefused d then .answer (.deny .readOnly)
    else s.grantOrLoad r granted part

/-- The decision of a query, its first outcome that applies (R116). -/
def State.decideQuery (s : State) (q : Query) : Verdict :=
  match s.lkc.lockState with
  | none => .answer (.deny .notReady)
  | some l =>
    if s.lkc.idnFault then .answer (.deny .fault)
    else if q.count = 0 then .answer (.deny .format)
    else if l = .erasing then .answer (.deny .erasing)
    else if l = .blank then .answer (.deny .blank)
    else if !s.mpt.attached then .answer (.deny .notReady)
    else if s.capacityNat ≤ q.lba.toNat then .answer (.deny .bounds)
    else s.decideSpan q

/-- The decision as an outcome to be stored, where it is one (R132). -/
def State.decideStored (s : State) (q : Query) : Option Decision :=
  match s.decideQuery q with
  | .answer d => some d
  | .load _ => none

/-! ### Answers -/

/-- The answer frame of a decision (R115). -/
def Decision.frame (tag : Byte) : Decision → OutFrame
  | .grant i g p => .grant tag i g p
  | .fill g p => .fill tag g p
  | .deny r => .deny tag r

/-- An answer is given: its frame is placed, a GRANT moves its context to the head of the LRU list, a GRANT or FILL
restarts the idle lock timer in OPEN (R18, R127, R177). -/
def State.giveAnswer (s : State) (tag : Byte) (d : Decision) : State :=
  let s := s.sendAnswer (d.frame tag)
  match d with
  | .grant i _ _ => (s.touchContext i).restartIdle
  | .fill _ _ => s.restartIdle
  | .deny _ => s

/-! ### The deferred query queue -/

/-- The length of the deferred query queue (R137). -/
def parkLimit : Nat := 4

/-- A query is parked WAITING for a range (R137). -/
def State.park (s : State) (q : Query) (r : RangeIx) : State :=
  { s with dqq := s.dqq ++ [{ query := q, range := r, state := .waiting }] }

/-- A query handed over for a range: RETRY, with or without a park and a load (R128). -/
def State.handOver (s : State) (q : Query) (r : RangeIx) : State :=
  let answered := s.sendAnswer (.retry q.tag)
  if parkLimit ≤ s.dqq.length then answered
  else if s.cxm.loadingFor r then answered.park q r
  else match s.chooseContext with
    | some i => (answered.park q r).beginLoad i r
    | none => answered

/-- A query decided afresh (R116, R121). -/
def State.answerFresh (s : State) (q : Query) : State :=
  match s.decideQuery q with
  | .answer d => s.giveAnswer q.tag d
  | .load r => s.handOver q r

/-- Whether a stored decision still holds (R140). -/
def State.stillHolds (s : State) (r : RangeIx) (d : Decision) (stale : Bool) : Bool :=
  !stale && (match d with
    | .grant i _ _ => (match s.cxm.entries[i] with
      | .loaded q _ => q = r
      | _ => false)
    | _ => true)

/-- The entries with one match key leave the queue. -/
def State.unpark (s : State) (q : Query) : State := { s with dqq := s.dqq.filter (fun p => p.query != q) }

/-- A query that reaches the ADU (R115, R138). -/
def State.takeQuery (s : State) (q : Query) : State :=
  match s.dqq.find? (fun p => p.query = q) with
  | none => s.answerFresh q
  | some p =>
    match p.state with
    | .waiting => s.sendAnswer (.retry q.tag)
    | .ready d stale _ =>
      if s.stillHolds p.range d stale then (s.unpark q).giveAnswer q.tag d
      else (s.unpark q).answerFresh q

/-- Whether a parked entry's repeat timer has reached its 50 ms (R139). -/
def Parked.due (p : Parked) : Bool :=
  match p.state with
  | .ready _ _ e => Config.repeatMs ≤ e
  | .waiting => false

/-- A READY entry at a place of the queue is discarded at 50 ms with DISCARD set (R139). -/
def State.discardParked (s : State) (place : Nat) : State :=
  if s.dqq[place]?.any Parked.due then { s with dqq := s.dqq.eraseIdx place }.setFlag .discard else s

/-! ### Replies of the bridge -/

/-- A context number that a frame carries (R134, R135). -/
def contextOf (b : Byte) : Option CtxIx := if h : b.toNat < 4 then some ⟨b.toNat, h⟩ else none

/-- A KEYACK for context i (R131 to R134). -/
def State.keyAck (s : State) (i : CtxIx) (order : Byte) (ok : Bool) : State :=
  match s.cxm.entries[i] with
  | .loading r o _ _ =>
    if o = order then
      if ok then
        let s := (s.setEntry i (.loaded r o)).touchContext i
        { s with dqq := resolveWaiting s.dqq r s.decideStored }
      else s.loadTryFailed i
    else s
  | _ => s

/-- The reply timer of a LOADING entry expires (R133). -/
def State.keyloadTimeout (s : State) (i : CtxIx) : State :=
  match s.cxm.entries[i] with
  | .loading _ _ _ timer => if timer.due then s.loadTryFailed i else s
  | _ => s

/-- A PURGEACK for context i (R135). -/
def State.purgeAck (s : State) (i : CtxIx) (order : Byte) : State :=
  match s.cxm.entries[i] with
  | .purging _ o _ => if o = order then s.setEntry i .empty else s
  | _ => s

/-- The reply timer of a PURGING entry expires: the PURGE is queued again (R135). -/
def State.purgeTimeout (s : State) (i : CtxIx) : State :=
  match s.cxm.entries[i] with
  | .purging r o timer => if timer.due then s.sendPurge i r o else s
  | _ => s

end Sys2Proof.Machine
end

