-- ==== Sys2Proof/Machine/Frames.lean ====
section
/-! DEFINITION. The frames of the two serial ports (10.5): what the port sends, and how it reads what it receives (R175,
R181); the encoders of the bridge's frames and the panel's requests beside their readers. -/

namespace Sys2Proof.Machine

/-! ### Frames of the media port -/

/-- The bytes of a media port transaction (R174). -/
def transactionBytes : Nat := 44

/-- A media port frame: sync, type, length, payload, CRC, filled to 44 bytes (10.5). -/
def mediaFrame (type : Byte) (payload : List Byte) : List Byte :=
  let body := type :: BitVec.ofNat 8 payload.length :: payload
  let frame := 0xC3#8 :: body ++ [crc8 body]
  frame ++ List.replicate (transactionBytes - frame.length) 0

/-- The type of a frame to the bridge (10.5). -/
def OutFrame.type : OutFrame → Byte
  | .grant _ _ _ _ => 0x81 | .fill _ _ _ => 0x82 | .deny _ _ => 0x83 | .retry _ => 0x84 | .error _ _ => 0x85
  | .keyload _ _ _ => 0x86 | .purge _ _ => 0x87 | .sweep _ _ => 0x88 | .state _ => 0x89

/-- The payload of a frame to the bridge (10.5). -/
def OutFrame.payload : OutFrame → List Byte
  | .grant tag i g p => [tag, BitVec.ofNat 8 i.val] ++ beBytes 2 g ++ [boolCode p]
  | .fill tag g p => [tag] ++ beBytes 2 g ++ [boolCode p]
  | .deny tag r => [tag, r.code]
  | .retry tag => [tag]
  | .error received tag => [0x01, received, tag]
  | .keyload i o k => [BitVec.ofNat 8 i.val, o] ++ beBytes 32 (Config.keyBytes k).toNat
  | .purge i o => [BitVec.ofNat 8 i.val, o]
  | .sweep start count => beBytes 4 start.toNat ++ beBytes 2 count
  | .state l => [l.code]

/-- The 44 bytes on MISO that carry a frame (R174). -/
def OutFrame.bytes (f : OutFrame) : List Byte := mediaFrame f.type f.payload

/-- The 44 bytes on MISO of the next transaction: the head of the outbound queue, or 00h (R174). -/
def State.miso (s : State) : List Byte :=
  match s.mpt.outbound.head? with
  | some f => f.bytes
  | none => List.replicate transactionBytes 0

/-- What a port makes of the bytes received (R175, R181). -/
inductive Received where
  /-- no frame (R175), or a write that is no request (R181) -/
  | nothing
  /-- dropped silently (R175) -/
  | dropped
  /-- answered with an ERROR frame of reason FORMAT (R175) -/
  | malformed (type tag : Byte)
  /-- an ERROR reply with this result (R181) -/
  | bad (result : ReplyResult)
  /-- well-formed -/
  | command (i : Instr)
  deriving DecidableEq, Repr

/-- The command that a bridge frame's type and payload spell; none where type, length or a coded field is out of place
(R175, 10.5). -/
def bridgeCommand (sent : Bool) (type : Byte) (payload : List Byte) : Option Instr :=
  match payload with
  | [] => if type = 0x03 then some (.detach sent) else if type = 0x04 then some (.hostlock sent)
    else if type = 0x08 then some (.linkreset sent) else none
  | [c, o] => if type = 0x06 then some (.purgeack sent c o) else none
  | [c, o, r] => if type = 0x05 then (flagOf r).map (fun fail => .keyack sent c o (!fail)) else none
  | [a, b, c, d, e, f, r] =>
    if type = 0x07 then (flagOf r).map (fun fail =>
      .swept sent (BitVec.ofNat 32 (beValue [a, b, c, d])) (BitVec.ofNat 16 (beValue [e, f])) (!fail))
    else none
  | [a, b, c, d, e, f, g, h] =>
    if type = 0x01 then
      if a.toNat ≤ 15 then (directionOf h).map (fun dir =>
        .access sent a (BitVec.ofNat 32 (beValue [b, c, d, e])) (BitVec.ofNat 16 (beValue [f, g])) dir)
      else none
    else if type = 0x02 then some (.attach sent (BitVec.ofNat 64 (beValue [a, b, c, d, e, f, g, h])))
    else none
  | _ => none

/-- The tag that an ERROR frame carries (R175). -/
def errorTag (type length : Byte) (payload : List Byte) : Byte :=
  match payload with
  | t :: _ => if type = 0x01 && 1 ≤ length.toNat && t.toNat ≤ 15 then t else 0xFF
  | [] => 0xFF

/-- The reading of the 44 bytes received on MOSI, by the first case that applies (R175). -/
def readBridge (sent : Bool) : List Byte → Received
  | sync :: type :: length :: rest =>
    if sync = 0x00 then .nothing
    else if sync != 0xC3 then .dropped
    else if 40 < length.toNat then .malformed type (errorTag type length rest)
    else
      let payload := rest.take length.toNat
      if rest[length.toNat]? != some (crc8 (type :: length :: payload)) then .dropped
      else match bridgeCommand sent type payload with
        | some i => .command i
        | none => .malformed type (errorTag type length payload)
  | sync :: _ => if sync = 0x00 then .nothing else .dropped
  | [] => .nothing

/-- The type and payload of a bridge frame, for the commands that one carries (10.5). -/
def bridgeEncoding : Instr → Option (Byte × List Byte)
  | .access _ tag lba count dir =>
    some (0x01, [tag] ++ beBytes 4 lba.toNat ++ beBytes 2 count.toNat ++ [directionCode dir])
  | .attach _ capacity => some (0x02, beBytes 8 capacity.toNat)
  | .detach _ => some (0x03, [])
  | .hostlock _ => some (0x04, [])
  | .keyack _ context order ok => some (0x05, [context, order, boolCode (!ok)])
  | .purgeack _ context order => some (0x06, [context, order])
  | .swept _ start count ok => some (0x07, beBytes 4 start.toNat ++ beBytes 2 count.toNat ++ [boolCode (!ok)])
  | .linkreset _ => some (0x08, [])
  | _ => none

/-- The 44 bytes on MOSI that carry a command of the bridge (R174). -/
def bridgeBytes (i : Instr) : Option (List Byte) := (bridgeEncoding i).map (fun e => mediaFrame e.1 e.2)

/-- The `sent` mark of a command that a bridge frame carries. -/
def sentMark : Instr → Bool
  | .access sent _ _ _ _ => sent
  | .attach sent _ | .detach sent | .hostlock sent | .keyack sent _ _ _ | .purgeack sent _ _
  | .swept sent _ _ _ | .linkreset sent => sent
  | _ => false

/-! ### Frames of the panel port -/

/-- A panel port frame: type, length, payload, CRC (10.5). -/
def panelFrame (type : Byte) (payload : List Byte) : List Byte :=
  let body := type :: BitVec.ofNat 8 payload.length :: payload
  body ++ [crc8 body]

/-- The bytes of the reply buffer (R181). -/
def Reply.bytes (r : Reply) : List Byte := panelFrame r.type r.payload

/-- What an I2C read of `n` bytes returns: the reply buffer, then FFh (R181). -/
def State.panelRead (s : State) (n : Nat) : List Byte := (s.ppt.reply.bytes ++ List.replicate n 0xFF).take n

/-- The fields of a SET SETTINGS payload. -/
def readSettings : List Byte → Option (List (Byte × BitVec 16))
  | [] => some []
  | f :: hi :: lo :: rest =>
    (readSettings rest).map (fun l => (f, BitVec.ofNat 16 (beValue [hi, lo])) :: l)
  | _ => none

/-- The payload of a SET SETTINGS request. -/
def settingsPayload : List (Byte × BitVec 16) → List Byte
  | [] => []
  | e :: rest => e.1 :: beBytes 2 e.2.toNat ++ settingsPayload rest

/-- The request that a panel frame's type and payload spell; none where the type is no request's or the length is not
allowed for it (R181, 10.5). -/
def panelCommand (type : Byte) (payload : List Byte) : Option Instr :=
  if type = 0x14 then
    if 3 ≤ payload.length && payload.length ≤ 21 then (readSettings payload).map Instr.setSettings else none
  else match payload with
  | [] => if type = 0x01 then some .status else if type = 0x04 then some .lockRequest
    else if type = 0x05 then some .restart else if type = 0x15 then some .erase
    else if type = 0x16 then some .endSession else none
  | [a] => if type = 0x11 then some (.remove a) else if type = 0x13 then some (.dropRange a) else none
  | [a, b] => if type = 0x02 then some (.ack (BitVec.ofNat 16 (beValue [a, b])))
    else if type = 0x03 then some (.setAlertEnables (BitVec.ofNat 16 (beValue [a, b]))) else none
  | [a, b, c, d] => if type = 0x10 then some (.enroll a b c d) else none
  | [a, b, c, d, e, f, g, h, i, j, k, l] =>
    if type = 0x12 then some (.setRange a (BitVec.ofNat 32 (beValue [b, c, d, e]))
      (BitVec.ofNat 32 (beValue [f, g, h, i])) j k l) else none
  | _ => none

/-- The reading of a write transfer to the panel port, by the first case that applies (R181). -/
def readPanel : List Byte → Received
  | [] => .nothing
  | type :: length :: rest =>
    let payload := rest.take length.toNat
    if rest[length.toNat]? != some (crc8 (type :: length :: payload)) then .bad .check
    else if length.toNat + 1 < rest.length then .bad .format
    else match panelCommand type payload with
      | some i => .command i
      | none => .bad .format
  | _ => .bad .check

/-- The type and payload of a request frame, for the commands that one carries (10.5). -/
def panelEncoding : Instr → Option (Byte × List Byte)
  | .status => some (0x01, [])
  | .ack flags => some (0x02, beBytes 2 flags.toNat)
  | .setAlertEnables enables => some (0x03, beBytes 2 enables.toNat)
  | .lockRequest => some (0x04, [])
  | .restart => some (0x05, [])
  | .enroll slot role mask once => some (0x10, [slot, role, mask, once])
  | .remove slot => some (0x11, [slot])
  | .setRange index start count cls policy denial =>
    some (0x12, [index] ++ beBytes 4 start.toNat ++ beBytes 4 count.toNat ++ [cls, policy, denial])
  | .dropRange index => some (0x13, [index])
  | .setSettings entries => some (0x14, settingsPayload entries)
  | .erase => some (0x15, [])
  | .endSession => some (0x16, [])
  | _ => none

/-- The bytes that a request writes (R181). -/
def panelBytes (i : Instr) : Option (List Byte) := (panelEncoding i).map (fun e => panelFrame e.1 e.2)

/-! ### Replies -/

/-- A reply that carries its result alone (10.5). -/
def resultReply (requestType : Byte) (r : ReplyResult) : Reply := { type := requestType + 0x80, payload := [r.code] }

/-- The ERROR reply (R181). -/
def errorReply (r : ReplyResult) : Reply := { type := 0xFF, payload := [r.code] }

/-- The reply of SET RANGE: result, the record as in the request, the key byte (R108, R186). -/
def setRangeReply (r : ReplyResult) (index : Byte) (start count : Lba) (cls policy denial key : Byte) : Reply :=
  { type := 0x92,
    payload := [r.code, index] ++ beBytes 4 start.toNat ++ beBytes 4 count.toNat ++ [cls, policy, denial, key] }

/-- The reply of SET SETTINGS: result and held list (R186, R188). -/
def settingsReply (r : ReplyResult) (held : Byte) : Reply := { type := 0x94, payload := [r.code, held] }

/-- The STATUS reply's length (10.5). -/
def statusLength : Nat := 74

/-- A STATUS reply refused at gate 1: BUSY, and bytes the manual does not state, in the type's length (R185, R186;
entry 17). -/
def refusedStatus : Reply :=
  { type := 0x81,
    payload := ReplyResult.busy.code :: (List.range (statusLength - 1)).map Config.refusedStatusByte }

/-- The attached flag and the capacity in STATUS, bytes 6 to 14. -/
def Mpt.statusBytes (m : Mpt) : List Byte :=
  boolCode m.attached :: beBytes 8 (m.capacity.getD 0).toNat

/-- The identity in STATUS, bytes 54 to 64. -/
def State.identityBytes (s : State) : List Byte :=
  match s.stc.idn with
  | some id =>
    if s.lkc.idnFault then 0x01 :: List.replicate 10 0xFF
    else 0x00 :: beBytes 8 id.serial.toNat ++ beBytes 2 id.product.toNat
  | none => 0x01 :: List.replicate 10 0xFF

/-- The STATUS record from store-ready onward (R189, 10.5). -/
def State.statusRecord (s : State) (l : LockState) : List Byte :=
  [l.code, s.enu.state.code, orFF (s.enu.purpose.map Purpose.code), BitVec.ofNat 8 s.atg.counter] ++
  beBytes 2 s.atg.remaining ++ s.mpt.statusBytes ++
  [boolCode s.lkc.session, orFF (s.lkc.role.map Role.code), s.lkc.mask] ++
  allSlots.flatMap (fun k => s.slt.slots[k].statusBytes) ++
  [s.ere.journal.phase.code] ++
  (match s.ere.journal.cursor with
   | some c => beBytes 4 c.toNat
   | none => List.replicate 4 0xFF) ++
  [boolCode s.ere.journal.incomplete, BitVec.ofNat 8 s.stc.depth] ++ beBytes 2 s.ppt.flags.toNat ++
  [s.ppt.startCause.code, boolCode s.ppt.unresolved] ++ s.identityBytes ++ s.stc.cfg.statusBytes

/-- The STATUS record before store-ready: FFh but for the lock state (STARTING, also FFh), the attached flag, the
capacity and the start cause (R189). -/
def State.startingRecord (s : State) : List Byte :=
  List.replicate 6 0xFF ++ s.mpt.statusBytes ++ List.replicate 37 0xFF ++ [s.ppt.startCause.code] ++
    List.replicate 21 0xFF

/-- The STATUS reply (R189). -/
def State.statusReply (s : State) : Reply :=
  { type := 0x81,
    payload := match s.lkc.lockState with
      | some l => s.statusRecord l
      | none => s.startingRecord }

end Sys2Proof.Machine
end

