-- ==== Sys2Proof/Machine/Start.lean ====
section
/-! DEFINITION. Starts and store-ready (R24, R47, R66, R85 to R87, R101, R114, R142, R155, R158, R168 to R173, R192). -/

namespace Sys2Proof.Machine

/-- Every block at its start values over the cells as last written: what a supply start and a RESTART leave (R24, R47,
R66, R87, R101, R114, R142, R158, R173, R184, R194). -/
def State.started (s : State) (cells : Cells) (cause : StartCause) (pfwLow : Bool) : State :=
  { ksc := .start, enu := .start, slt := .start, atg := .start, lkc := .start, rgt := .start, cxm := .start,
    dqq := [], ere := .start, stc := .start cells, mpt := .start, ppt := .start cause pfwLow,
    powered := true, freshCount := s.freshCount, pending := s.pending }

/-- The supply fails: all volatile state is lost, and at most the cell of the write in progress is torn (R168). -/
def State.supplyLost (s : State) (point : LossPoint) : State :=
  let cells := match s.stc.writing with
    | some w => s.stc.cells.afterLoss w point
    | none => s.stc.cells
  { s.started cells .supply s.ppt.pfwLow with powered := false }

/-! ### The start-up read (R160, R170) -/

/-- The working sequence that the read of a cell gives (R170). -/
def Image.startSeq {α : Type} (f : CellFormat α) (i : Image α) : Byte :=
  if (i.read f).isSome then i.seqByte else 0

/-- The working sequences of the eighteen cells after the read (R170). -/
def Cells.startSeqs (c : Cells) : Vector Byte 18 :=
  #v[c.att.startSeq attFormat, c.bko.startSeq bkoFormat, c.ejr.startSeq ejrFormat,
     c.slt[0].startSeq (sltFormat 0), c.slt[1].startSeq (sltFormat 1),
     c.slt[2].startSeq (sltFormat 2), c.slt[3].startSeq (sltFormat 3),
     c.slt[4].startSeq (sltFormat 4),
     c.rng[0].startSeq (rngFormat 0), c.rng[1].startSeq (rngFormat 1),
     c.rng[2].startSeq (rngFormat 2), c.rng[3].startSeq (rngFormat 3),
     c.rng[4].startSeq (rngFormat 4), c.rng[5].startSeq (rngFormat 5),
     c.rng[6].startSeq (rngFormat 6), c.rng[7].startSeq (rngFormat 7),
     c.cfg.startSeq cfgFormat, c.idn.startSeq idnFormat]

/-- The counter as read, or none for a damaged ATT. -/
def Cells.readAtt (c : Cells) : Option Nat := c.att.read attFormat
/-- The back-off record as read, or none for a damaged BKO. -/
def Cells.readBko (c : Cells) : Option BackoffRecord := c.bko.read bkoFormat
/-- The journal as read, or none for a damaged EJR. -/
def Cells.readEjr (c : Cells) : Option Journal := c.ejr.read ejrFormat
/-- A slot record as read, or none for a damaged SLTk. -/
def Cells.readSlt (c : Cells) (k : SlotIx) : Option SlotRecord := c.slt[k].read (sltFormat k)
/-- A range record as read, or none for a damaged RNGk. -/
def Cells.readRng (c : Cells) (k : RangeIx) : Option RangeRecord := c.rng[k].read (rngFormat k)
/-- The settings as read, or none for a damaged CFG. -/
def Cells.readCfg (c : Cells) : Option Settings := c.cfg.read cfgFormat
/-- The identity as read, or none for a damaged IDN. -/
def Cells.readIdn (c : Cells) : Option Identity := c.idn.read idnFormat

/-- Whether any cell read damaged (R170). -/
def Cells.anyDamaged (c : Cells) : Bool :=
  c.readAtt.isNone || c.readBko.isNone || c.readEjr.isNone || allSlots.any (fun k => (c.readSlt k).isNone) ||
  allRanges.any (fun k => (c.readRng k).isNone) || c.readCfg.isNone || c.readIdn.isNone

/-- The settings after the read (R68, R170). -/
def Cells.startCfg (c : Cells) : Settings := c.readCfg.getD .factory
/-- The counter after the read: F+1 for a damaged ATT (R85). -/
def Cells.startCounter (c : Cells) : Nat := c.readAtt.getD (c.startCfg.F + 1)
/-- The back-off record after the read (R85). -/
def Cells.startBko (c : Cells) : BackoffRecord := c.readBko.getD .inactive
/-- The journal after the read: a damaged EJR reads ZEROISE 0 (R155). -/
def Cells.startJournal (c : Cells) : Journal := c.readEjr.getD (.at .zeroise 0)
/-- The slot records after the read (R49). -/
def Cells.startSlots (c : Cells) : Vector SlotRecord 5 := tab5 (fun k => (c.readSlt k).getD .empty)
/-- The range records after the read (R114 step 1). -/
def Cells.startRanges (c : Cells) : Vector RangeRecord 8 := tab8 (fun k => (c.readRng k).getD .unused)
/-- The live table that store-ready builds (R114 steps 1 and 2). -/
def Cells.startLive (c : Cells) : Vector RangeRecord 8 := setAside c.startRanges

/-- The lock state that store-ready determines (R2). -/
def startLockState (j : Journal) (slots : Vector SlotRecord 5) : LockState :=
  if j.phase != .idle then .erasing
  else if allSlots.all (fun k => slots[k] = .empty) then .blank
  else .locked

/-! ### Store-ready (R170) -/

/-- The working copies and working sequences take the values read (R161, R170). -/
def State.takeCells (s : State) : State :=
  let c := s.stc.cells
  { s with
    stc := { s.stc with seq := c.startSeqs, cfg := c.startCfg, idn := c.readIdn, ready := true },
    atg := { s.atg with counter := c.startCounter, bko := c.startBko },
    ere := { s.ere with journal := c.startJournal },
    slt := { s.slt with slots := c.startSlots },
    rgt := { live := c.startLive, staged := c.startLive, dirty := false },
    lkc := { s.lkc with idnFault := c.readIdn.isNone } }

/-- Whether an attempt is unresolved: the counter above 0 and BKO not active with a count equal to it (R86). -/
def Atg.unresolved (a : Atg) : Bool :=
  0 < a.counter && !(match a.bko.active with
    | some r => r.count = a.counter
    | none => false)

/-- The start-cause record is settled (R192). -/
def State.settleCause (s : State) : State :=
  { s with ppt := { s.ppt with
      startCause := if s.ppt.startCause = .supply && s.atg.bko.pfwSeen then .supplyAfterPfw else s.ppt.startCause,
      unresolved := s.ere.journal.phase = .idle && s.atg.unresolved } }

/-- The repairs of damaged ATT and CFG cells are offered, ATT first (R85, R170); the order is the model's (entry 52). -/
def State.repairCells (s : State) : State :=
  let c := s.stc.cells
  let s := if c.readAtt.isNone then s.offerGuard (.att s.atg.counter) none else s
  if c.readCfg.isNone then (s.offer .ordinary (.cfg s.stc.cfg) none).1 else s

/-- The PFW-seen mark is cleared in the working copy (R86). -/
def State.clearSeen (s : State) : State :=
  { s with atg := { s.atg with bko := { s.atg.bko with pfwSeen := false } } }

/-- The BKO write that carries the working copy, owed where PFW-seen was set or BKO read damaged (R85, R86; entry 29). -/
def State.oweBko (s : State) (owed : Bool) : State :=
  if owed then s.offerGuard (.bko s.atg.bko) none else s

/-- The elapsed value from which a back-off of count n resumes (R86). -/
def BackoffRecord.resumeAt (r : BackoffRecord) (n : Nat) : Nat :=
  match r.active with
  | some a => if a.count = n then a.elapsed else 0
  | none => 0

/-- The start-up evaluation, its first row that applies (R86). -/
def State.evaluate (s : State) : State :=
  let owed := s.atg.bko.pfwSeen || s.stc.cells.readBko.isNone
  let resume := s.atg.bko.resumeAt s.atg.counter
  let s := s.clearSeen
  if s.ere.journal.phase != .idle then s.oweBko owed
  else if s.stc.cfg.W ≤ s.atg.counter then s.eraseStart.oweBko owed
  else if s.stc.cfg.F < s.atg.counter then s.startBackoff s.atg.counter resume
  else if s.atg.bko.active.isSome then s.offerGuard (.bko { s.atg.bko with active := none }) none
  else s.oweBko owed

/-- A journal read in a phase other than IDLE resumes the erasure at its step (R155). -/
def State.resumeErase (s : State) : State :=
  match s.ere.journal.phase with
  | .idle => s
  | .sweep => (s.setFlag .eraseStarted).pausedOrOn
  | .zeroise | .ranges => (s.setFlag .eraseStarted).journalStep

/-- The public range keys are unwrapped into the key buffer, unless an erasure starts or resumes (R21). -/
def State.fillPublic (s : State) : State :=
  if s.lkc.lockState = some .erasing then s
  else { s with lkc := { s.lkc with keyBuffer := tab8 (fun k => s.publicKey s.rgt.live[k]) } }

/-- A PFW edge that was pending is taken after every block has rebuilt its state (R183). -/
def State.takePendingPfw (s : State) : State :=
  if s.ppt.pfwPending then { s with ppt := { s.ppt with pfwPending := false } }.pfwEffects else s

/-- The store-ready event (R2, R21, R85, R86, R114, R155, R170, R183, R192). The lock state is absent exactly until it
(R1). R170 leaves open in which order store-ready offers its writes: the repair of ATT, that of CFG and then those of the
evaluation or of the resumed erasure is the model's (entry 52). -/
def State.storeReadyEvent (s : State) : State :=
  if s.stc.ready || s.lkc.lockState.isSome then s
  else
    let resumes := s.stc.cells.startJournal.phase != .idle
    let s := s.takeCells
    let s := s.setFlagIf (s.stc.cells.anyDamaged || s.stc.cells.startLive != s.stc.cells.startRanges) .storeFault
    let l := startLockState s.ere.journal s.slt.slots
    let s := (s.setLockState l).sendState l
    let s := s.settleCause
    let s := s.repairCells
    let s := s.evaluate
    let s := if resumes then s.resumeErase else s
    s.fillPublic.takePendingPfw

end Sys2Proof.Machine
end

