-- ==== Sys2Proof/Machine/Completion.lean ====
section
/-! DEFINITION. The end of a store write attempt (R166 to R169) and whom it tells. -/

namespace Sys2Proof.Machine

/-- The faulty mark of a cell takes a value (R166, R167). -/
def Stc.markFaulty (q : Stc) (c : Cell) (v : Bool) : Stc := { q with faulty := q.faulty.set c.index v }

/-- The block that awaits a write is told of its end (R166). -/
def State.tellEnd (s : State) (e : QueueEntry) (completed : Bool) : State :=
  match e.awaiter with
  | some .charge => s.chargeEnds completed
  | some .refund => s.refundEnds completed
  | some .retirement => s.retirementEnds
  | some .firstEnrollment => s.firstWriteEnds e.cell completed
  | some .erase => s.ereWriteEnd e.cell
  | none => s

/-- SLT offers its held writes again at the end of a settings-group write (R53, R163). -/
def State.reofferAfter (s : State) (c : Cell) : State := if c.isGuard then s else s.reofferSlots

/-- The write's end: the awaiting block is told, the store takes its next entry, SLT offers held writes again (R164 to
R166; entry 21). The store is idle while the block is told, and so takes its next entry as the block offers a write, if it
offers one (entry 54). A write carried to its end for a RESTART tells no block and nothing is taken (R169). -/
def State.endWrite (s : State) (e : QueueEntry) (completed : Bool) : State :=
  let s := { s with stc := { s.stc with writing := none } }
  if s.ppt.restartPending then s
  else ((s.tellEnd e completed).takeNext).reofferAfter e.cell

/-- A read-back that agrees: the cell holds the new image and its faulty mark is cleared (R166). -/
def State.writeCompletes (s : State) (w : WriteInProgress) : State :=
  { s with stc := { s.stc with cells := s.stc.cells.put w.entry.write w.seq }.markFaulty w.entry.cell false }.endWrite
    w.entry true

/-- A read-back that differs for the last time: the write ends as failed (R166, R167), and leaves its cell as the rule of
that write says (entry 10). -/
def State.writeFails (s : State) (w : WriteInProgress) : State :=
  ({ s with stc := { s.stc with cells := s.stc.cells.afterFailure w.entry }.markFaulty w.entry.cell true }.setFlag
    .storeFault).endWrite w.entry false

/-- Whether a read-back that differs leads to a second attempt (R166, R167). -/
def Stc.triesAgain (q : Stc) (w : WriteInProgress) : Bool := w.attempt = 1 && !q.faulty[w.entry.cell.index]

/-- A write attempt's read-back ends (R166). -/
def State.writeAttemptEnds (s : State) (r : ReadBack) : State :=
  match s.stc.writing with
  | none => s
  | some w =>
    match r with
    | .agrees => s.writeCompletes w
    | .differs left =>
      let s := { s with stc := { s.stc with cells := s.stc.cells.afterMismatch w.entry.write w.seq left } }
      if s.stc.triesAgain w then { s with stc := { s.stc with writing := some { w with attempt := 2 } } }
      else s.writeFails w

end Sys2Proof.Machine
end

