-- ==== Sys2Proof/Machine/Keypad.lean ====
section
/-! DEFINITION. The commands of the keypad and of the timers of KSC and ENU. -/

namespace Sys2Proof.Machine

/-- KEY_PRESS_ACCEPTED (R26 to R28, R46). -/
def execKeyPressAccepted (key : PadKey) (s : State) : Host.Outcome State Fault Refusal :=
  s.event (fun s => s.press key)

/-- KEY_RELEASE_ACCEPTED (R26 to R29). -/
def execKeyReleaseAccepted (key : PadKey) (s : State) : Host.Outcome State Fault Refusal :=
  s.event (fun s => s.release key)

/-- PAIRING_TIMER_EXPIRY (R28). -/
def execPairingTimerExpiry (s : State) : Host.Outcome State Fault Refusal := s.event State.pairingExpiry

/-- CHORD_TIMER_EXPIRY (R29). -/
def execChordTimerExpiry (s : State) : Host.Outcome State Fault Refusal := s.event State.chordExpiry

/-- ENTRY_TIMER_EXPIRY (R33). -/
def execEntryTimerExpiry (s : State) : Host.Outcome State Fault Refusal := s.event State.entryExpiry

/-- STANDBY_TIMER_EXPIRY (R45, R99). -/
def execStandbyTimerExpiry (s : State) : Host.Outcome State Fault Refusal := s.event State.standbyExpiry

end Sys2Proof.Machine
end

