-- ==== Sys2Proof/Machine/Supply.lean ====
section
/-! DEFINITION. The commands of the supply, the start-up, PFW, and the ends of the part's own operations. -/

namespace Sys2Proof.Machine

/-- SUPPLY_START: all volatile state takes its start values over the cells as they stand (R24, R170, R183). On a part that is
already powered it does the same, and leaves the cell of a write in progress as it stood (entry 47). -/
def execSupplyStart (pfwLow : Bool) (s : State) : Host.Outcome State Fault Refusal :=
  .next (s.started s.stc.cells .supply pfwLow)

/-- SUPPLY_LOSS (R168). -/
def execSupplyLoss (point : LossPoint) (s : State) : Host.Outcome State Fault Refusal :=
  .next (if s.powered then s.supplyLost point else s)

/-- STORE_READY (R170). -/
def execStoreReady (s : State) : Host.Outcome State Fault Refusal := s.event State.storeReadyEvent

/-- A RESTART takes effect where it is pending and no write is in progress (R169, R193). -/
def State.restartNow (s : State) (pfwLow : Bool) : State :=
  if s.ppt.restartPending && s.stc.writing.isNone then s.started s.stc.cells .restart pfwLow else s

/-- RESTART_TAKES_EFFECT (R169, R193). -/
def execRestartTakesEffect (pfwLow : Bool) (s : State) : Host.Outcome State Fault Refusal :=
  s.event (fun s => s.restartNow pfwLow)

/-- An active edge on PFW: its effects, or before store-ready the PFW-pending mark (R183). -/
def State.activeEdge (s : State) : State :=
  if s.stc.ready then s.pfwEffects else { s with ppt := { s.ppt with pfwPending := true } }

/-- An accepted edge on PFW changes the accepted level: from high to low it is an active edge, and from low to high a rise,
which has no effect beyond the level. A line held low through a start so gives no active edge until it has been accepted high
(R183; entry 12). -/
def State.pfwEdge (s : State) : State :=
  if s.ppt.pfwLow then { s with ppt := { s.ppt with pfwLow := false } }
  else { s with ppt := { s.ppt with pfwLow := true } }.activeEdge

/-- PFW_EDGE (R82, R183, R194). -/
def execPfwEdge (s : State) : Host.Outcome State Fault Refusal := s.event State.pfwEdge

/-- STORE_WRITE_END (R166). -/
def execStoreWriteEnd (readBack : ReadBack) (s : State) : Host.Outcome State Fault Refusal :=
  s.event (fun s => s.writeAttemptEnds readBack)

/-- VERIFICATION_COMPLETE (R51, R52). -/
def execVerificationComplete (s : State) : Host.Outcome State Fault Refusal := s.event State.verificationEnds

/-- UNLOCK_COMPLETION (R10, R12). -/
def execUnlockCompletion (s : State) : Host.Outcome State Fault Refusal := s.event State.completeUnlock

/-- ENROLL_BUILD_COMPLETE (R56, R57). -/
def execEnrollBuildComplete (s : State) : Host.Outcome State Fault Refusal := s.event State.enrollBuildEnds

/-- FIRST_ENROLL_BUILD_COMPLETE (R59). -/
def execFirstEnrollBuildComplete (s : State) : Host.Outcome State Fault Refusal := s.event State.firstBuildEnds

/-- BACKOFF_CHECKPOINT (R81). -/
def execBackoffCheckpoint (s : State) : Host.Outcome State Fault Refusal := s.event State.checkpoint

/-- The back-off ends where its timer has reached its preset (R80). -/
def State.backoffExpiry (s : State) : State := if s.atg.timer.any BackoffTimer.ended then s.endBackoff else s

/-- BACKOFF_END (R80). -/
def execBackoffEnd (s : State) : Host.Outcome State Fault Refusal := s.event State.backoffExpiry

/-- IDLE_TIMER_EXPIRY (R93). -/
def execIdleTimerExpiry (s : State) : Host.Outcome State Fault Refusal := s.event State.idleExpiry

/-- ATTACH_WINDOW_EXPIRY (R95). -/
def execAttachWindowExpiry (s : State) : Host.Outcome State Fault Refusal := s.event State.windowExpiry

/-- The admin session timer has reached its 60 s (R96). -/
def State.sessionDue (s : State) : Bool := s.lkc.sessionTimer.reached Config.sessionMs

/-- The admin session timer expires (R97). It occurs only where the timer has reached its preset (R89). -/
def State.sessionExpiry (s : State) : State := if s.sessionDue then s.closeSession else s

/-- ADMIN_SESSION_EXPIRY (R97). -/
def execAdminSessionExpiry (s : State) : Host.Outcome State Fault Refusal := s.event State.sessionExpiry

end Sys2Proof.Machine
end

