-- ==== Sys2Proof/Machine/Media.lean ====
section
/-! DEFINITION. The commands of the media port (10.1 to 10.3), and the timers of CXM and DQQ. -/

namespace Sys2Proof.Machine

/-- The frame sent on MISO leaves the queue and its reply timer starts (R174 step 1): the state afterwards, and whether a
frame was read. An answer at the head has always been clocked out (entry 13). -/
def State.readOut (s : State) (sent : Bool) : State × Bool :=
  let s := { s with mpt := { s.mpt with transaction := none } }
  match s.mpt.outbound with
  | f :: rest =>
    if sent || f.isAnswer then ({ s with mpt := { s.mpt with outbound := rest } }.frameRead f, true) else (s, false)
  | [] => (s, false)

/-- A pending STATE notice is placed when the queue holds fewer than 8 frames (R178). -/
def State.placePending (s : State) : State :=
  match s.lkc.lockState with
  | some l =>
    if s.mpt.statePending && s.mpt.outbound.length < outboundLimit then
      { s with mpt := s.mpt.appendOrder (.state l) }
    else s
  | none => s

/-- A complete transaction: the read of step 1, the handling of the frame received, an owed SWEEP offered again, a pending
STATE placed (R174, R152, R178; entry 14). -/
def State.transaction (s : State) (sent : Bool) (handle : State → State) : State :=
  let read := s.readOut sent
  let s := handle read.1
  (if read.2 then s.reofferSweep else s).placePending

/-- MEDIA_TRANSACTION without a bridge frame (R174). -/
def execMediaTransaction (sent : Bool) (s : State) : Host.Outcome State Fault Refusal :=
  s.event (fun s => s.transaction sent id)

/-- TRANSACTION_ABANDONED: the bytes are discarded and the frame sent stays at the head (R174). -/
def execTransactionAbandoned (_bytes : Nat) (s : State) : Host.Outcome State Fault Refusal :=
  s.event (fun s => { s with mpt := { s.mpt with transaction := none } })

/-- The answer to a frame that fails its checks: an ERROR frame, or nothing (R175; entry 24). -/
def State.rejectFrame (s : State) (mosi : List Byte) : State :=
  match readBridge false mosi with
  | .malformed type tag => s.sendAnswer (.error type tag)
  | _ => s

/-- MALFORMED_FRAME (R175). -/
def execMalformedFrame (sent : Bool) (mosi : List Byte) (s : State) : Host.Outcome State Fault Refusal :=
  s.event (fun s => s.transaction sent (fun s => s.rejectFrame mosi))

/-- An ACCESS frame: a tag above 15 is a format fault, any other goes to DQQ and the ADU (R115, R138, R175; entry 25). -/
def State.accessFrame (s : State) (q : Query) : State :=
  if q.tag.toNat ≤ 15 then s.takeQuery q else s.sendAnswer (.error 0x01 0xFF)

/-- ACCESS (R115, R116, R138). -/
def execAccess (sent : Bool) (tag : Byte) (lba : Lba) (count : BitVec 16) (dir : Direction) (s : State) :
    Host.Outcome State Fault Refusal :=
  s.event (fun s => s.transaction sent (fun s =>
    s.accessFrame { tag := tag, lba := lba, count := count, dir := dir }))

/-- ATTACH at LKC: an OPEN_PENDING drive becomes OPEN (R13). -/
def State.attachLock (s : State) : State :=
  if s.lkc.lockState = some .openPending then
    let s := { s with lkc := { s.lkc with windowTimer := .stopped } }
    ((s.setLockState .opened).startIdle).sendState .opened
  else s

/-- An ATTACH frame: flag and capacity, the wake, then LKC, DQQ and ERE (R13, R46, R139, R150, R176, R179). -/
def State.attachFrame (s : State) (capacity : BitVec 64) : State :=
  let s := { s with mpt := { s.mpt with attached := true, capacity := some capacity } }
  s.wake.attachLock.markStale.resumeSweep

/-- ATTACH (R13, R179). -/
def execAttach (sent : Bool) (capacity : BitVec 64) (s : State) : Host.Outcome State Fault Refusal :=
  s.event (fun s => s.transaction sent (fun s => s.attachFrame capacity))

/-- A DETACH frame: the flag, then LKC, DQQ and ERE (R14, R139, R153, R176, R179). -/
def State.detachFrame (s : State) : State :=
  let s := { s with mpt := { s.mpt with attached := false } }
  let s := if s.lkc.lockState = some .opened then s.lockEvent .detach else s
  s.markStale.pauseSweep

/-- DETACH (R14, R179). -/
def execDetach (sent : Bool) (s : State) : Host.Outcome State Fault Refusal :=
  s.event (fun s => s.transaction sent State.detachFrame)

/-- HOSTLOCK (R4). -/
def execHostlock (sent : Bool) (s : State) : Host.Outcome State Fault Refusal :=
  s.event (fun s => s.transaction sent (fun s => s.lockEvent .host))

/-- KEYACK: a context above 3 is ignored (R131 to R134). -/
def execKeyack (sent : Bool) (context order : Byte) (ok : Bool) (s : State) : Host.Outcome State Fault Refusal :=
  s.event (fun s => s.transaction sent (fun s => match contextOf context with
    | some i => s.keyAck i order ok
    | none => s))

/-- KEYLOAD_REPLY_TIMEOUT (R133). -/
def execKeyloadReplyTimeout (context : CtxIx) (s : State) : Host.Outcome State Fault Refusal :=
  s.event (fun s => s.keyloadTimeout context)

/-- PURGEACK: a context above 3 is ignored (R135). -/
def execPurgeack (sent : Bool) (context order : Byte) (s : State) : Host.Outcome State Fault Refusal :=
  s.event (fun s => s.transaction sent (fun s => match contextOf context with
    | some i => s.purgeAck i order
    | none => s))

/-- PURGE_REPLY_TIMEOUT (R135). -/
def execPurgeReplyTimeout (context : CtxIx) (s : State) : Host.Outcome State Fault Refusal :=
  s.event (fun s => s.purgeTimeout context)

/-- REPEAT_TIMER_EXPIRY (R139). -/
def execRepeatTimerExpiry (entry : Nat) (s : State) : Host.Outcome State Fault Refusal :=
  s.event (fun s => s.discardParked entry)

/-- SWEPT (R151, R152). -/
def execSwept (sent : Bool) (start : Lba) (count : BitVec 16) (ok : Bool) (s : State) :
    Host.Outcome State Fault Refusal :=
  s.event (fun s => s.transaction sent (fun s => s.sweptTaken start count.toNat ok))

/-- A LINKRESET frame, its steps in order (R15, R136, R158, R180). -/
def State.linkResetFrame (s : State) : State :=
  let s := { s with mpt := { s.mpt with outbound := [], statePending := false } }
  let s := { s with dqq := [] }
  let s := { s with cxm := { s.cxm with entries := Vector.replicate 4 .empty } }
  let s := { s with mpt := { s.mpt with attached := false } }
  let s := s.pauseSweep
  let s := { s with ere := { s.ere with retry := 0 } }
  s.lockEvent .link

/-- LINKRESET (R15, R180). -/
def execLinkreset (sent : Bool) (s : State) : Host.Outcome State Fault Refusal :=
  s.event (fun s => s.transaction sent State.linkResetFrame)

end Sys2Proof.Machine
end

