-- ==== Sys2Proof/Machine/Panel.lean ====
section
/-! DEFINITION. The requests of the panel port (11). -/

namespace Sys2Proof.Machine

/-! ### The gates (R185) -/

/-- The kinds of request that the gates tell apart (11.1). -/
inductive RequestKind where
  /-- STATUS -/
  | status
  /-- ACK and SET ALERT ENABLES -/
  | flags
  /-- LOCK and RESTART -/
  | openOther
  /-- the seven admin requests -/
  | admin
  deriving DecidableEq, Repr

/-- The gate that refuses a request, by its result; none where gate 6 is reached (R185). `coded` says that every payload
field has one of its coded values (R186). -/
def State.gate (s : State) (kind : RequestKind) (coded : Bool) : Option ReplyResult :=
  if s.ppt.restartPending then some .busy
  else if s.lkc.lockState = none && kind != .status then some .busy
  else if s.lkc.lockState = some .erasing && kind != .status && kind != .flags then some .busy
  else if kind = .admin && !s.lkc.session then some .noSession
  else if !coded then some .format
  else none

/-- A request taken at the end of its write transfer ends STANDBY and is no longer in progress (R46, R181). It does not
restart a running standby timer (R44, R98; R100's last sentence: entry 49). -/
def State.requestTaken (s : State) : State :=
  let s := s.wake
  { s with ppt := { s.ppt with request := none } }

/-- A request passes the gates: the reply of the gate that refuses it, or its action (R185). A request refused at gate 5
in a session counts as accepted for the session timer (R17). -/
def State.panelRequest (s : State) (kind : RequestKind) (coded : Bool) (refused : ReplyResult → Reply)
    (act : State → State) : State :=
  let s := s.requestTaken
  match s.gate kind coded with
  | some r => (if r = .format && kind = .admin then s.touchSession else s).setReply (refused r)
  | none => act s

/-- BAD_PANEL_REQUEST: an ERROR reply, for bytes that fail R181's checks (entry 24). -/
def State.badRequest (s : State) (bytes : List Byte) : State :=
  match readPanel bytes with
  | .bad r => s.requestTaken.setReply (errorReply r)
  | _ => s

/-- BAD_PANEL_REQUEST (R181). -/
def execBadPanelRequest (bytes : List Byte) (s : State) : Host.Outcome State Fault Refusal :=
  s.event (fun s => s.badRequest bytes)

/-! ### Open requests (R187) -/

/-- STATUS (R189). -/
def execStatus (s : State) : Host.Outcome State Fault Refusal :=
  s.event (fun s => s.panelRequest .status true (fun _ => refusedStatus) (fun s => s.setReply s.statusReply))

/-- The twelve flags of a flag set. -/
def flagSet (b : BitVec 16) : BitVec 12 := b.setWidth 12

/-- ACK (R191). -/
def execAck (flags : BitVec 16) (s : State) : Host.Outcome State Fault Refusal :=
  s.event (fun s => s.panelRequest .flags (flagSetCoded flags) (resultReply 0x02) (fun s =>
    { s with ppt := s.ppt.acknowledge (flagSet flags) }.setReply (resultReply 0x02 .accepted)))

/-- SET ALERT ENABLES (R191). -/
def execSetAlertEnables (enables : BitVec 16) (s : State) : Host.Outcome State Fault Refusal :=
  s.event (fun s => s.panelRequest .flags (flagSetCoded enables) (resultReply 0x03) (fun s =>
    { s with ppt := s.ppt.replaceEnables (flagSet enables) }.setReply (resultReply 0x03 .accepted)))

/-- LOCK (R187). -/
def execLockRequest (s : State) : Host.Outcome State Fault Refusal :=
  s.event (fun s => s.panelRequest .openOther true (resultReply 0x04) (fun s =>
    (s.setReply (resultReply 0x04 .accepted)).lockEvent .panel))

/-- RESTART: the mark is set; the restart takes effect as a command of its own (R193). -/
def execRestart (s : State) : Host.Outcome State Fault Refusal :=
  s.event (fun s => s.panelRequest .openOther true (resultReply 0x05) (fun s =>
    { s with ppt := { s.ppt with restartPending := true } }.setReply (resultReply 0x05 .accepted)))

/-! ### Admin requests (R187) -/

/-- An admin request is answered as accepted for the session timer (R17). -/
def State.answerAdmin (s : State) (r : Reply) : State := s.touchSession.setReply r

/-- The order of an ENROLL request that SLT finds acceptable (R55). -/
def enrollOrderOf (slot role mask once : Byte) : Option EnrollOrder :=
  match roleOf role, flagOf once with
  | some r, some o =>
    if slot = 0 then
      if r = .admin && mask = BitVec.allOnes 8 && !o then some firstOrder else none
    else if h : slot.toNat < 5 then
      if r = .admin then none else some { slot := ⟨slot.toNat, h⟩, role := r, mask := mask, once := o }
    else none
  | _, _ => none

/-- The action of ENROLL (R43, R55). -/
def State.enrollAct (s : State) (order : Option EnrollOrder) : State :=
  match order with
  | none => s.answerAdmin (resultReply 0x10 .format)
  | some o =>
    if s.slt.build.isSome || s.enu.state != .idle then s.setReply (resultReply 0x10 .busy)
    else (s.startEntry .enroll1 [] (some o)).answerAdmin (resultReply 0x10 .accepted)

/-- ENROLL (R43, R55). -/
def execEnroll (slot role mask once : Byte) (s : State) : Host.Outcome State Fault Refusal :=
  s.event (fun s => s.panelRequest .admin (enrollCoded role once) (resultReply 0x10) (fun s =>
    s.enrollAct (enrollOrderOf slot role mask once)))

/-- The slot that a REMOVE names, 1 to 4 (R61). -/
def userSlot (slot : Byte) : Option SlotIx :=
  if h : slot.toNat < 5 then (if slot = 0 then none else some ⟨slot.toNat, h⟩) else none

/-- The action of REMOVE (R61). -/
def State.removeAct (s : State) (slot : Byte) : State :=
  match userSlot slot with
  | none => s.answerAdmin (resultReply 0x11 .format)
  | some k =>
    if s.slt.slots[k] = .empty then s.answerAdmin (resultReply 0x11 .accepted)
    else
      let offered := s.offer .ordinary (.slt k .empty) none
      if offered.2 then offered.1.answerAdmin (resultReply 0x11 .accepted)
      else offered.1.setReply (resultReply 0x11 .busy)

/-- REMOVE (R61). -/
def execRemove (slot : Byte) (s : State) : Host.Outcome State Fault Refusal :=
  s.event (fun s => s.panelRequest .admin true (resultReply 0x11) (fun s => s.removeAct slot))

/-- A range index that a request carries (R107, R109). -/
def rangeIndexOf (b : Byte) : Option RangeIx := if h : b.toNat < 8 then some ⟨b.toNat, h⟩ else none

/-- The count that a SET RANGE carries: 0 means TO_END (10.5). -/
def countOf (c : Lba) : RangeCount := if c = 0 then .toEnd else .sectors c

/-- Whether a SET RANGE keeps the key of the record it replaces (R108). -/
def keepsKey (old : RangeRecord) (cls : RangeClass) : Bool :=
  match old with
  | .unused => false
  | .defined d => (d.cls = .pub) == (cls = .pub)

/-- The key under which a fresh range key of a class is wrapped (R108). -/
def State.wrappingKey (s : State) (cls : RangeClass) : Option Key :=
  if cls = .pub then s.stc.idn.map Identity.deviceKey else s.slt.driveKey

/-- The record that a SET RANGE stages, without its key (R107). -/
def requestedRange (start count : Lba) (cls : RangeClass) (policy : WritePolicy) (denial : DenialMode) : RangeDef :=
  { start := start, count := countOf count, cls := cls, policy := policy, denial := denial, wrapped := none }

/-- The tests of a SET RANGE in order, after the coded values: the refusal, if any (R107). -/
def State.rangeRefusal (s : State) (k : RangeIx) (d : RangeDef) : Option ReplyResult :=
  if d.cls = .hidden && d.denial = .fill then some .format
  else if !d.fits then some .format
  else if !tableFits (s.rgt.staged.set k (.defined d)) k then some .overlap
  else if d.cls = .pub && !keepsKey s.rgt.staged[k] d.cls && s.lkc.idnFault then some .fault
  else none

/-- A staged record takes a value, and the dirty mark is set (R106). -/
def Rgt.stage (g : Rgt) (k : RangeIx) (r : RangeRecord) : Rgt := { g with staged := g.staged.set k r, dirty := true }

/-- The staged record takes the request's fields with a kept or a fresh key, and the dirty mark is set (R108; entry 37
where the wrapping key is absent). -/
def State.stageRange (s : State) (k : RangeIx) (d : RangeDef) : State :=
  if keepsKey s.rgt.staged[k] d.cls then
    { s with rgt := s.rgt.stage k (.defined { d with wrapped := s.rgt.staged[k].wrapped? }) }
  else
    let w := (s.wrappingKey d.cls).map (fun u => ({ key := .range s.freshCount, under := u } : Wrapped))
    { s.spendFresh with rgt := s.rgt.stage k (.defined { d with wrapped := w }) }

/-- The action of SET RANGE (R107, R108). A request refused FAULT restarts the session timer as one refused for its content
(entry 30). -/
def State.setRangeAct (s : State) (index : Byte) (start count : Lba) (cls policy denial : Byte) : State :=
  match rangeIndexOf index, classOf cls, policyOf policy, denialOf denial with
  | some k, some c, some p, some m =>
    let d := requestedRange start count c p m
    match s.rangeRefusal k d with
    | some r => s.answerAdmin (setRangeReply r index start count cls policy denial 0xFF)
    | none => (s.stageRange k d).answerAdmin
        (setRangeReply .accepted index start count cls policy denial (boolCode (!keepsKey s.rgt.staged[k] c)))
  | _, _, _, _ => s.answerAdmin (setRangeReply .format index start count cls policy denial 0xFF)

/-- SET RANGE (R107, R108). -/
def execSetRange (index : Byte) (start count : Lba) (cls policy denial : Byte) (s : State) :
    Host.Outcome State Fault Refusal :=
  s.event (fun s => s.panelRequest .admin (setRangeCoded cls policy denial)
    (fun r => setRangeReply r index start count cls policy denial 0xFF)
    (fun s => s.setRangeAct index start count cls policy denial))

/-- The action of DROP RANGE (R109). -/
def State.dropRangeAct (s : State) (index : Byte) : State :=
  match rangeIndexOf index with
  | some k =>
    { s with rgt := s.rgt.stage k .unused }.answerAdmin
      (resultReply 0x13 .accepted)
  | none => s.answerAdmin (resultReply 0x13 .format)

/-- DROP RANGE (R109). -/
def execDropRange (index : Byte) (s : State) : Host.Outcome State Fault Refusal :=
  s.event (fun s => s.panelRequest .admin true (resultReply 0x13) (fun s => s.dropRangeAct index))

/-- A change of the idle preset acts on its timer (R91, R92). -/
def State.idlePresetChanged (s : State) (old : Nat) : State :=
  let new := s.stc.cfg.idle
  if s.lkc.lockState != some .opened || new = old then s
  else if new = 0 then { s with lkc := { s.lkc with idleTimer := .held } }
  else if old = 0 then { s with lkc := { s.lkc with idleTimer := .running 0 } }
  else if s.lkc.idleTimer.reached (1000 * new) then s.idleExpiry
  else s

/-- A change of the attach window preset acts on its timer (R91). -/
def State.windowPresetChanged (s : State) (old : Nat) : State :=
  let new := s.stc.cfg.window
  if new != old && s.lkc.windowTimer.reached (1000 * new) then s.windowExpiry else s

/-- A change of F, B or C acts on a running back-off (R83). -/
def State.backoffSettingsChanged (s : State) (old : Settings) : State :=
  let c := s.stc.cfg
  if c.F != old.F || c.B != old.B || c.C != old.C then s.recomputeBackoff else s

/-- The effects of new settings, after the reply (R83, R91, R188; entry 16). -/
def State.settingsEffects (s : State) (old : Settings) : State :=
  ((s.backoffSettingsChanged old).idlePresetChanged old.idle).windowPresetChanged old.window

/-- The action of SET SETTINGS (R188). -/
def State.setSettingsAct (s : State) (entries : List (Byte × BitVec 16)) : State :=
  let old := s.stc.cfg
  let offered := s.offer .ordinary (.cfg (old.apply (keptSettings old entries))) none
  if offered.2 then
    (offered.1.answerAdmin (settingsReply .accepted (heldList old entries))).settingsEffects old
  else offered.1.setReply (settingsReply .busy 0)

/-- SET SETTINGS (R188); a length that R181 does not allow has the ERROR reply (entry 25). -/
def execSetSettings (entries : List (Byte × BitVec 16)) (s : State) : Host.Outcome State Fault Refusal :=
  s.event (fun s =>
    if 1 ≤ entries.length && entries.length ≤ 7 then
      s.panelRequest .admin (settingsCoded entries) (fun r => settingsReply r 0) (fun s => s.setSettingsAct entries)
    else s.requestTaken.setReply (errorReply .format))

/-- ERASE: the reply, then the erase start (R144, R187). -/
def execErase (s : State) : Host.Outcome State Fault Refusal :=
  s.event (fun s => s.panelRequest .admin true (resultReply 0x15) (fun s =>
    (s.setReply (resultReply 0x15 .accepted)).eraseStart))

/-- END SESSION (R17, R187). -/
def execEndSession (s : State) : Host.Outcome State Fault Refusal :=
  s.event (fun s => s.panelRequest .admin true (resultReply 0x16) (fun s =>
    s.closeSession.setReply (resultReply 0x16 .accepted)))

end Sys2Proof.Machine
end

