-- ==== Sys2Proof/Machine/Dispatch.lean ====
section
/-! DEFINITION. One arm per command, in the order of spec/opcode_table.json: each a direct call of its meaning. -/

namespace Sys2Proof.Machine

def exec (i : Instr) (s : State) : Host.Outcome State Fault Refusal :=
  match i with
  | .supplyStart pfwLow => Sys2Proof.Machine.execSupplyStart pfwLow s
  | .supplyLoss point => Sys2Proof.Machine.execSupplyLoss point s
  | .storeReady => Sys2Proof.Machine.execStoreReady s
  | .keyPressAccepted key => Sys2Proof.Machine.execKeyPressAccepted key s
  | .keyReleaseAccepted key => Sys2Proof.Machine.execKeyReleaseAccepted key s
  | .pairingTimerExpiry => Sys2Proof.Machine.execPairingTimerExpiry s
  | .chordTimerExpiry => Sys2Proof.Machine.execChordTimerExpiry s
  | .entryTimerExpiry => Sys2Proof.Machine.execEntryTimerExpiry s
  | .standbyTimerExpiry => Sys2Proof.Machine.execStandbyTimerExpiry s
  | .storeWriteEnd readBack => Sys2Proof.Machine.execStoreWriteEnd readBack s
  | .verificationComplete => Sys2Proof.Machine.execVerificationComplete s
  | .unlockCompletion => Sys2Proof.Machine.execUnlockCompletion s
  | .enrollBuildComplete => Sys2Proof.Machine.execEnrollBuildComplete s
  | .firstEnrollBuildComplete => Sys2Proof.Machine.execFirstEnrollBuildComplete s
  | .backoffCheckpoint => Sys2Proof.Machine.execBackoffCheckpoint s
  | .backoffEnd => Sys2Proof.Machine.execBackoffEnd s
  | .idleTimerExpiry => Sys2Proof.Machine.execIdleTimerExpiry s
  | .attachWindowExpiry => Sys2Proof.Machine.execAttachWindowExpiry s
  | .adminSessionExpiry => Sys2Proof.Machine.execAdminSessionExpiry s
  | .mediaTransaction sent => Sys2Proof.Machine.execMediaTransaction sent s
  | .transactionAbandoned bytes => Sys2Proof.Machine.execTransactionAbandoned bytes s
  | .malformedFrame sent mosi => Sys2Proof.Machine.execMalformedFrame sent mosi s
  | .access sent tag lba count dir => Sys2Proof.Machine.execAccess sent tag lba count dir s
  | .attach sent capacity => Sys2Proof.Machine.execAttach sent capacity s
  | .detach sent => Sys2Proof.Machine.execDetach sent s
  | .hostlock sent => Sys2Proof.Machine.execHostlock sent s
  | .keyack sent context order ok => Sys2Proof.Machine.execKeyack sent context order ok s
  | .keyloadReplyTimeout context => Sys2Proof.Machine.execKeyloadReplyTimeout context s
  | .purgeack sent context order => Sys2Proof.Machine.execPurgeack sent context order s
  | .purgeReplyTimeout context => Sys2Proof.Machine.execPurgeReplyTimeout context s
  | .repeatTimerExpiry entry => Sys2Proof.Machine.execRepeatTimerExpiry entry s
  | .swept sent start count ok => Sys2Proof.Machine.execSwept sent start count ok s
  | .linkreset sent => Sys2Proof.Machine.execLinkreset sent s
  | .badPanelRequest bytes => Sys2Proof.Machine.execBadPanelRequest bytes s
  | .status => Sys2Proof.Machine.execStatus s
  | .ack flags => Sys2Proof.Machine.execAck flags s
  | .setAlertEnables enables => Sys2Proof.Machine.execSetAlertEnables enables s
  | .lockRequest => Sys2Proof.Machine.execLockRequest s
  | .restart => Sys2Proof.Machine.execRestart s
  | .restartTakesEffect pfwLow => Sys2Proof.Machine.execRestartTakesEffect pfwLow s
  | .enroll slot role mask once => Sys2Proof.Machine.execEnroll slot role mask once s
  | .remove slot => Sys2Proof.Machine.execRemove slot s
  | .setRange index start count cls policy denial => Sys2Proof.Machine.execSetRange index start count cls policy denial s
  | .dropRange index => Sys2Proof.Machine.execDropRange index s
  | .setSettings entries => Sys2Proof.Machine.execSetSettings entries s
  | .erase => Sys2Proof.Machine.execErase s
  | .endSession => Sys2Proof.Machine.execEndSession s
  | .pfwEdge => Sys2Proof.Machine.execPfwEdge s

end Sys2Proof.Machine
end

