-- ==== Sys2Proof/Machine/Clock.lean ====
section
/-! DEFINITION. What the part does when no command waits: an expiry that is due is taken, and otherwise one millisecond
passes (entries 2, 33 and 39). -/

namespace Sys2Proof.Machine

/-! ### Due events -/

/-- A reply timer counts. -/
def ReplyTimer.tick : ReplyTimer → ReplyTimer
  | .running e => .running (e + 1)
  | t => t

/-- The reply timer of a context entry. -/
def ContextEntry.timer : ContextEntry → ReplyTimer
  | .loading _ _ _ t => t
  | .purging _ _ t => t
  | _ => .stopped

/-- The expiry that is due at a context's entry (R133, R135). -/
def contextDue (i : CtxIx) (e : ContextEntry) : Option Instr :=
  if e.timer.due then
    match e with
    | .loading _ _ _ _ => some (.keyloadReplyTimeout i)
    | .purging _ _ _ => some (.purgeReplyTimeout i)
    | _ => none
  else none

/-- The event that is due at the back-off timer (R80, R81). -/
def Atg.due (a : Atg) : Option Instr :=
  match a.timer with
  | some t =>
    if t.ended then some .backoffEnd
    else if a.bko.active.isSome && t.checkpointDue then some .backoffCheckpoint
    else none
  | none => none

/-- An event where a condition holds. -/
def dueIf (c : Bool) (i : Instr) : Option Instr := if c then some i else none

/-- The event that is due, the first in a fixed order (entry 2). A RESTART that the clock takes finds PFW at the accepted
level held (R184; entry 50). -/
def State.dueEvent (s : State) : Option Instr :=
  if !s.powered then none
  else
    (dueIf (s.ppt.restartPending && s.stc.writing.isNone) (.restartTakesEffect s.ppt.pfwLow)).or <|
    (dueIf s.ksc.pairingDue .pairingTimerExpiry).or <|
    (dueIf s.ksc.chordDue .chordTimerExpiry).or <|
    (dueIf s.enu.entryDue .entryTimerExpiry).or <|
    (dueIf s.enu.standbyDue .standbyTimerExpiry).or <|
    s.atg.due.or <|
    (dueIf s.idleDue .idleTimerExpiry).or <|
    (dueIf s.windowDue .attachWindowExpiry).or <|
    (dueIf s.sessionDue .adminSessionExpiry).or <|
    (allCtx.findSome? (fun i => contextDue i s.cxm.entries[i])).or
    ((s.dqq.findIdx? Parked.due).map Instr.repeatTimerExpiry)

/-! ### One millisecond -/

/-- A context entry's reply timer counts. -/
def ContextEntry.tick : ContextEntry → ContextEntry
  | .loading r o n t => .loading r o n t.tick
  | .purging r o t => .purging r o t.tick
  | e => e

/-- A parked entry's repeat timer counts. -/
def Parked.tick (p : Parked) : Parked :=
  match p.state with
  | .ready d stale e => { p with state := .ready d stale (e + 1) }
  | .waiting => p

/-- The back-off timer counts ticks of 100 ms (R79). -/
def BackoffTimer.tick (t : BackoffTimer) : BackoffTimer :=
  if t.phase + 1 < Config.tickMs then { t with phase := t.phase + 1 }
  else { t with elapsed := t.elapsed + 1, phase := 0 }

/-- One millisecond passes: every running timer counts. -/
def State.tick (s : State) : State :=
  if s.powered then
    { s with
      ksc := { s.ksc with pairingTimer := s.ksc.pairingTimer.tick, chordTimer := s.ksc.chordTimer.tick },
      enu := { s.enu with entryTimer := s.enu.entryTimer.tick, standbyTimer := s.enu.standbyTimer.tick },
      atg := { s.atg with timer := s.atg.timer.map BackoffTimer.tick },
      lkc := { s.lkc with sessionTimer := s.lkc.sessionTimer.tick, windowTimer := s.lkc.windowTimer.tick,
                          idleTimer := s.lkc.idleTimer.tick },
      cxm := { s.cxm with entries := tab4 (fun i => s.cxm.entries[i].tick) },
      dqq := s.dqq.map Parked.tick }
  else s

end Sys2Proof.Machine
end

