-- ==== Sys2Proof/Safety.lean ====
section
/-! DEFINITION. The terms in which the statements speak: what a command leaves unchanged, and the laws of the device as
predicates of a state. -/

namespace Sys2Proof.Machine

/-! ### Frames -/

/-- The blocks of the part, and the count of generated keys, as a frame names them. -/
inductive Block where
  | ksc | enu | slt | atg | lkc | rgt | cxm | dqq | ere | stc | mpt | ppt | fresh
  deriving DecidableEq, Repr

/-- The blocks, in the order of State. -/
def allBlocks : List Block := [.ksc, .enu, .slt, .atg, .lkc, .rgt, .cxm, .dqq, .ere, .stc, .mpt, .ppt, .fresh]

/-- Entry units that differ at most in the standby timer, whose value follows from the five conditions (R98, stated
apart). -/
def Enu.sameEntry (a b : Enu) : Prop := { b with standbyTimer := a.standbyTimer } = a

/-- The entry unit rests in IDLE, both buffers, the marks and the order cleared and the entry timer stopped (R33, R34, R37,
R40). -/
def Enu.atIdle (e : Enu) : Prop :=
  e.state = .idle ∧ e.purpose = none ∧ e.buffer = [] ∧ e.confirm = [] ∧ e.overlong = false ∧ e.cancel = false ∧
  e.order = none ∧ e.entryTimer = .stopped

/-- A block holds the same in both states. -/
def State.sameBlock (s t : State) : Block → Prop
  | .ksc => t.ksc = s.ksc
  | .enu => s.enu.sameEntry t.enu
  | .slt => t.slt = s.slt
  | .atg => t.atg = s.atg
  | .lkc => t.lkc = s.lkc
  | .rgt => t.rgt = s.rgt
  | .cxm => t.cxm = s.cxm
  | .dqq => t.dqq = s.dqq
  | .ere => t.ere = s.ere
  | .stc => t.stc = s.stc
  | .mpt => t.mpt = s.mpt
  | .ppt => t.ppt = s.ppt
  | .fresh => t.freshCount = s.freshCount

/-- Every block but the named ones is unchanged; so are the supply and the queue of commands. -/
def State.sameExcept (s t : State) (changed : List Block) : Prop :=
  (∀ b ∈ allBlocks, b ∉ changed → s.sameBlock t b) ∧ t.powered = s.powered ∧ t.pending = s.pending

/-- The drive as the lock procedure leaves it (R7): LOCKED, no session, no role, no mask, both lock timers at rest, only
public keys in the key buffer, no parked query, nothing staged and not installed, no drive key, LOCKED pending. -/
def State.closedDown (t : State) : Prop :=
  t.lkc.lockState = some .locked ∧ t.lkc.session = false ∧ t.lkc.sessionTimer = .held ∧ t.lkc.role = none ∧
  t.lkc.mask = 0 ∧ t.lkc.idleTimer = .held ∧ t.lkc.windowTimer = .stopped ∧
  (∀ k : RangeIx, ∀ b, t.lkc.keyBuffer[k] = some b → b.cls = .pub) ∧ t.dqq = [] ∧ t.rgt.dirty = false ∧
  t.slt.driveKey = none ∧ t.ppt.isPending .locked = true

/-- The tag of an answer to an ACCESS (R115). -/
def OutFrame.answerTag : OutFrame → Option Byte
  | .grant tag _ _ _ => some tag
  | .fill tag _ _ => some tag
  | .deny tag _ => some tag
  | .retry tag => some tag
  | _ => none

/-- An admitted write is on its way to its cell: it waits in the store write queue or is being written. -/
def Stc.carries (q : Stc) (e : QueueEntry) : Prop := e ∈ q.queue ∨ q.writing.map WriteInProgress.entry = some e

/-- An admitted write that has not ended: it is on its way to its cell, or waits in the reserve list (R163, R164). -/
def Stc.owes (q : Stc) (e : QueueEntry) : Prop := q.carries e ∨ e ∈ q.reserve

/-- A read-back that ends the write in progress: it agrees, or it differs and no second attempt follows (R166, R167). -/
def Stc.endsWrite (q : Stc) (w : WriteInProgress) (r : ReadBack) : Prop :=
  r = .agrees ∨ ((∃ left, r = .differs left) ∧ (w.attempt ≠ 1 ∨ q.faulty[w.entry.cell.index] = true))

/-- The alert flags' port after a write's end: STORE_FAULT set where it ended as failed (R166). -/
def Ppt.afterWrite (p : Ppt) (r : ReadBack) : Ppt := if r = .agrees then p else p.setFlag .storeFault

/-- What the gates read of a request, and its reply where one of them refuses it: kind, whether every coded field has a
coded value, and the reply that carries a result in the length of the request's type (R185, R186). -/
def requestGate : Instr → Option (RequestKind × Bool × (ReplyResult → Reply))
  | .ack flags => some (.flags, flagSetCoded flags, resultReply 0x02)
  | .setAlertEnables enables => some (.flags, flagSetCoded enables, resultReply 0x03)
  | .lockRequest => some (.openOther, true, resultReply 0x04)
  | .restart => some (.openOther, true, resultReply 0x05)
  | .enroll _ role _ once => some (.admin, enrollCoded role once, resultReply 0x10)
  | .remove _ => some (.admin, true, resultReply 0x11)
  | .setRange index start count cls policy denial =>
    some (.admin, setRangeCoded cls policy denial, fun r => setRangeReply r index start count cls policy denial 0xFF)
  | .dropRange _ => some (.admin, true, resultReply 0x13)
  | .setSettings entries =>
    if 1 ≤ entries.length && entries.length ≤ 7 then
      some (.admin, settingsCoded entries, fun r => settingsReply r 0)
    else none
  | .erase => some (.admin, true, resultReply 0x15)
  | .endSession => some (.admin, true, resultReply 0x16)
  | _ => none

/-- A panel request reaches gate 6 (R185). -/
def State.admits (s : State) (kind : RequestKind) : Prop := s.gate kind true = none

/-- A transaction taken in `s` whose frame is answered leaves the media port and the erase engine of `t` as one without a
frame leaves those of `m`, but for the answer at the head: a longer queue may alter the place of a pending STATE and of an
owed SWEEP, and where neither stands nothing else of the two changes (R115, R152, R177, R178). -/
def State.answers (s m t : State) (answer : OutFrame) : Prop :=
  t.mpt.outbound.head? = some answer ∧
  t.mpt = { m.mpt with outbound := t.mpt.outbound, statePending := t.mpt.statePending } ∧
  t.ere = { m.ere with sweepOwed := t.ere.sweepOwed } ∧
  (s.mpt.statePending = false → s.ere.sweepOwed = false →
    t.mpt = { m.mpt with outbound := answer :: m.mpt.outbound } ∧ t.ere = m.ere)

/-- An order frame offered to the outbound queue is taken: fewer than 8 frames wait, or a STATE notice gives way
(R178). -/
def takesOrder (outbound : List OutFrame) : Prop := outbound.length < 8 ∨ ∃ f ∈ outbound, f.isState = true

/-! ### Frames and requests by their bytes -/

/-- The bytes of a bridge frame's payload that its type allows: its length, and the values of its coded fields (R175,
10.5). -/
def bridgeFields (type : Byte) (p : List Byte) : Prop :=
  (type = 0x01 ∧ p.length = 8 ∧ p.head?.any (fun tag => decide (tag.toNat ≤ 15)) = true ∧
    (p[7]? = some 0x00 ∨ p[7]? = some 0x01)) ∨
  (type = 0x02 ∧ p.length = 8) ∨ ((type = 0x03 ∨ type = 0x04 ∨ type = 0x08) ∧ p = []) ∨
  (type = 0x05 ∧ p.length = 3 ∧ (p[2]? = some 0x00 ∨ p[2]? = some 0x01)) ∨
  (type = 0x06 ∧ p.length = 2) ∨
  (type = 0x07 ∧ p.length = 7 ∧ (p[6]? = some 0x00 ∨ p[6]? = some 0x01))

/-- The lengths of the panel requests' payloads, by type (R181, 10.5). -/
def requestLength (type : Byte) (n : Nat) : Prop :=
  ((type = 0x01 ∨ type = 0x04 ∨ type = 0x05 ∨ type = 0x15 ∨ type = 0x16) ∧ n = 0) ∨
  ((type = 0x11 ∨ type = 0x13) ∧ n = 1) ∨ ((type = 0x02 ∨ type = 0x03) ∧ n = 2) ∨ (type = 0x10 ∧ n = 4) ∨
  (type = 0x12 ∧ n = 12) ∨ (type = 0x14 ∧ (n = 3 ∨ n = 6 ∨ n = 9 ∨ n = 12 ∨ n = 15 ∨ n = 18 ∨ n = 21))

/-- The first LBA past a range's last one, TO_END taken to LBA 4,294,967,295 (R104, R105). -/
def RangeDef.past (d : RangeDef) : Nat :=
  match d.count with
  | .sectors n => d.start.toNat + n.toNat
  | .toEnd => 4294967296

/-- A staged record and the span from `first` up to `past` share an LBA (R105, R107). -/
def RangeRecord.shares (r : RangeRecord) (first past : Nat) : Bool :=
  match r with
  | .defined d => first < d.past && d.start.toNat < past
  | .unused => false

/-- A staged record that is DEFINED and PUBLIC, whose key a PUBLIC request keeps (R108). -/
def RangeRecord.holdsPublic : RangeRecord → Bool
  | .defined d => d.cls = .pub
  | .unused => false

/-- The form that R107 asks of a SET RANGE, by its bytes: an index of 0 to 7, each field at a coded value, no HIDDEN with
FILL, and a last LBA of at most 4,294,967,295. -/
def rangeForm (index : Byte) (start count : Lba) (cls policy denial : Byte) : Prop :=
  index.toNat ≤ 7 ∧ cls.toNat ≤ 2 ∧ policy.toNat ≤ 1 ∧ denial.toNat ≤ 1 ∧ ¬ (cls = 0x02 ∧ denial = 0x01) ∧
  (count = 0 ∨ start.toNat + count.toNat ≤ 4294967296)

/-- Another staged record shares an LBA with the span asked for, a count of 0 being TO_END (R105, R107). -/
def State.rangeOverlaps (s : State) (index : Byte) (start count : Lba) : Prop :=
  ∃ j : RangeIx, j.val ≠ index.toNat ∧
    s.rgt.staged[j].shares start.toNat (if count = 0 then 4294967296 else start.toNat + count.toNat) = true

/-- A fresh PUBLIC key is needed while the IDN fault mark is held (R107, R108). -/
def State.rangeLacksKey (s : State) (index cls : Byte) : Prop :=
  cls = 0x00 ∧ s.lkc.idnFault = true ∧ ∀ k : RangeIx, k.val = index.toNat → s.rgt.staged[k].holdsPublic = false

/-- The test of R107 that a SET RANGE fails first, by the result of the refusal. -/
def State.rangeTest (s : State) (index : Byte) (start count : Lba) (cls policy denial : Byte) (r : ReplyResult) : Prop :=
  (¬ rangeForm index start count cls policy denial ∧ r = .format) ∨
  (rangeForm index start count cls policy denial ∧ s.rangeOverlaps index start count ∧ r = .overlap) ∨
  (rangeForm index start count cls policy denial ∧ ¬ s.rangeOverlaps index start count ∧ s.rangeLacksKey index cls ∧
    r = .fault)

/-! ### Slots and cells -/

/-- A slot of a verification's snapshot matches the entry: it has the entry's length, its verifier accepts the entry, and
the slot is still ENROLLED with that verifier (R50, R51). -/
def slotMatches (slots : Vector SlotRecord 5) (digits : List Digit) (e : SnapSlot) : Prop :=
  e.codeLength = digits.length ∧ verifierAccepts e.verifier digits = true ∧
  ∃ i w, slots[e.slot] = .enrolled i e.verifier w

/-- The working sequence that the start-up read of an image gives: its sequence byte, 00h where it reads damaged
(R170). -/
def Image.readsSequence {α : Type} (f : CellFormat α) (i : Image α) (q : Byte) : Prop :=
  (i.read f = none → q = 0x00) ∧ ∀ p c k, i = .written p c k → i.read f = some c → q = p

/-- The same of each of the eighteen cells. -/
def Cells.readsSequence (c : Cells) (q : Byte) : Cell → Prop
  | .att => c.att.readsSequence attFormat q
  | .bko => c.bko.readsSequence bkoFormat q
  | .ejr => c.ejr.readsSequence ejrFormat q
  | .slt k => c.slt[k].readsSequence (sltFormat k) q
  | .rng k => c.rng[k].readsSequence (rngFormat k) q
  | .cfg => c.cfg.readsSequence cfgFormat q
  | .idn => c.idn.readsSequence idnFormat q

/-- A cell has the image that it had in `d`. -/
def Cells.imageKept (c d : Cells) : Cell → Prop
  | .att => c.att = d.att
  | .bko => c.bko = d.bko
  | .ejr => c.ejr = d.ejr
  | .slt k => c.slt[k] = d.slt[k]
  | .rng k => c.rng[k] = d.rng[k]
  | .cfg => c.cfg = d.cfg
  | .idn => c.idn = d.idn

/-- A cell reads damaged (R160). -/
def Cells.readsDamaged (c : Cells) : Cell → Prop
  | .att => c.att.read attFormat = none
  | .bko => c.bko.read bkoFormat = none
  | .ejr => c.ejr.read ejrFormat = none
  | .slt k => c.slt[k].read (sltFormat k) = none
  | .rng k => c.rng[k].read (rngFormat k) = none
  | .cfg => c.cfg.read cfgFormat = none
  | .idn => c.idn.read idnFormat = none

/-- An image holds a new value: a sequence byte, the contents, and the CRC-8 over the two; it reads as the contents where
every field of them is in its range (R160, R166). -/
def Image.holdsNew {α : Type} (f : CellFormat α) (seq : Byte) (v : α) (i : Image α) : Prop :=
  i = .written seq v (crc8 (seq :: f.bytes v)) ∧ (f.inRange v = true → i.read f = some v)

/-- The cell of a write holds the value that the write carries (R166, R168). -/
def Cells.holdsNew (c : Cells) (w : CellWrite) (seq : Byte) : Prop :=
  match w with
  | .att n => c.att.holdsNew attFormat seq n
  | .bko r => c.bko.holdsNew bkoFormat seq r
  | .ejr j => c.ejr.holdsNew ejrFormat seq j
  | .slt k r => c.slt[k].holdsNew (sltFormat k) seq r
  | .rng k r => c.rng[k].holdsNew (rngFormat k) seq r
  | .cfg s => c.cfg.holdsNew cfgFormat seq s

/-! ### Timers -/

/-- A command that the part gives itself is due: an expiry whose timer has reached its preset, a checkpoint at a multiple of
100 ticks that has none yet, and a RESTART that waits for no write (R28, R29, R33, R44, R80, R81, R89, R96, R130, R135, R139,
R193). A RESTART so taken finds PFW at the level held (entry 50). -/
def State.isDue (s : State) : Instr → Prop
  | .restartTakesEffect low => s.ppt.restartPending = true ∧ s.stc.writing = none ∧ low = s.ppt.pfwLow
  | .pairingTimerExpiry => s.ksc.chord = .pairing ∧ s.ksc.pairingTimer.reached 20 = true
  | .chordTimerExpiry => s.ksc.chord = .forming ∧ s.ksc.chordTimer.reached 1000 = true
  | .entryTimerExpiry => s.enu.entryTimer.reached 12000 = true
  | .standbyTimerExpiry => s.enu.standbyTimer.reached 30000 = true
  | .backoffEnd => ∃ x, s.atg.timer = some x ∧ x.preset ≤ x.elapsed
  | .backoffCheckpoint => s.atg.bko.active ≠ none ∧
    ∃ x, s.atg.timer = some x ∧ x.checkpointed + 100 ≤ x.elapsed ∧ x.elapsed < x.preset
  | .idleTimerExpiry => s.stc.cfg.idle ≠ 0 ∧ s.lkc.idleTimer.reached (1000 * s.stc.cfg.idle) = true
  | .attachWindowExpiry => s.lkc.windowTimer.reached (1000 * s.stc.cfg.window) = true
  | .adminSessionExpiry => s.lkc.sessionTimer.reached 60000 = true
  | .keyloadReplyTimeout i => ∃ r o n e, s.cxm.entries[i] = .loading r o n (.running e) ∧ 20 ≤ e
  | .purgeReplyTimeout i => ∃ r o e, s.cxm.entries[i] = .purging r o (.running e) ∧ 20 ≤ e
  | .repeatTimerExpiry place => ∃ p d stale e, s.dqq[place]? = some p ∧ p.state = .ready d stale e ∧ 50 ≤ e
  | _ => False

/-- The timers of KSC, ENU and LKC, by where they stand. -/
def timersOf : List (State → Timer) :=
  [fun s => s.ksc.pairingTimer, fun s => s.ksc.chordTimer, fun s => s.enu.entryTimer, fun s => s.enu.standbyTimer,
   fun s => s.lkc.sessionTimer, fun s => s.lkc.windowTimer, fun s => s.lkc.idleTimer]

/-! ### Laws of the device -/

/-- The drive is unlocked. -/
def State.unlocked (s : State) : Prop := s.lkc.lockState = some .openPending ∨ s.lkc.lockState = some .opened

/-- A command that is a lock event in an unlocked drive: HOSTLOCK, LINKRESET, the LOCK request, the idle lock timer and the
attach window at their presets, a PFW edge, a DETACH in OPEN, and the LOCK key at the end of its pairing window or its
release (R4, R14, R15, R28, R82, R93, R95). -/
def State.locksBy (s : State) (c : Instr) : Prop :=
  (∃ sent, c = .hostlock sent) ∨ (∃ sent, c = .linkreset sent) ∨
  (c = .lockRequest ∧ s.ppt.restartPending = false) ∨
  (c = .idleTimerExpiry ∧ s.stc.cfg.idle ≠ 0 ∧ s.lkc.idleTimer.reached (1000 * s.stc.cfg.idle) = true) ∨
  (c = .attachWindowExpiry ∧ s.lkc.windowTimer.reached (1000 * s.stc.cfg.window) = true) ∨
  (c = .pfwEdge ∧ s.stc.ready = true ∧ s.ppt.pfwLow = false) ∨
  ((∃ sent, c = .detach sent) ∧ s.lkc.lockState = some .opened) ∨
  (c = .pairingTimerExpiry ∧ s.ksc.chord = .pairing ∧ s.ksc.held = some .lock ∧
    s.ksc.pairingTimer.reached 20 = true) ∨
  (c = .keyReleaseAccepted .lock ∧ s.ksc.chord = .pairing ∧ s.ksc.held = some .lock ∧
    s.ksc.isDown .lock = true)

/-- The law of the store write queue and the reserve list (R162, R164). -/
def Stc.lawful (q : Stc) : Prop :=
  (q.queue.map QueueEntry.cell).Nodup ∧ settingsCount q.queue ≤ settingsLimit ∧
  ((q.queue ++ q.reserve).map QueueEntry.cell).Nodup ∧ (∀ e ∈ q.reserve, e.cell.isGuard = false) ∧
  (q.reserve ≠ [] → settingsCount q.queue = settingsLimit)

/-- The law of the deferred query queue (R137). -/
def State.dqqLawful (s : State) : Prop := s.dqq.length ≤ 4 ∧ (s.dqq.map Parked.query).Nodup

/-- The laws of the context map: no range is held by two entries (R128), and the LRU list holds the four context numbers,
each once (R127). -/
def Cxm.lawful (c : Cxm) : Prop :=
  (∀ i j : CtxIx, ∀ r, c.entries[i].heldRange = some r → c.entries[j].heldRange = some r → i = j) ∧
  c.lru.Perm [0, 1, 2, 3]

/-- The law of the outbound queue: at most one answer, at the head, and at most 8 order frames behind it (R177; entry
13). -/
def Mpt.lawful (m : Mpt) : Prop :=
  (∀ f ∈ m.outbound.tail, f.isAnswer = false) ∧ (m.outbound.filter (fun f => !f.isAnswer)).length ≤ outboundLimit

/-- The writes that SLT holds for re-offer name slot and range cells alone (R56, R59). -/
def Slt.heldLawful (t : Slt) : Prop :=
  match t.build with
  | some (.firstWriting held _ _ _) => ∀ w ∈ held, w.cell.isGuard = false ∧ w.cell ≠ .cfg
  | _ => True

/-- Whenever the journal's phase is not IDLE the lock state is ERASING (R22), and so it is while the erase engine awaits
a write (R147, R154). -/
def State.journalLawful (s : State) : Prop :=
  s.ere.journal.phase ≠ .idle ∨ s.ere.awaited ≠ none → s.lkc.lockState = some .erasing

/-- No key buffer position holds a GUARDED or HIDDEN key unless the drive is unlocked (R20). -/
def State.buffersClosed (s : State) : Prop :=
  ¬ s.unlocked → ∀ k : RangeIx, ∀ b, s.lkc.keyBuffer[k] = some b → b.cls = .pub

/-- No context is LOADING or LOADED in BLANK, in ERASING or before store-ready (R116, R136, R142). -/
def State.contextsClosed (s : State) : Prop :=
  ¬ s.unlocked → s.lkc.lockState ≠ some .locked → ∀ i : CtxIx, s.cxm.entries[i].heldRange = none

/-- The admin session follows R16 and R17: it exists only while the drive is unlocked, and its timer runs exactly while
it does. -/
def State.sessionLawful (s : State) : Prop :=
  (s.lkc.session = true → s.unlocked) ∧ s.lkc.sessionTimer.isRunning = s.lkc.session

/-- The attach window runs exactly in OPEN_PENDING (R94); the idle lock timer runs exactly in OPEN with a preset above 0
and is HELD otherwise (R92). -/
def State.lockTimersLawful (s : State) : Prop :=
  (s.lkc.windowTimer.isRunning = true ↔ s.lkc.lockState = some .openPending) ∧
  (s.lkc.idleTimer.isRunning = true ↔ s.lkc.lockState = some .opened ∧ s.stc.cfg.idle ≠ 0) ∧
  (s.lkc.idleTimer.isRunning = false → s.lkc.idleTimer = .held)

/-- The standby timer is RUNNING while the five conditions of R44 hold outside STANDBY, and HELD otherwise (R98, R100). -/
def State.standbyLawful (s : State) : Prop :=
  s.enu.standbyTimer.isRunning = (s.mayStandBy && !s.enu.standby) ∧
  (s.enu.standbyTimer.isRunning = false → s.enu.standbyTimer = .held)

/-- The settings lie in their ranges with W ≥ F+2 (R68, R90), and the attempt counter is at most 20 (R67, R159). -/
def State.countersLawful (s : State) : Prop := s.stc.cfg.inRange = true ∧ s.atg.counter ≤ 20

/-- No two DEFINED records of a range table share an LBA (R105). -/
def tableValid (t : Vector RangeRecord 8) : Prop :=
  ∀ i j : RangeIx, i ≠ j → t[i].conflicts t[j] = false

/-- Neither the live nor the staged table holds two records that share an LBA (R105). -/
def Rgt.lawful (g : Rgt) : Prop := tableValid g.live ∧ tableValid g.staged

end Sys2Proof.Machine
end

