-- ==== Sys2Proof/Certificates/Slice0/Obligations.lean ====
section
/-! DEFINITION. The statements for the provers. -/

section

open Sys2Proof Sys2Proof.Machine

/-! ### Steps, reset, frames of the ports -/

/-- A step takes the command at the front of the queue and runs it with the queue's rest (the model's queue, entry 1). On
an empty queue it runs a command that is due, if one is; which of several it is, the model chooses (entry 2). Where none
is due, one millisecond passes: every RUNNING timer, reply timer and repeat timer counts one, the back-off timer counts a
tick in every hundred, and nothing else changes (R79, R89); that no command takes time and that the resolution is 1 ms are
the model's (entries 2 and 33). A part without supply stands still (entry 6). -/
def Obligations.StepRunsFrontCommand : Prop :=
  (∀ (c : Instr) (rest : List Instr) (s : State), s.pending = c :: rest → step s = exec c { s with pending := rest }) ∧
  (∀ s : State, s.pending = [] → s.powered = false → step s = .next s) ∧
  (∀ s : State, s.pending = [] → s.powered = true →
    ((∃ c, s.isDue c) → ∃ c, s.isDue c ∧ step s = exec c s) ∧
    ((∀ c, ¬ s.isDue c) → ∃ t, step s = .next t ∧
      t = { s with ksc := t.ksc, enu := t.enu, atg := t.atg, lkc := t.lkc, cxm := t.cxm, dqq := t.dqq } ∧
      t.ksc = { s.ksc with pairingTimer := t.ksc.pairingTimer, chordTimer := t.ksc.chordTimer } ∧
      t.enu = { s.enu with entryTimer := t.enu.entryTimer, standbyTimer := t.enu.standbyTimer } ∧
      t.lkc = { s.lkc with sessionTimer := t.lkc.sessionTimer, windowTimer := t.lkc.windowTimer,
                           idleTimer := t.lkc.idleTimer } ∧
      (∀ timer ∈ timersOf, timer t = match timer s with
        | .running e => .running (e + 1)
        | x => x) ∧
      t.atg = { s.atg with timer := s.atg.timer.map (fun x =>
        if x.phase + 1 < 100 then { x with phase := x.phase + 1 } else { x with elapsed := x.elapsed + 1, phase := 0 }) } ∧
      t.cxm = { s.cxm with entries := s.cxm.entries.map (fun e => match e with
        | .loading r o n (.running x) => .loading r o n (.running (x + 1))
        | .purging r o (.running x) => .purging r o (.running (x + 1))
        | e => e) } ∧
      t.dqq = s.dqq.map (fun p => match p.state with
        | .ready d stale e => { p with state := .ready d stale (e + 1) }
        | .waiting => p)))

/-- What reset leaves, of the values the manual states for a supply start before store-ready (R24, R47, R66, R101, R127,
R142, R158, R170, R184, R190, R192). -/
def Obligations.ResetValues : Prop :=
  State.reset.lkc.lockState = none ∧ State.reset.lkc.session = false ∧ State.reset.lkc.role = none ∧
  State.reset.lkc.mask = 0 ∧ State.reset.lkc.keyBuffer = Vector.replicate 8 none ∧
  State.reset.lkc.idnFault = false ∧ State.reset.lkc.sessionTimer = .held ∧ State.reset.lkc.windowTimer = .stopped ∧
  State.reset.lkc.idleTimer = .held ∧
  State.reset.ksc.down = Vector.replicate 12 false ∧ State.reset.ksc.held = none ∧ State.reset.ksc.chord = .none ∧
  State.reset.ksc.scanMode = .full ∧
  State.reset.enu.state = .idle ∧ State.reset.enu.purpose = none ∧ State.reset.enu.buffer = [] ∧
  State.reset.enu.confirm = [] ∧ State.reset.enu.order = none ∧ State.reset.enu.standbyTimer = .held ∧
  State.reset.slt.matchHold = none ∧ State.reset.slt.unwrap = none ∧ State.reset.slt.driveKey = none ∧
  State.reset.atg.timer = none ∧ State.reset.atg.attFaulty = false ∧ State.reset.atg.check = none ∧
  State.reset.cxm.entries = Vector.replicate 4 .empty ∧ State.reset.cxm.lru = [0, 1, 2, 3] ∧
  State.reset.cxm.orderCounter = 0 ∧ State.reset.dqq = [] ∧
  State.reset.ere.awaited = none ∧ State.reset.ere.order = none ∧ State.reset.ere.retry = 0 ∧
  State.reset.stc.queue = [] ∧ State.reset.stc.reserve = [] ∧ State.reset.stc.writing = none ∧
  State.reset.stc.ready = false ∧ State.reset.stc.faulty = Vector.replicate 18 false ∧
  State.reset.mpt.outbound = [] ∧ State.reset.mpt.attached = false ∧ State.reset.mpt.capacity = none ∧
  State.reset.ppt.flags = 0 ∧ State.reset.ppt.enables = BitVec.allOnes 12 ∧
  State.reset.ppt.reply = { type := 0, payload := [] } ∧ State.reset.ppt.startCause = .supply

/-- The laws of the device, all of them, hold at reset. -/
def Obligations.ResetMeetsLaws : Prop :=
  State.reset.stc.lawful ∧ State.reset.dqqLawful ∧ State.reset.cxm.lawful ∧ State.reset.mpt.lawful ∧
  State.reset.slt.heldLawful ∧ State.reset.journalLawful ∧ State.reset.buffersClosed ∧ State.reset.contextsClosed ∧
  State.reset.sessionLawful ∧ State.reset.lockTimersLawful ∧ State.reset.standbyLawful ∧ State.reset.countersLawful ∧
  State.reset.rgt.lawful

/-- The 44 bytes that carry a bridge frame are read back as its command, with every operand as sent (R174, R175 and the
frame formats of 10.5). -/
def Obligations.BridgeFramesReadBack : Prop :=
  ∀ (i : Instr) (bytes : List Byte), bridgeBytes i = some bytes → i.wellFormed = true →
    bytes.length = 44 ∧ readBridge (sentMark i) bytes = .command i

/-- The bytes that write a panel request are read back as its command, with every operand as written (R181 and the frame
formats of 10.5). -/
def Obligations.PanelRequestsReadBack : Prop :=
  ∀ (i : Instr) (bytes : List Byte), panelBytes i = some bytes → i.wellFormed = true → readPanel bytes = .command i

/-! ### Laws that every step keeps -/

/-- Every step keeps the law of the store write queue and the reserve list (R162, R164). -/
def Obligations.StepKeepsStoreLaw : Prop :=
  ∀ s t : State, s.stc.lawful → step s = .next t → t.stc.lawful

/-- Every step keeps the law of the deferred query queue, at most 4 entries and no two with one match key (R137), and the
laws of the context map (R127, R128). -/
def Obligations.StepKeepsQueryAndContextLaws : Prop :=
  (∀ s t : State, s.dqqLawful → step s = .next t → t.dqqLawful) ∧
  (∀ s t : State, s.cxm.lawful → step s = .next t → t.cxm.lawful)

/-- Every step keeps the law of the outbound queue. That at most 8 ORDER frames stand beside the answer is the model's
reading of the rule's limit (R177; entry 13). -/
def Obligations.StepKeepsOutboundLaw : Prop :=
  ∀ s t : State, s.mpt.lawful → step s = .next t → t.mpt.lawful

/-- Every step keeps the law that the lock state is ERASING whenever the journal's phase is not IDLE (R22) or the erase
engine awaits a write, together with the form of the writes that SLT holds. The clauses on the awaited write and on the
held writes are read from R147, R56 and R59. -/
def Obligations.StepKeepsJournalLaw : Prop :=
  ∀ s t : State, s.journalLawful → s.slt.heldLawful → step s = .next t → t.journalLawful ∧ t.slt.heldLawful

/-- Every step keeps the key buffer free of guarded and hidden keys unless the drive is unlocked (R20), and every context
out of LOADING and LOADED in BLANK, in ERASING and before store-ready (R116, R136, R142). The premise is the journal's
law, a statement of its own. -/
def Obligations.StepKeepsKeysClosed : Prop :=
  (∀ s t : State, s.journalLawful → s.buffersClosed → step s = .next t → t.buffersClosed) ∧
  (∀ s t : State, s.journalLawful → s.contextsClosed → step s = .next t → t.contextsClosed)

/-- Every step keeps the law of the admin session (R16, R17) and the conditions of the attach window and the idle lock
timer (R92, R94). The premises are the laws of the journal and of the held writes, a statement of their own. -/
def Obligations.StepKeepsSessionAndTimerLaws : Prop :=
  (∀ s t : State, s.journalLawful → s.sessionLawful → step s = .next t → t.sessionLawful) ∧
  (∀ s t : State, s.journalLawful → s.slt.heldLawful → s.lockTimersLawful → step s = .next t → t.lockTimersLawful)

/-- Every step keeps the standby timer on its five conditions (R44, R98, R100). -/
def Obligations.StepKeepsStandbyLaw : Prop :=
  ∀ s t : State, s.standbyLawful → step s = .next t → t.standbyLawful

/-- Every step keeps the settings in their ranges with W ≥ F+2, and the attempt counter at most 20 (R68, R90, R159). -/
def Obligations.StepKeepsSettings : Prop :=
  ∀ s t : State, s.countersLawful → s.slt.heldLawful → step s = .next t → t.countersLawful

/-! ### Decisions -/

/-- The granted span: with r the range that holds the LBA, E the least of its last LBA, the last sector of the capacity
and s + 4095, a GRANT or FILL covers g = min(c, E − s + 1) sectors, 1 to 4096 of them, PARTIAL exactly when g < c (R117).
-/
def Obligations.GrantedSpan : Prop :=
  ∀ (s : State) (q : Query) (g : Nat) (part : Bool),
    ((∃ i, s.decideQuery q = .answer (.grant i g part)) ∨ s.decideQuery q = .answer (.fill g part)) →
    ∃ (r : RangeIx) (d : RangeDef), s.rgt.live[r] = .defined d ∧ d.start.toNat ≤ q.lba.toNat ∧
      g = min q.count.toNat
        (min (d.stop s.capacityNat - 1) (min (s.capacityNat - 1) (q.lba.toNat + 4095)) - q.lba.toNat + 1) ∧
      1 ≤ g ∧ g ≤ 4096 ∧ q.lba.toNat + g ≤ d.stop s.capacityNat ∧ q.lba.toNat + g ≤ s.capacityNat ∧
      (part = true ↔ g < q.count.toNat)

/-- No GRANT is given for a guarded or hidden range unless the lock state is OPEN and the range is in the unlock mask, and
the context it names is LOADED for that range; a WRITE is granted only in OPEN, to no READER, and in a READ_WRITE range
(R118, R120, R121). -/
def Obligations.GrantNeedsReach : Prop :=
  ∀ (s : State) (q : Query) (i : CtxIx) (g : Nat) (part : Bool), s.decideQuery q = .answer (.grant i g part) →
    ∃ (r : RangeIx) (d : RangeDef) (o : Byte), s.rgt.live[r] = .defined d ∧ d.start.toNat ≤ q.lba.toNat ∧
      q.lba.toNat < d.stop s.capacityNat ∧ s.cxm.entries[i] = .loaded r o ∧
      (d.cls ≠ .pub → s.lkc.lockState = some .opened ∧ maskHas s.lkc.mask r = true) ∧
      (q.dir = .write → s.lkc.lockState = some .opened ∧ s.lkc.role ≠ some .reader ∧ d.policy = .readWrite)

/-- The decision of a query, its steps in their order (R116): the first seven; and, in LOCKED and in OPEN, for the one
live range r that holds the LBA, the others. With E, g and PARTIAL as R117 computes them: an r that cannot be reached
(R118) is OUTSIDE where it is HIDDEN, a FILL to a READ of a GUARDED range of denial mode FILL, and LOCKED otherwise
(R119); a WRITE that is not permitted is READONLY (R120); then a key buffer position without a key is DENY FAULT, a
context LOADED for r a GRANT, and anything else a hand-over (R121). -/
def Obligations.DecisionOrder : Prop :=
  (∀ (s : State) (q : Query),
    (s.lkc.lockState = none → s.decideQuery q = .answer (.deny .notReady)) ∧
    (∀ l, s.lkc.lockState = some l →
      (s.lkc.idnFault = true → s.decideQuery q = .answer (.deny .fault)) ∧
      (s.lkc.idnFault = false →
        (q.count = 0 → s.decideQuery q = .answer (.deny .format)) ∧
        (q.count ≠ 0 →
          (l = .erasing → s.decideQuery q = .answer (.deny .erasing)) ∧
          (l = .blank → s.decideQuery q = .answer (.deny .blank)) ∧
          (l ≠ .erasing → l ≠ .blank →
            (s.mpt.attached = false → s.decideQuery q = .answer (.deny .notReady)) ∧
            (s.mpt.attached = true →
              (s.capacityNat ≤ q.lba.toNat → s.decideQuery q = .answer (.deny .bounds)) ∧
              (q.lba.toNat < s.capacityNat →
                (∀ k : RangeIx, s.rgt.live[k].holdsLba s.capacityNat q.lba.toNat = false) →
                s.decideQuery q = .answer (.deny .outside)))))))) ∧
  (∀ (s : State) (q : Query) (l : LockState) (r : RangeIx) (d : RangeDef) (E g : Nat) (part reach : Bool),
    s.lkc.lockState = some l → (l = .locked ∨ l = .opened) → s.lkc.idnFault = false → q.count ≠ 0 →
    s.mpt.attached = true → q.lba.toNat < s.capacityNat → s.rgt.live[r] = .defined d →
    d.start.toNat ≤ q.lba.toNat → q.lba.toNat < d.stop s.capacityNat →
    (∀ k : RangeIx, k ≠ r → s.rgt.live[k].holdsLba s.capacityNat q.lba.toNat = false) →
    E = min (d.stop s.capacityNat - 1) (min (s.capacityNat - 1) (q.lba.toNat + 4095)) →
    g = min q.count.toNat (E - q.lba.toNat + 1) → (part = true ↔ g < q.count.toNat) →
    (reach = true ↔ d.cls = .pub ∨ (l = .opened ∧ maskHas s.lkc.mask r = true)) →
    (reach = false →
      (d.cls = .hidden → s.decideQuery q = .answer (.deny .outside)) ∧
      (d.cls = .guarded → q.dir = .read → d.denial = .fill → s.decideQuery q = .answer (.fill g part)) ∧
      (d.cls = .guarded → (q.dir = .write ∨ d.denial = .deny) → s.decideQuery q = .answer (.deny .locked))) ∧
    (reach = true → q.dir = .write →
      (d.policy = .readOnly ∨ s.lkc.role = some .reader ∨ (d.cls = .pub ∧ l ≠ .opened)) →
      s.decideQuery q = .answer (.deny .readOnly)) ∧
    (reach = true →
      (q.dir = .read ∨ (d.policy = .readWrite ∧ s.lkc.role ≠ some .reader ∧ (d.cls = .pub → l = .opened))) →
      (s.lkc.keyBuffer[r] = none → s.decideQuery q = .answer (.deny .fault)) ∧
      (∀ b, s.lkc.keyBuffer[r] = some b →
        (∀ i o, s.cxm.lawful → s.cxm.entries[i] = .loaded r o → s.decideQuery q = .answer (.grant i g part)) ∧
        ((∀ (i : CtxIx) o, s.cxm.entries[i] ≠ .loaded r o) → s.decideQuery q = .load r))))

/-- The required duration of a back-off, its preset in ticks, and the law that it is never above C (R77). -/
def Obligations.BackoffDuration : Prop :=
  ∀ (c : Settings) (n : Nat), c.F < n → n < c.W →
    (12 ≤ n - c.F - 1 → backoffSeconds c n = c.C) ∧
    (n - c.F - 1 < 12 → backoffSeconds c n =
      if c.C < c.B * 2 ^ (n - c.F - 1) then c.C else c.B * 2 ^ (n - c.F - 1)) ∧
    backoffPreset c n = 10 * backoffSeconds c n ∧ backoffSeconds c n ≤ c.C ∧
    (c.inRange = true → backoffSeconds c n ≤ 3000 ∧ backoffPreset c n ≤ 30000)

/-- Store-ready's table never overlaps, and the overlap test of a staged edit keeps the staged table free of overlaps
(R105, R114). -/
def Obligations.TablesStayValid : Prop :=
  (∀ c : Cells, tableValid c.startLive) ∧
  (∀ (s t : State) (index : Byte) (start count : Lba) (cls policy denial : Byte), tableValid s.rgt.staged →
    exec (.setRange index start count cls policy denial) s = .next t → tableValid t.rgt.staged)

/-! ### The media port -/

/-- An ACCESS with a tag of 0 to 15 is answered by one frame at the head of the outbound queue that carries its tag; the
frames behind it are no answers (R115, R177). The premise is the outbound law. -/
def Obligations.AccessAnswered : Prop :=
  ∀ (s : State) (sent : Bool) (tag : Byte) (lba : Lba) (count : BitVec 16) (dir : Direction),
    s.powered = true → tag.toNat ≤ 15 → s.mpt.lawful →
    ∃ t f rest, exec (.access sent tag lba count dir) s = .next t ∧ t.mpt.outbound = f :: rest ∧
      f.answerTag = some tag ∧ ∀ g ∈ rest, g.isAnswer = false

/-- A decision given as an answer changes, beyond what a transaction without a bridge frame changes, the outbound queue
with the STATE-pending mark and the owing of a SWEEP, which a longer queue may alter, for a GRANT the LRU list, and for a
GRANT or FILL in OPEN the idle lock timer, and nothing else (R18, R125, R127). -/
def Obligations.AccessDecisionFrame : Prop :=
  ∀ (s : State) (sent : Bool) (q : Query) (d : Decision), s.powered = true → q.tag.toNat ≤ 15 →
    (∀ p ∈ s.dqq, p.query ≠ q) → s.decideQuery q = .answer d →
    ∃ m t, exec (.mediaTransaction sent) s = .next m ∧ exec (.access sent q.tag q.lba q.count q.dir) s = .next t ∧
      s.answers m t (d.frame q.tag) ∧
      (∀ r, d = .deny r → m.sameExcept t [.mpt, .ere]) ∧
      (∀ g part, d = .fill g part → m.sameExcept t [.mpt, .ere, .lkc] ∧
        t.lkc = { m.lkc with idleTimer :=
          if m.lkc.lockState = some .opened then m.lkc.idleTimer.restarted else m.lkc.idleTimer }) ∧
      (∀ i g part, d = .grant i g part → m.sameExcept t [.mpt, .ere, .lkc, .cxm] ∧
        t.cxm = { m.cxm with lru := i :: m.cxm.lru.filter (fun c => c ≠ i) } ∧
        t.lkc = { m.lkc with idleTimer :=
          if m.lkc.lockState = some .opened then m.lkc.idleTimer.restarted else m.lkc.idleTimer })

/-- A query handed over for a range is answered RETRY at the head, by the first case of the table that applies (R128).
Where an entry is LOADING for the range and the deferred query queue holds fewer than 4, it is parked WAITING and no
load begins. Where that queue holds 4, and where no context can be chosen, it is not parked. Otherwise a load starts:
the query is parked WAITING; the chosen context, which of the EMPTY ones, or with none EMPTY of the LOADED ones whose
range no READY parked query references, stands nearest the tail of the LRU list, becomes LOADING with try 1 and the next
order number; and the KEYLOAD with the key buffer's key goes to the tail, its reply timer set to start when it is read,
or running at once where the queue cannot take it (R128, R129, R130, R178). That a READY entry of any decision protects
its range is the model's (entry 32). Stated for no STATE pending, and no SWEEP owed or an empty queue. -/
def Obligations.AccessStartsLoad : Prop :=
  ∀ (s : State) (sent : Bool) (q : Query) (r : RangeIx), s.powered = true →
    q.tag.toNat ≤ 15 → (∀ p ∈ s.dqq, p.query ≠ q) → s.mpt.statePending = false →
    (s.ere.sweepOwed = false ∨ s.mpt.outbound = []) → s.decideQuery q = .load r →
    ∃ m t, exec (.mediaTransaction sent) s = .next m ∧ exec (.access sent q.tag q.lba q.count q.dir) s = .next t ∧
      ((s.dqq.length < 4 → ∀ (j : CtxIx) (o : Byte) (n : Nat) (timer : ReplyTimer),
          s.cxm.entries[j] = .loading r o n timer →
        m.sameExcept t [.dqq, .mpt] ∧ t.dqq = s.dqq ++ [{ query := q, range := r, state := .waiting }] ∧
        t.mpt = { m.mpt with outbound := .retry q.tag :: m.mpt.outbound }) ∧
      (4 ≤ s.dqq.length → m.sameExcept t [.mpt] ∧
        t.mpt = { m.mpt with outbound := .retry q.tag :: m.mpt.outbound }) ∧
      ((∀ j : CtxIx, s.cxm.entries[j] ≠ .empty ∧ (∀ o n timer, s.cxm.entries[j] ≠ .loading r o n timer) ∧
          (∀ old o, s.cxm.entries[j] = .loaded old o → readyReferences s.dqq old = true)) →
        m.sameExcept t [.mpt] ∧ t.mpt = { m.mpt with outbound := .retry q.tag :: m.mpt.outbound }) ∧
      (s.dqq.length < 4 → (∀ (j : CtxIx) o n timer, s.cxm.entries[j] ≠ .loading r o n timer) →
        ∀ (front back : List CtxIx) (i : CtxIx) (b : BufferKey), s.cxm.lru = front ++ i :: back →
        ((s.cxm.entries[i] = .empty ∧ ∀ j ∈ back, s.cxm.entries[j] ≠ .empty) ∨
          ((∀ j ∈ s.cxm.lru, s.cxm.entries[j] ≠ .empty) ∧
            (∃ old o, s.cxm.entries[i] = .loaded old o ∧ readyReferences s.dqq old = false) ∧
            ∀ j ∈ back, ∀ old o, s.cxm.entries[j] = .loaded old o → readyReferences s.dqq old = true)) →
        s.lkc.keyBuffer[r] = some b →
        m.sameExcept t [.cxm, .dqq, .mpt] ∧
        t.dqq = s.dqq ++ [{ query := q, range := r, state := .waiting }] ∧
        ∃ timer, t.cxm = { m.cxm with
            entries := m.cxm.entries.set i (.loading r s.cxm.orderCounter 1 timer),
            orderCounter := s.cxm.orderCounter + 1 } ∧
          (takesOrder (.retry q.tag :: m.mpt.outbound) → timer = .onRead ∧
            t.mpt.outbound.getLast? = some (.keyload i s.cxm.orderCounter b.key)) ∧
          (m.mpt.outbound.length < 7 → t.mpt = { m.mpt with
            outbound := .retry q.tag :: m.mpt.outbound ++ [.keyload i s.cxm.orderCounter b.key] }) ∧
          (¬ takesOrder (.retry q.tag :: m.mpt.outbound) → timer = .running 0 ∧
            t.mpt = { m.mpt with outbound := .retry q.tag :: m.mpt.outbound })))

/-- A repeat of a parked query, beyond what a transaction without a bridge frame changes: RETRY at the head while
WAITING; the stored decision at the head once READY and holding, with the entry leaving the queue, a GRANT moving its
context to the head of the LRU list, and a GRANT or FILL in OPEN restarting the idle lock timer; in both nothing else
changes, but that the longer outbound queue may alter where a pending STATE and an owed SWEEP stand; and READY and not
holding, being stale or a GRANT whose context is not LOADED for the entry's range, the entry leaves the queue and the
query is decided afresh, with the outcome it has where nothing was parked (R138, R140). Stated for a queue with one
match key each (R137). -/
def Obligations.RepeatAnswered : Prop :=
  ∀ (s : State) (sent : Bool) (p : Parked), s.powered = true → p.query.tag.toNat ≤ 15 → s.dqqLawful → p ∈ s.dqq →
    ∃ m t, exec (.mediaTransaction sent) s = .next m ∧
      exec (.access sent p.query.tag p.query.lba p.query.count p.query.dir) s = .next t ∧
      (p.state = .waiting → m.sameExcept t [.mpt, .ere] ∧ s.answers m t (.retry p.query.tag) ∧ t.dqq = s.dqq) ∧
      (∀ d e, p.state = .ready d false e →
        (∀ i g part, d = .grant i g part → ∃ o, s.cxm.entries[i] = .loaded p.range o) →
        m.sameExcept t [.dqq, .mpt, .ere, .lkc, .cxm] ∧
        s.answers m t (d.frame p.query.tag) ∧ t.dqq = s.dqq.filter (fun x => x ≠ p) ∧
        t.cxm = { m.cxm with lru := match d with
          | .grant i _ _ => i :: m.cxm.lru.filter (fun c => c ≠ i)
          | .fill _ _ | .deny _ => m.cxm.lru } ∧
        t.lkc = { m.lkc with idleTimer := match d with
          | .grant _ _ _ | .fill _ _ =>
            if m.lkc.lockState = some .opened then m.lkc.idleTimer.restarted else m.lkc.idleTimer
          | .deny _ => m.lkc.idleTimer }) ∧
      (∀ d stale e, p.state = .ready d stale e →
        (stale = true ∨ ∃ i g part, d = .grant i g part ∧ ∀ o, s.cxm.entries[i] ≠ .loaded p.range o) →
        p ∉ t.dqq ∧ exec (.access sent p.query.tag p.query.lba p.query.count p.query.dir)
          { s with dqq := s.dqq.filter (fun x => x ≠ p) } = .next t)

/-- A complete transaction without a bridge frame: the frame sent leaves the queue, and nothing but the port and the
reply timer that waits for that frame's reading changes: of a KEYLOAD or a PURGE, the timer of its context's entry, and
of any other frame none (R130, R135, R174); stated for no STATE pending and no SWEEP owed. That a frame of which an
identical copy still waits in the queue starts no timer is the model's (entry 15). A frame that was not clocked out
stays at the head unless it is an answer (entry 13). With an empty queue nothing leaves it, and a pending STATE notice
is placed (R178). A transaction that is abandoned leaves the queue as it stood (R174). -/
def Obligations.TransactionsEnd : Prop :=
  ∀ s : State, s.powered = true →
    (∀ (f : OutFrame) (rest : List OutFrame), s.mpt.outbound = f :: rest → s.mpt.statePending = false →
      s.ere.sweepOwed = false →
      ∃ t, exec (.mediaTransaction true) s = .next t ∧ s.sameExcept t [.mpt, .cxm] ∧
        t.mpt = { s.mpt with transaction := none, outbound := rest } ∧
        t.cxm = ({ s with mpt := { s.mpt with transaction := none, outbound := rest } }.frameRead f).cxm ∧
        t.cxm.lru = s.cxm.lru ∧ t.cxm.orderCounter = s.cxm.orderCounter ∧
        (∀ (i : CtxIx) (o : Byte) (k : Key) (r : RangeIx) (n : Nat), f = .keyload i o k → f ∉ rest →
          s.cxm.entries[i] = .loading r o n .onRead →
          t.cxm.entries = s.cxm.entries.set i (.loading r o n (.running 0))) ∧
        (∀ (i : CtxIx) (o : Byte) (r : RangeIx), f = .purge i o → f ∉ rest → s.cxm.entries[i] = .purging r o .onRead →
          t.cxm.entries = s.cxm.entries.set i (.purging r o (.running 0))) ∧
        ((∀ i o k, f ≠ .keyload i o k) → (∀ i o, f ≠ .purge i o) → t.cxm = s.cxm)) ∧
    (∀ (f : OutFrame) (rest : List OutFrame), s.mpt.outbound = f :: rest → s.mpt.statePending = false →
      s.ere.sweepOwed = false →
      ∃ t, exec (.mediaTransaction false) s = .next t ∧
        (f.isAnswer = true → exec (.mediaTransaction true) s = .next t) ∧
        (f.isAnswer = false → s.sameExcept t [.mpt] ∧ t.mpt = { s.mpt with transaction := none })) ∧
    (∀ (sent : Bool) (l : LockState), s.mpt.outbound = [] → s.mpt.statePending = true → s.lkc.lockState = some l →
      ∃ t, exec (.mediaTransaction sent) s = .next t ∧ s.sameExcept t [.mpt] ∧
        t.mpt = { s.mpt with transaction := none, outbound := [.state l], statePending := false }) ∧
    (∀ sent : Bool, s.mpt.outbound = [] → s.mpt.statePending = false →
      ∃ t, exec (.mediaTransaction sent) s = .next t ∧ s.sameExcept t [.mpt] ∧
        t.mpt = { s.mpt with transaction := none }) ∧
    (∀ bytes : Nat, ∃ t, exec (.transactionAbandoned bytes) s = .next t ∧ s.sameExcept t [.mpt] ∧
      t.mpt = { s.mpt with transaction := none })

/-- The bytes received on MOSI, by the first case of the table that applies (R175). A first byte other than C3h is no
frame or is dropped; a length above 40 is malformed, its check code untested; a check code that does not match is
dropped; and a type, a length or a coded field out of place is malformed. What is dropped leaves the transaction as
without a frame. What is malformed is answered at the head with an ERROR frame that carries the type received and the
tag of an ACCESS of at least one byte that has one, FFh otherwise, and nothing else changes but what a longer queue
alters of a pending STATE and an owed SWEEP. A frame that is well-formed is none of this row's, and has no effect, which
is the model's (entry 24). -/
def Obligations.MalformedFrames : Prop :=
  ∀ (s : State) (sent : Bool) (mosi : List Byte), s.powered = true →
    ∃ m t, exec (.mediaTransaction sent) s = .next m ∧ exec (.malformedFrame sent mosi) s = .next t ∧
      ((mosi.head? ≠ some 0xC3 ∨ mosi.length < 3) → t = m) ∧
      (∀ (type length : Byte) (rest payload : List Byte), mosi = 0xC3 :: type :: length :: rest →
        payload = rest.take length.toNat →
        (length.toNat ≤ 40 → rest[length.toNat]? ≠ some (crc8 (type :: length :: payload)) → t = m) ∧
        (length.toNat ≤ 40 → rest[length.toNat]? = some (crc8 (type :: length :: payload)) →
          bridgeFields type payload → t = m) ∧
        ((40 < length.toNat ∨ (rest[length.toNat]? = some (crc8 (type :: length :: payload)) ∧
            ¬ bridgeFields type payload)) →
          ∀ tag : Byte,
            ((type = 0x01 ∧ 1 ≤ length.toNat ∧ tag.toNat ≤ 15 ∧ rest.head? = some tag) ∨
              (tag = 0xFF ∧ ∀ first : Byte, type = 0x01 → 1 ≤ length.toNat → rest.head? = some first →
                15 < first.toNat)) →
          m.sameExcept t [.mpt, .ere] ∧ s.answers m t (.error type tag)))

/-- ATTACH sets the attached flag and records the capacity; it makes an OPEN_PENDING drive OPEN, with the window
stopped, the idle lock timer started unless its preset is 0 and the notice of OPEN placed or pending, and has no effect
at LKC in any other lock state (R9, R13). DETACH clears the attached flag and keeps the capacity: in OPEN the lock
procedure runs; outside OPEN it has no effect at LKC, marks every READY parked entry stale and pauses an ordered sweep,
its SWEEP frame withdrawn and its cursor standing (R14, R139, R153, R179); the retry count of a pause is the model's
(entry 45). -/
def Obligations.AttachEffects : Prop :=
  ∀ (s : State) (sent : Bool) (capacity : BitVec 64), s.powered = true →
    (s.lkc.lockState = some .opened →
      ∃ t, exec (.detach sent) s = .next t ∧ t.closedDown ∧ t.mpt.attached = false ∧ t.mpt.capacity = s.mpt.capacity) ∧
    (s.lkc.lockState ≠ some .opened →
      ∃ t, exec (.detach sent) s = .next t ∧ s.sameExcept t [.cxm, .dqq, .mpt, .ere] ∧
        t.mpt.attached = false ∧ t.mpt.capacity = s.mpt.capacity ∧
        t.cxm.entries.map ContextEntry.heldRange = s.cxm.entries.map ContextEntry.heldRange ∧
        t.dqq = s.dqq.map (fun p => match p.state with
          | .ready d _ e => { p with state := .ready d true e }
          | .waiting => p) ∧
        t.ere.journal = s.ere.journal ∧ t.ere.awaited = s.ere.awaited ∧
        (s.ere.journal.phase = .sweep → s.ere.sweepState = some .ordered → t.ere.sweepState = some .paused ∧
          t.ere.order = none ∧ ∀ f ∈ t.mpt.outbound, f.isSweep = false) ∧
        (s.ere.sweepState ≠ some .ordered → t.ere.sweepState = s.ere.sweepState)) ∧
    ∃ t, exec (.attach sent capacity) s = .next t ∧ t.mpt.attached = true ∧ t.mpt.capacity = some capacity ∧
      t.lkc = (if s.lkc.lockState = some .openPending then
        { s.lkc with lockState := some .opened, windowTimer := .stopped,
                     idleTimer := if s.stc.cfg.idle = 0 then .held else .running 0 }
        else s.lkc) ∧
      (s.lkc.lockState = some .openPending → .state .opened ∈ t.mpt.outbound ∨ t.mpt.statePending = true) ∧
      t.slt = s.slt ∧ t.atg = s.atg ∧ t.rgt = s.rgt ∧ t.enu.standby = false ∧ t.freshCount = s.freshCount ∧
      t.dqq.map Parked.query = s.dqq.map Parked.query ∧
      (∀ p ∈ t.dqq, ∀ d stale e, p.state = .ready d stale e → stale = true)

/-- LINKRESET empties the deferred query queue and every context entry and clears the attached flag, keeping the capacity;
a sweep that is ORDERED pauses, its order none, and any other keeps its state and its order (R15, R136, R153, R158, R180).
Where no sweep is ordered or one pauses, the outbound queue is empty afterwards while the drive is not unlocked, LKC
standing, and holds the one notice of LOCKED where it was unlocked. -/
def Obligations.LinkResetEffects : Prop :=
  ∀ (s : State) (sent : Bool), s.powered = true →
    ∃ t, exec (.linkreset sent) s = .next t ∧ t.dqq = [] ∧ t.cxm.entries = Vector.replicate 4 .empty ∧
      t.cxm.lru = s.cxm.lru ∧ t.cxm.orderCounter = s.cxm.orderCounter ∧ t.mpt.attached = false ∧
      t.mpt.capacity = s.mpt.capacity ∧ t.ere.retry = 0 ∧ t.ere.journal = s.ere.journal ∧
      t.ere.awaited = s.ere.awaited ∧ t.stc.cells = s.stc.cells ∧
      (s.ere.journal.phase = .sweep → s.ere.sweepState = some .ordered →
        t.ere.order = none ∧ t.ere.sweepState = some .paused) ∧
      (¬ (s.ere.journal.phase = .sweep ∧ s.ere.sweepState = some .ordered) →
        t.ere.order = s.ere.order ∧ t.ere.sweepState = s.ere.sweepState) ∧
      (¬ s.unlocked → t.lkc = s.lkc ∧ t.rgt = s.rgt ∧ t.ppt = s.ppt) ∧
      ((s.ere.order = none ∨ (s.ere.journal.phase = .sweep ∧ s.ere.sweepState = some .ordered)) →
        (¬ s.unlocked → t.mpt.outbound = []) ∧ (s.unlocked → t.mpt.outbound = [.state .locked]))

/-- A KEYACK OK with the order number of a LOADING entry completes the load: the context is LOADED and at the head of
the LRU list, and each WAITING query of the range is READY with the decision it has at that moment (R132); that a query
whose fresh decision is again a load stays WAITING is the model's (entry 35). A KEYACK FAIL with that number ends the
try: at tries 1 and 2 the load goes on with one try more, the KEYLOAD queued again under the same number and its reply
timer set to start when that is read, or running at once where the queue cannot take it (R130); at 3 it fails (R133). A
KEYACK with another order number, with a context above 3, or for an entry that is not LOADING has no effect beyond its
transaction (R134). The frame queued again is stated for no STATE pending and no SWEEP owed. -/
def Obligations.KeyackCompletesLoad : Prop :=
  ∀ (s : State) (sent : Bool), s.powered = true → ∃ m, exec (.mediaTransaction sent) s = .next m ∧
    (∀ (i : CtxIx) (r : RangeIx) (o : Byte) (n : Nat) (timer : ReplyTimer), s.cxm.entries[i] = .loading r o n timer →
      (∃ t, exec (.keyack sent (BitVec.ofNat 8 i.val) o true) s = .next t ∧ m.sameExcept t [.cxm, .dqq] ∧
        t.cxm = { m.cxm with entries := m.cxm.entries.set i (.loaded r o),
                             lru := i :: m.cxm.lru.filter (fun c => c ≠ i) } ∧
        t.dqq = m.dqq.map (fun p =>
          if p.state = .waiting ∧ p.range = r then
            (match t.decideQuery p.query with
             | .answer d => { p with state := .ready d false 0 }
             | .load _ => p)
          else p)) ∧
      (∃ t, exec (.keyack sent (BitVec.ofNat 8 i.val) o false) s = .next t ∧
        (n < 3 → m.sameExcept t [.cxm, .mpt, .ere] ∧
          ∃ timer, t.cxm = { m.cxm with entries := m.cxm.entries.set i (.loading r o (n + 1) timer) } ∧
            (∀ b, s.lkc.keyBuffer[r] = some b → s.mpt.statePending = false → s.ere.sweepOwed = false →
              t.ere = m.ere ∧
              (takesOrder m.mpt.outbound → timer = .onRead ∧ t.mpt.outbound.getLast? = some (.keyload i o b.key)) ∧
              (m.mpt.outbound.length < 8 →
                t.mpt = { m.mpt with outbound := m.mpt.outbound ++ [.keyload i o b.key] }) ∧
              (¬ takesOrder m.mpt.outbound → timer = .running 0 ∧ t.mpt = m.mpt))) ∧
        (3 ≤ n → m.sameExcept t [.cxm, .dqq, .ppt] ∧ t.cxm = { m.cxm with entries := m.cxm.entries.set i .empty } ∧
          t.ppt = m.ppt.setFlag .keyloadFault ∧
          t.dqq = m.dqq.map (fun p => if p.state = .waiting ∧ p.range = r then
            { p with state := .ready (.deny .fault) false 0 } else p))) ∧
      (∀ (order : Byte) (ok : Bool), order ≠ o → exec (.keyack sent (BitVec.ofNat 8 i.val) order ok) s = .next m)) ∧
    (∀ (i : CtxIx) (order : Byte) (ok : Bool), (∀ r o n timer, s.cxm.entries[i] ≠ .loading r o n timer) →
      exec (.keyack sent (BitVec.ofNat 8 i.val) order ok) s = .next m) ∧
    (∀ (context order : Byte) (ok : Bool), 4 ≤ context.toNat → exec (.keyack sent context order ok) s = .next m)

/-- The reply timer of a LOADING entry, at its 20 ms, expires: at tries 1 and 2 the KEYLOAD is queued again under the
same order number, its reply timer set to start when that is read, or running at once where the queue cannot take it
(R130, R178); at 3 the entry becomes EMPTY, KEYLOAD_FAULT is set, and the range's WAITING queries are READY with DENY
FAULT (R133). -/
def Obligations.KeyloadTimeout : Prop :=
  ∀ (s : State) (i : CtxIx) (r : RangeIx) (o : Byte) (n e : Nat), s.powered = true →
    s.cxm.entries[i] = .loading r o n (.running e) → 20 ≤ e →
    ∃ t, exec (.keyloadReplyTimeout i) s = .next t ∧
      (n < 3 → s.sameExcept t [.cxm, .mpt] ∧
        ∃ timer, t.cxm = { s.cxm with entries := s.cxm.entries.set i (.loading r o (n + 1) timer) } ∧
          (∀ b, s.lkc.keyBuffer[r] = some b →
            (takesOrder s.mpt.outbound → timer = .onRead ∧ t.mpt.outbound.getLast? = some (.keyload i o b.key)) ∧
            (s.mpt.outbound.length < 8 →
              t.mpt = { s.mpt with outbound := s.mpt.outbound ++ [.keyload i o b.key] }) ∧
            (¬ takesOrder s.mpt.outbound → timer = .running 0 ∧ t.mpt = s.mpt))) ∧
      (3 ≤ n → s.sameExcept t [.cxm, .dqq, .ppt] ∧ t.cxm = { s.cxm with entries := s.cxm.entries.set i .empty } ∧
        t.ppt = s.ppt.setFlag .keyloadFault ∧
        t.dqq = s.dqq.map (fun p => if p.state = .waiting ∧ p.range = r then
          { p with state := .ready (.deny .fault) false 0 } else p))

/-- A PURGEACK with the order number of a PURGING entry makes it EMPTY; one with another number, with a context above 3,
or for an entry that is not PURGING has no effect beyond its transaction. The expiry of a PURGING entry's reply timer at
20 ms queues the PURGE again under the same order number, its reply timer set to start when that is read, or running at
once where the queue cannot take it (R135, R178). -/
def Obligations.PurgeReplies : Prop :=
  ∀ s : State, s.powered = true →
    (∀ sent : Bool, ∃ m, exec (.mediaTransaction sent) s = .next m ∧
      (∀ (i : CtxIx) (r : RangeIx) (o : Byte) (timer : ReplyTimer), s.cxm.entries[i] = .purging r o timer →
        (∃ t, exec (.purgeack sent (BitVec.ofNat 8 i.val) o) s = .next t ∧ m.sameExcept t [.cxm] ∧
          t.cxm = { m.cxm with entries := m.cxm.entries.set i .empty }) ∧
        (∀ order : Byte, order ≠ o → exec (.purgeack sent (BitVec.ofNat 8 i.val) order) s = .next m)) ∧
      (∀ (i : CtxIx) (order : Byte), (∀ r o timer, s.cxm.entries[i] ≠ .purging r o timer) →
        exec (.purgeack sent (BitVec.ofNat 8 i.val) order) s = .next m) ∧
      (∀ context order : Byte, 4 ≤ context.toNat → exec (.purgeack sent context order) s = .next m)) ∧
    (∀ (i : CtxIx) (r : RangeIx) (o : Byte) (e : Nat), s.cxm.entries[i] = .purging r o (.running e) → 20 ≤ e →
      ∃ t timer, exec (.purgeReplyTimeout i) s = .next t ∧ s.sameExcept t [.cxm, .mpt] ∧
        t.cxm = { s.cxm with entries := s.cxm.entries.set i (.purging r o timer) } ∧
        (takesOrder s.mpt.outbound → timer = .onRead ∧ t.mpt.outbound.getLast? = some (.purge i o)) ∧
        (s.mpt.outbound.length < 8 → t.mpt = { s.mpt with outbound := s.mpt.outbound ++ [.purge i o] }) ∧
        (¬ takesOrder s.mpt.outbound → timer = .running 0 ∧ t.mpt = s.mpt))

/-- The repeat timer's expiry at 50 ms discards the READY entry and sets DISCARD (R139). -/
def Obligations.RepeatTimerDiscards : Prop :=
  ∀ (s : State) (place : Nat) (p : Parked) (d : Decision) (stale : Bool) (e : Nat), s.powered = true →
    s.dqq[place]? = some p → p.state = .ready d stale e → 50 ≤ e →
    ∃ t, exec (.repeatTimerExpiry place) s = .next t ∧ s.sameExcept t [.dqq, .ppt] ∧
      t.dqq = s.dqq.eraseIdx place ∧ t.ppt = s.ppt.setFlag .discard

/-- A SWEPT for the order: OK records the next cursor, or at the sweep end queues the IDLE record, with the EJR write on
its way; FAIL raises the retry count and queues the same SWEEP again, and at 3 ends the sweep incomplete at the failed
chunk (R151, R154). A SWEPT in any other case is ignored: outside the SWEEP phase, in PAUSED or RECORDING, or carrying
another start or count (R152). The frame queued again is stated for no STATE pending and no SWEEP owed. -/
def Obligations.SweptEffects : Prop :=
  (∀ (s : State) (sent : Bool) (start : Lba) (count : BitVec 16) (cursor sweepEnd : Lba), s.powered = true →
    s.ere.journal.phase = .sweep → s.ere.sweepState = some .ordered →
    s.ere.order = some { start := start, count := count.toNat } →
    s.ere.journal.cursor = some cursor → s.ere.journal.sweepEnd = some sweepEnd →
    ∃ m ok fail, exec (.mediaTransaction sent) s = .next m ∧
      exec (.swept sent start count true) s = .next ok ∧ exec (.swept sent start count false) s = .next fail ∧
      ok.ere.order = none ∧ ok.ere.awaited = some .ejr ∧
      ok.ere.journal = (if start.toNat + count.toNat = sweepEnd.toNat + 1 then
          { phase := .idle, next := none, cursor := none, sweepEnd := none, incomplete := false }
        else { phase := .sweep, next := none, cursor := some (cursor + count.setWidth 32), sweepEnd := some sweepEnd,
               incomplete := false }) ∧
      (start.toNat + count.toNat ≠ sweepEnd.toNat + 1 → ok.ere.sweepState = some .recording) ∧
      (s.stc.lawful → ∃ e, ok.stc.carries e ∧ e.write = .ejr ok.ere.journal) ∧
      (s.ere.retry < 3 → fail.ere.retry = s.ere.retry + 1 ∧ fail.ere.journal = s.ere.journal ∧
        fail.ere.order = s.ere.order ∧ fail.ere.sweepState = some .ordered ∧ fail.stc = s.stc ∧
        (s.mpt.statePending = false → s.ere.sweepOwed = false →
          (m.mpt.outbound.length < 8 → fail.ere.sweepOwed = false ∧
            fail.mpt = { m.mpt with outbound := m.mpt.outbound ++ [.sweep start count.toNat] }) ∧
          (¬ takesOrder m.mpt.outbound → fail.ere.sweepOwed = true ∧ fail.mpt = m.mpt))) ∧
      (3 ≤ s.ere.retry → fail.ere.order = none ∧ fail.ere.awaited = some .ejr ∧ fail.ere.journal =
          { phase := .idle, next := none, cursor := some cursor, sweepEnd := none, incomplete := true } ∧
        (s.stc.lawful → ∃ e, fail.stc.carries e ∧ e.write = .ejr fail.ere.journal)) ∧
      (∀ t, t = ok ∨ t = fail → t.lkc = s.lkc ∧ t.slt = s.slt ∧ t.rgt = s.rgt ∧ t.atg = s.atg ∧ t.ppt = s.ppt ∧
        t.dqq = s.dqq)) ∧
  (∀ (s : State) (sent : Bool) (start : Lba) (count : BitVec 16) (ok : Bool), s.powered = true →
    (s.ere.journal.phase ≠ .sweep ∨ s.ere.sweepState ≠ some .ordered ∨
      (∀ o, s.ere.order = some o → o.start ≠ start ∨ o.count ≠ count.toNat)) →
    ∃ m, exec (.mediaTransaction sent) s = .next m ∧ exec (.swept sent start count ok) s = .next m)

/-! ### Lock events -/

/-- The lock procedure: a lock event taken in OPEN or OPEN_PENDING closes the drive, whether it comes by HOSTLOCK,
LINKRESET, the LOCK request, the idle lock timer or the attach window at their presets, a PFW edge, a DETACH in OPEN, or
the LOCK key at the end of its pairing window or its release, and no context stays LOADING or LOADED for a range that was
guarded or hidden (R4, R5, R7). -/
def Obligations.LockProcedureCloses : Prop :=
  ∀ (s : State) (c : Instr), s.powered = true → s.unlocked → s.locksBy c →
    ∃ t, exec c s = .next t ∧ t.closedDown ∧
      (∀ (i : CtxIx) (r : RangeIx), t.cxm.entries[i].heldRange = some r → s.rgt.live[r].isClosed = false) ∧
      t.slt.slots = s.slt.slots ∧ t.atg.counter = s.atg.counter ∧ t.ere.journal = s.ere.journal ∧
      t.stc.cells = s.stc.cells ∧ t.freshCount = s.freshCount

/-- A lock event taken in OPEN or OPEN_PENDING, by any of the commands that are one, makes a dirty staged table live (R8,
R111) and leaves the live table as it stood where the staged table is not dirty. Of each index whose record changes, the
RNGk write that carries the new record is on its way or in the reserve list, in the place of one that waited; no other
write is queued or lost, but that a PFW edge queues its BKO write. The key buffer position of a changed record holds the key of a
new PUBLIC record, unwrapped under the device key, and is EMPTY otherwise and while the IDN fault mark is held; of an
unchanged one it keeps a PUBLIC key alone. A LINKRESET leaves every context EMPTY (R15, R136); by any other command a
context held for a closed range, or for a changed one that is UNUSED now or has another key, is PURGING, and any other
stands as it does without the frame that the command is. The notice LOCKED is queued, or pending (R7, R9, R178). That the
install follows R8 for a record that keeps its key, and what a key is recovered under, are the model's (entries 48 and
8). -/
def Obligations.LockInstallsStaged : Prop :=
  ∀ (s : State) (c : Instr), s.powered = true → s.unlocked → s.locksBy c →
    ∃ m t, exec c s = .next t ∧
      -- what the command leaves of the contexts where it is a frame: the state after a transaction without one
      (match c with
        | .hostlock sent | .linkreset sent | .detach sent => exec (.mediaTransaction sent) s = .next m
        | _ => m = s) ∧
      (∀ k : RangeIx, t.rgt.live[k] = if s.rgt.dirty then s.rgt.staged[k] else s.rgt.live[k]) ∧
      t.rgt.staged = s.rgt.staged ∧ (c = .lockRequest → t.ppt.reply = { type := 0x84, payload := [0x00] }) ∧
      (OutFrame.state .locked ∈ t.mpt.outbound ∨ t.mpt.statePending = true) ∧
      (c = .lockRequest ∨ s.ere.sweepOwed = false →
        t.mpt.outbound.getLast? = some (.state .locked) ∨ t.mpt.statePending = true) ∧
      t.stc.cells = s.stc.cells ∧
      (∀ e : QueueEntry, (∀ k : RangeIx, e.cell = .rng k → s.rgt.dirty = false ∨ s.rgt.staged[k] = s.rgt.live[k]) →
        (c = .pfwEdge → e.cell ≠ .bko) → (t.stc.owes e ↔ s.stc.owes e)) ∧
      (∀ k : RangeIx, s.rgt.dirty = true → s.rgt.staged[k] ≠ s.rgt.live[k] →
        (∃ e, t.stc.owes e ∧ e.write = .rng k s.rgt.staged[k]) ∧
        (s.stc.lawful → ∀ e, e ∈ t.stc.queue ∨ e ∈ t.stc.reserve → e.cell = .rng k → e.write = .rng k s.rgt.staged[k]) ∧
        (∀ (d : RangeDef) (w : Wrapped) (id : Identity), s.rgt.staged[k] = .defined d → d.cls = .pub →
          d.wrapped = some w → s.lkc.idnFault = false → s.stc.idn = some id →
          t.lkc.keyBuffer[k] = (unwrapKey w id.deviceKey).map (fun key => { key := key, cls := .pub })) ∧
        ((s.rgt.staged[k] = .unused ∨ s.rgt.staged[k].isClosed = true ∨ s.lkc.idnFault = true) →
          t.lkc.keyBuffer[k] = none)) ∧
      (∀ k : RangeIx, (s.rgt.dirty = false ∨ s.rgt.staged[k] = s.rgt.live[k]) →
        t.lkc.keyBuffer[k] = s.lkc.keyBuffer[k].filter (fun b => b.cls = .pub)) ∧
      ((∃ sent, c = .linkreset sent) → ∀ i : CtxIx, t.cxm.entries[i] = .empty) ∧
      ((∀ sent, c ≠ .linkreset sent) →
        (∀ (i : CtxIx) (k : RangeIx), s.cxm.entries[i].heldRange = some k →
          ((s.rgt.live[k].isClosed = true ∨ (s.rgt.dirty = true ∧ s.rgt.staged[k] ≠ s.rgt.live[k] ∧
              (s.rgt.staged[k] = .unused ∨ s.rgt.staged[k].wrapped? ≠ s.rgt.live[k].wrapped?))) →
            ∃ o timer, t.cxm.entries[i] = .purging k o timer) ∧
          (s.rgt.live[k].isClosed = false → (s.rgt.dirty = false ∨ s.rgt.staged[k] = s.rgt.live[k] ∨
              (s.rgt.staged[k] ≠ .unused ∧ s.rgt.staged[k].wrapped? = s.rgt.live[k].wrapped?)) →
            t.cxm.entries[i] = m.cxm.entries[i])) ∧
        (∀ i : CtxIx, s.cxm.entries[i].heldRange = none → t.cxm.entries[i] = m.cxm.entries[i]))

/-- Lock events while the drive is not unlocked, by HOSTLOCK, LINKRESET, the LOCK request, a PFW edge, and the LOCK key at
the end of its pairing window. In LOCKED each marks an unwrap for discard and leaves LKC as it stood; the LOCK key and the
LOCK request cancel a check, and the others do not; in BLANK, in ERASING and before store-ready they leave LKC and SLT as
they stood, and HOSTLOCK changes nothing beyond the transaction it comes in (R5, R6). -/
def Obligations.LockEventsWhileClosed : Prop :=
  ∀ s : State, s.powered = true → ¬ s.unlocked →
    (∀ sent : Bool, ∃ m t, exec (.mediaTransaction sent) s = .next m ∧ exec (.hostlock sent) s = .next t ∧
      (s.lkc.lockState = some .locked → m.sameExcept t [.slt] ∧
        t.slt = { m.slt with unwrap := m.slt.unwrap.map (fun u => { u with discard := true }) }) ∧
      (s.lkc.lockState ≠ some .locked → t = m)) ∧
    (∀ (c : Instr) (cancels : Bool),
      ((cancels = true ∧ c = .lockRequest ∧ s.ppt.restartPending = false) ∨
       (cancels = true ∧ c = .pairingTimerExpiry ∧ s.ksc.chord = .pairing ∧ s.ksc.held = some .lock ∧
         s.ksc.pairingTimer.reached 20 = true) ∨
       (cancels = false ∧ c = .pfwEdge ∧ s.stc.ready = true ∧ s.ppt.pfwLow = false) ∨
       (cancels = false ∧ ∃ sent, c = .linkreset sent)) →
      ∃ t, exec c s = .next t ∧ t.lkc = s.lkc ∧
        (s.lkc.lockState = some .locked →
          t.slt = { s.slt with unwrap := s.slt.unwrap.map (fun u => { u with discard := true }) } ∧
          (s.enu.state = .checking → t.enu.state = .checking ∧ t.enu.cancel = (s.enu.cancel || cancels))) ∧
        (s.lkc.lockState ≠ some .locked → t.slt = s.slt))

/-! ### Keypad and entries -/

/-- A DIGIT pressed on a free keypad. In IDLE it starts an UNLOCK entry in LOCKED and the first enrollment in BLANK, with
its order for slot 0, unless the IDN fault mark is held or an earlier first enrollment is in flight; while the drive is
unlocked, in ERASING and before store-ready it is ignored by the entry unit (R27, R30, R31). In COLLECTING, where the lock
state is present and not ERASING, it is appended to fewer than 15 digits and sets the overlong mark at 15, and it restarts
the entry timer either way (R32). In CHECKING and in HOLDOFF it is ignored (R39, R41). -/
def Obligations.DigitStartsEntry : Prop :=
  ∀ (s : State) (d : Digit), s.powered = true → s.ksc.scanMode = .full → s.ksc.held = none → s.ksc.allUp = true →
    ∃ t, exec (.keyPressAccepted (.digit d)) s = .next t ∧
      t.ksc = { s.ksc.setDown (.digit d) true with held := some (.digit d) } ∧
      (s.enu.state = .idle →
        (s.lkc.lockState = some .locked → s.sameExcept t [.ksc, .enu] ∧ t.enu.state = .collecting ∧
          t.enu.purpose = some .unlock ∧ t.enu.buffer = [d] ∧ t.enu.overlong = false ∧ t.enu.cancel = false ∧
          t.enu.confirm = [] ∧ t.enu.entryTimer = .running 0) ∧
        (s.lkc.lockState = some .blank → s.lkc.idnFault = false → s.slt.firstInFlight = false →
          s.sameExcept t [.ksc, .enu] ∧ t.enu.state = .collecting ∧ t.enu.purpose = some .enroll1 ∧
          t.enu.buffer = [d] ∧ t.enu.overlong = false ∧ t.enu.cancel = false ∧ t.enu.confirm = [] ∧
          t.enu.order = some { slot := 0, role := .admin, mask := BitVec.allOnes 8, once := false } ∧
          t.enu.entryTimer = .running 0) ∧
        (s.lkc.lockState = some .blank → (s.lkc.idnFault = true ∨ s.slt.firstInFlight = true) →
          s.sameExcept t [.ksc]) ∧
        ((s.unlocked ∨ s.lkc.lockState = some .erasing ∨ s.lkc.lockState = none) → s.sameExcept t [.ksc])) ∧
      (s.enu.state = .collecting → s.lkc.lockState ≠ some .erasing → s.lkc.lockState ≠ none →
        s.sameExcept t [.ksc, .enu] ∧
        (s.enu.buffer.length < 15 →
          { s.enu with buffer := s.enu.buffer ++ [d], entryTimer := .running 0 }.sameEntry t.enu) ∧
        (15 ≤ s.enu.buffer.length → { s.enu with overlong := true, entryTimer := .running 0 }.sameEntry t.enu)) ∧
      ((s.enu.state = .checking ∨ s.enu.state = .holdoff) → s.sameExcept t [.ksc])

/-- The chord, whichever of LOCK and UNLOCK was pressed first: the partner's press in the pairing window forms it; its
timer's expiry at 1 s takes one CHORD event, which begins an ADMIN entry in IDLE where the drive is LOCKED or unlocked,
and is ignored in BLANK, in ERASING, before store-ready and in any other state of the entry unit; and a release of
either key before that abandons it without any event. Outside a chord the release of the held key makes the held key
absent and is no key event (R27, R28, R29, R30, R38, R39, R41). -/
def Obligations.ChordAndReleases : Prop :=
  ∀ s : State, s.powered = true →
    (∀ first second : PadKey, ((first = .lock ∧ second = .unlock) ∨ (first = .unlock ∧ second = .lock)) →
      (s.ksc.scanMode = .full → s.ksc.chord = .pairing → s.ksc.held = some first → s.ksc.isDown second = false →
        ∃ t, exec (.keyPressAccepted second) s = .next t ∧ s.sameExcept t [.ksc] ∧
          t.ksc = { s.ksc.setDown second true with
            chord := .forming, pairingTimer := .stopped, chordTimer := .running 0 }) ∧
      (s.ksc.chord = .forming → s.ksc.isDown .lock = true → s.ksc.isDown .unlock = true →
        ∃ t, exec (.keyReleaseAccepted first) s = .next t ∧ s.sameExcept t [.ksc] ∧
          t.ksc = { s.ksc.setDown first false with chord := .abandoned, chordTimer := .stopped })) ∧
    (s.ksc.chord = .forming → s.ksc.chordTimer.reached 1000 = true →
      ∃ t, exec .chordTimerExpiry s = .next t ∧
        t.ksc = { s.ksc with chord := .formed, chordTimer := .stopped } ∧
        (s.enu.state = .idle → (s.lkc.lockState = some .locked ∨ s.unlocked) → s.sameExcept t [.ksc, .enu] ∧
          t.enu.state = .collecting ∧ t.enu.purpose = some .admin ∧ t.enu.buffer = [] ∧ t.enu.confirm = [] ∧
          t.enu.overlong = false ∧ t.enu.cancel = false ∧ t.enu.entryTimer = .running 0) ∧
        ((s.enu.state ≠ .idle ∨ s.lkc.lockState = some .blank ∨ s.lkc.lockState = some .erasing ∨
          s.lkc.lockState = none) → s.sameExcept t [.ksc])) ∧
    (∀ key : PadKey, s.ksc.chord = .none → s.ksc.held = some key → s.ksc.isDown key = true →
      ∃ t, exec (.keyReleaseAccepted key) s = .next t ∧ s.sameExcept t [.ksc] ∧
        t.ksc = { s.ksc.setDown key false with held := none })

/-- The entry timer's expiry at 12 s abandons the entry: both buffers and the overlong mark cleared, the order dropped,
IDLE; ENROLL_FAILED is set for an enrollment purpose alone (R33). The standby timer's expiry at 30 s enters STANDBY: scan
mode WAKE, a pairing window ended without its event, a forming chord abandoned; LKC, ATG and the store stand (R45, R99).
Where an event that restarted a timer was taken first, the timer has not reached its preset and the expiry does not occur
(R89, R99). -/
def Obligations.EntryUnitTimers : Prop :=
  ∀ s : State, s.powered = true →
    (∀ c : Instr, (c = .entryTimerExpiry ∧ s.enu.entryTimer.reached 12000 = false) ∨
        (c = .standbyTimerExpiry ∧ s.enu.standbyTimer.reached 30000 = false) ∨
        (c = .idleTimerExpiry ∧ s.lkc.idleTimer.reached (1000 * s.stc.cfg.idle) = false) ∨
        (c = .attachWindowExpiry ∧ s.lkc.windowTimer.reached (1000 * s.stc.cfg.window) = false) ∨
        (c = .adminSessionExpiry ∧ s.lkc.sessionTimer.reached 60000 = false) →
      ∃ t, exec c s = .next t ∧ s.sameExcept t []) ∧
    (s.enu.entryTimer.reached 12000 = true →
      ∃ t, exec .entryTimerExpiry s = .next t ∧ s.sameExcept t [.enu, .ppt] ∧ t.enu.state = .idle ∧
        t.enu.purpose = none ∧ t.enu.buffer = [] ∧ t.enu.confirm = [] ∧ t.enu.overlong = false ∧
        t.enu.order = none ∧ t.enu.entryTimer = .stopped ∧
        t.ppt = (if s.enu.purpose = some .enroll1 ∨ s.enu.purpose = some .enroll2 then s.ppt.setFlag .enrollFailed
          else s.ppt)) ∧
    (s.enu.standbyTimer.reached 30000 = true →
      ∃ t, exec .standbyTimerExpiry s = .next t ∧ s.sameExcept t [.ksc, .enu] ∧ t.enu.standby = true ∧
        t.enu.standbyTimer = .held ∧ t.enu.state = s.enu.state ∧ t.ksc.scanMode = .wake ∧
        t.ksc.held = s.ksc.held ∧ (s.ksc.chord = .pairing → t.ksc.chord = .none) ∧
        (s.ksc.chord = .forming → t.ksc.chord = .abandoned))

/-- An UNLOCK key event that ends an entry. With fewer than 6 digits or the overlong mark it is refused without a charge,
ENROLL_FAILED being set for an enrollment (R34). Of 6 to 15 digits, an UNLOCK or ADMIN entry goes to the verification
workspace and the unit to CHECKING, and the counter is raised by one with the ATT write that carries it on its way, the
check awaiting its end; but with the ATT faulty mark the charge fails at once, STORE_FAULT being set and neither a charge
nor a failure counted, and with the counter at or above W the failure decision is made at once, which starts an erasure
(R35, R69, R71, R74). An ENROLL1 entry goes on as ENROLL2 with its digits in the confirm buffer (R36). An ENROLL2 entry
whose digits agree is handed over for a first enrollment in BLANK, and in a session for the slot of its order under the
drive key; otherwise it is abandoned with ENROLL_FAILED (R37). -/
def Obligations.EntryEndsInCharge : Prop :=
  ∀ (s : State) (p : Purpose) (l : LockState), s.powered = true → s.stc.lawful → s.ksc.chord = .pairing →
    s.ksc.pairingTimer.reached 20 = true → s.ksc.held = some .unlock → s.lkc.lockState = some l → l ≠ .erasing →
    s.enu.state = .collecting → s.enu.purpose = some p →
    ∃ t, exec .pairingTimerExpiry s = .next t ∧ t.ksc = { s.ksc with chord := .none, pairingTimer := .stopped } ∧
      ((s.enu.buffer.length < 6 ∨ s.enu.overlong = true) → s.sameExcept t [.ksc, .enu, .ppt] ∧ t.enu.atIdle ∧
        t.ppt = if p = .enroll1 ∨ p = .enroll2 then s.ppt.setFlag .enrollFailed else s.ppt) ∧
      (6 ≤ s.enu.buffer.length → s.enu.overlong = false → (p = .unlock ∨ p = .admin) →
        (s.atg.attFaulty = true → s.sameExcept t [.ksc, .enu, .slt, .atg, .ppt] ∧ t.enu.atIdle ∧
          t.ppt = s.ppt.setFlag .storeFault ∧ t.slt = { s.slt with verification := none } ∧
          t.atg = { s.atg with check := none }) ∧
        (s.atg.attFaulty = false → s.stc.cfg.W ≤ s.atg.counter → t.enu.atIdle ∧
          t.lkc.lockState = some .erasing ∧ t.slt.verification = none ∧ t.atg.counter = s.atg.counter ∧
          t.atg.check = none ∧ t.atg.timer = none ∧ t.ppt.isPending .attemptFailed = true ∧
          t.ppt.isPending .eraseStarted = true ∧ t.ere.awaited = some .ejr ∧ t.ere.journal = .at .zeroise 0 ∧
          t.stc.cells = s.stc.cells ∧ (∀ e : QueueEntry, e.cell = .att → (t.stc.owes e ↔ s.stc.owes e))) ∧
        (s.atg.attFaulty = false → s.atg.counter < s.stc.cfg.W →
          s.sameExcept t [.ksc, .enu, .slt, .atg, .stc] ∧ t.enu.state = .checking ∧ t.enu.purpose = some p ∧
          t.enu.buffer = [] ∧ t.enu.cancel = false ∧ t.enu.entryTimer = .stopped ∧
          t.slt.verification = some { digits := s.enu.buffer, purpose := p, snapshot := none, voided := false } ∧
          t.slt = { s.slt with verification := t.slt.verification } ∧
          t.atg = { s.atg with counter := s.atg.counter + 1, check := some { purpose := p, step := .charging } } ∧
          t.stc.cells = s.stc.cells ∧
          t.stc.carries { write := .att (s.atg.counter + 1), awaiter := some .charge })) ∧
      (6 ≤ s.enu.buffer.length → s.enu.overlong = false → p = .enroll1 → s.sameExcept t [.ksc, .enu] ∧
        { s.enu with purpose := some .enroll2, confirm := s.enu.buffer, buffer := [],
                     entryTimer := .running 0 }.sameEntry t.enu) ∧
      (6 ≤ s.enu.buffer.length → s.enu.overlong = false → p = .enroll2 →
        ∀ order, s.enu.order = some order → t.enu.atIdle ∧
        ((s.enu.buffer ≠ s.enu.confirm ∨ (l ≠ .blank ∧ s.lkc.session = false)) → s.sameExcept t [.ksc, .enu, .ppt] ∧
          t.ppt = s.ppt.setFlag .enrollFailed) ∧
        (s.enu.buffer = s.enu.confirm → l = .blank → s.sameExcept t [.ksc, .enu, .slt] ∧
          t.slt = { s.slt with build := some (.firstBuilding s.enu.buffer) }) ∧
        (s.enu.buffer = s.enu.confirm → l ≠ .blank → s.lkc.session = true → ∀ key, s.slt.driveKey = some key →
          s.sameExcept t [.ksc, .enu, .slt] ∧
          t.slt = { s.slt with build := some (.enrolling s.enu.buffer order key false) }))

/-! ### The check -/

/-- Charge completion: in LOCKED, OPEN and OPEN_PENDING it starts the verification on the entry copy, with a snapshot of
the index, code length and verifier of each slot that is ENROLLED at that moment, and no other; in ERASING it ends the
check without one, and the entry copy is zeroised. The stored counter is the one the write carries, and the working
counter stands (R50, R70). -/
def Obligations.ChargeCompletes : Prop :=
  ∀ (s : State) (n : Nat) (w : WriteInProgress) (c : CheckInProgress) (v : Verification), s.powered = true →
    s.ppt.restartPending = false → s.stc.writing = some w →
    w.entry = { write := .att n, awaiter := some .charge } → s.atg.check = some c → s.slt.verification = some v →
    ∃ t, exec (.storeWriteEnd .agrees) s = .next t ∧ s.sameExcept t [.slt, .atg, .stc] ∧
      t.stc.cells = { s.stc.cells with att := attFormat.image w.seq n } ∧
      (s.lkc.lockState ≠ some .erasing →
        t.atg = { s.atg with check := some { c with step := .verifying } } ∧
        ∃ snap : List SnapSlot, t.slt = { s.slt with verification := some { v with snapshot := some snap } } ∧
          snap = snapshotOf s.slt.slots ∧
          ∀ e : SnapSlot, e ∈ snap ↔
            ∃ i k, s.slt.slots[e.slot] = .enrolled i e.verifier k ∧ e.codeLength = i.codeLength) ∧
      (s.lkc.lockState = some .erasing → t.atg = { s.atg with check := none } ∧
        t.slt = { s.slt with verification := none })

/-- A write attempt that differs: the first gets a second attempt where the cell's faulty mark is clear; otherwise the
write ends as failed, with the mark and STORE_FAULT set; a write of ATT that a charge awaits then ends the check (R71,
R166, R167). A failed write of CFG (R90), of EJR (R147, R154), of RNGk by an install or the erase engine (R112, R147), and
of SLTk by a retirement or the engine (R53, R147) leaves a cell that reads damaged, and a failed refund one that does not
hold its new value (R73); every other failed write leaves what STORE_WRITE_END says (R161, R167). How these rules are read
together is the model's (entry 10). -/
def Obligations.FailedWrites : Prop :=
  ∀ (s : State) (w : WriteInProgress) (left : CellLeft), s.powered = true → s.stc.writing = some w →
    ∃ t, exec (.storeWriteEnd (.differs left)) s = .next t ∧
      (w.attempt = 1 → s.stc.faulty[w.entry.cell.index] = false → s.sameExcept t [.stc] ∧
        t.stc.cells = s.stc.cells.afterMismatch w.entry.write w.seq left ∧
        t.stc.writing = some { w with attempt := 2 } ∧ t.stc.queue = s.stc.queue ∧ t.stc.faulty = s.stc.faulty) ∧
      ((w.attempt ≠ 1 ∨ s.stc.faulty[w.entry.cell.index] = true) →
        t.stc.faulty = s.stc.faulty.set w.entry.cell.index true ∧ t.ppt.isPending .storeFault = true ∧
        t.stc.cells = (s.stc.cells.afterMismatch w.entry.write w.seq left).afterFailure w.entry ∧
        (∀ x, w.entry.write = .cfg x → t.stc.cells.readCfg = none) ∧
        (∀ j, w.entry.write = .ejr j → t.stc.cells.readEjr = none) ∧
        (∀ k r, w.entry.write = .rng k r → w.entry.awaiter ≠ some .firstEnrollment → t.stc.cells.readRng k = none) ∧
        (∀ k r, w.entry.write = .slt k r → w.entry.awaiter = some .retirement ∨ w.entry.awaiter = some .erase →
          t.stc.cells.readSlt k = none) ∧
        (∀ n, w.entry = { write := .att n, awaiter := some .refund } → t.stc.cells.readAtt ≠ some n) ∧
        (∀ n, w.entry = { write := .att n, awaiter := some .charge } → s.ppt.restartPending = false →
          s.atg.check.isSome = true → t.atg.attFaulty = true ∧ t.atg.check = none ∧ t.slt.verification = none ∧
          t.atg.counter = s.atg.counter ∧ (s.enu.state = .checking → t.enu.state = .idle)))

/-- A write that no block awaits completes: the cell holds the new image, its faulty mark is clear, and the store takes
its next entry, a guard-group entry first (R165, R166). Stated where SLT holds no write to offer again. -/
def Obligations.StoreWriteCompletes : Prop :=
  ∀ (s : State) (w : WriteInProgress), s.powered = true → s.stc.writing = some w → w.entry.awaiter = none →
    s.ppt.restartPending = false → s.slt.heldRetirement = none → s.slt.build = none →
    ∃ t, exec (.storeWriteEnd .agrees) s = .next t ∧ s.sameExcept t [.stc] ∧
      t.stc.cells = s.stc.cells.put w.entry.write w.seq ∧
      t.stc.faulty = s.stc.faulty.set w.entry.cell.index false ∧
      t.stc.writing.map WriteInProgress.entry = nextEntry s.stc.queue ∧
      (∀ e, e ∈ s.stc.queue → e.cell.isGuard = true → ∃ x, t.stc.writing = some x ∧ x.entry.cell.isGuard = true)

/-- A failed verification: no slot of the snapshot matches the entry, or, of ADMIN purpose, the one that matches, the
first of them where the model has several (entry 41), is not slot 0 (R50, R51, R52). ATTEMPT_FAILED, the counter n
unchanged, and by n a wipe (n ≥ W), a back-off of count n with the unit in HOLDOFF (F < n < W), with the EJR or BKO
write on its way, or nothing more (n ≤ F) (R74, R78). -/
def Obligations.VerificationFails : Prop :=
  ∀ (s : State) (v : Verification) (snap : List SnapSlot), s.powered = true → s.slt.verification = some v →
    v.snapshot = some snap → v.voided = false → s.lkc.lockState ≠ some .erasing →
    (∀ (before after : List SnapSlot) (e : SnapSlot), snap = before ++ e :: after → slotMatches s.slt.slots v.digits e →
      (∀ b ∈ before, ¬ slotMatches s.slt.slots v.digits b) → v.purpose = .admin ∧ e.slot ≠ 0) →
    s.enu.state = .checking →
    0 < s.stc.cfg.B → 0 < s.stc.cfg.C →
    ∃ t, exec .verificationComplete s = .next t ∧ t.ppt.isPending .attemptFailed = true ∧
      t.slt.verification = none ∧ t.atg.counter = s.atg.counter ∧ t.atg.check = none ∧
      (s.stc.cfg.W ≤ s.atg.counter → t.lkc.lockState = some .erasing ∧ t.enu.state = .idle ∧
        t.ere.awaited = some .ejr ∧ t.ere.journal = .at .zeroise 0 ∧ t.ppt.isPending .eraseStarted = true ∧
        (s.stc.lawful → ∃ e, t.stc.carries e ∧ e.write = .ejr t.ere.journal)) ∧
      (s.atg.counter < s.stc.cfg.W → t.ppt = s.ppt.setFlag .attemptFailed ∧
        t.slt = { s.slt with verification := none } ∧
        (s.atg.counter ≤ s.stc.cfg.F → s.sameExcept t [.enu, .slt, .atg, .ppt] ∧ t.enu.state = .idle ∧
          t.atg = { s.atg with check := none }) ∧
        (s.stc.cfg.F < s.atg.counter → s.sameExcept t [.enu, .slt, .atg, .stc, .ppt] ∧ t.enu.state = .holdoff ∧
          t.atg.timer = some { elapsed := 0, preset := backoffPreset s.stc.cfg s.atg.counter, phase := 0,
                               checkpointed := 0 } ∧
          t.atg.bko = { s.atg.bko with active := some { count := s.atg.counter, elapsed := 0 } } ∧
          (s.stc.lawful → ∃ e, t.stc.carries e ∧ e.write = .bko t.atg.bko)))

/-- A verification succeeds: a slot of the snapshot matches, of the entry's length, with a verifier that accepts the
entry and with which it is still ENROLLED (R50, R51), the first of the snapshot to do so (entry 41), and for ADMIN
purpose it is slot 0 (R52). The match hold is filled; a slot that this does not retire has its refund queued at once,
the counter 0, an active back-off record inactive, with the ATT write that the refund awaits and the BKO write on their
way (R52, R72); a once slot matched by UNLOCK purpose is RETIRED with role, mask, once and code length, the counter
charged, and its SLTk write on its way where the queue has room; where it has none the write is held and the record is
RETIRED at once, which is the model's (entry 22; R53). At the end of a retirement write, completed or failed, in
whatever lock state, the success is handed on and the refund is queued (R53, R65, R72); that this is so in ERASING too,
against R84 and R145, is the model's (entry 53). -/
def Obligations.VerificationSucceeds : Prop :=
  (∀ (s : State) (v : Verification) (before after : List SnapSlot) (e : SnapSlot) (i : SlotInfo) (x : Verifier)
    (k : Wrapped), s.powered = true → s.stc.lawful → s.slt.verification = some v →
    v.snapshot = some (before ++ e :: after) → v.voided = false → s.lkc.lockState ≠ some .erasing →
    slotMatches s.slt.slots v.digits e → (∀ b ∈ before, ¬ slotMatches s.slt.slots v.digits b) →
    (v.purpose = .unlock ∨ (v.purpose = .admin ∧ e.slot = 0)) →
    s.slt.slots[e.slot] = .enrolled i x k →
    ∃ t, exec .verificationComplete s = .next t ∧ t.slt.verification = none ∧ t.lkc = s.lkc ∧
      t.slt.matchHold = some { codeKey := .code v.digits x.salt, wrapped := k, slot := e.slot } ∧
      t.stc.cells = s.stc.cells ∧
      ((v.purpose = .admin ∨ i.once = false) → s.sameExcept t [.slt, .atg, .stc] ∧
        t.slt = { s.slt with verification := none, matchHold := t.slt.matchHold } ∧
        t.atg = { s.atg with
          counter := 0, check := s.atg.check.map CheckInProgress.toRefunding,
          bko := { s.atg.bko with active := none },
          timer := if s.atg.bko.active.isSome then none else s.atg.timer } ∧
        t.stc.carries { write := .att 0, awaiter := some .refund } ∧
        (s.atg.bko.active.isSome = true →
          ∃ b, t.stc.carries b ∧ b.write = .bko { s.atg.bko with active := none })) ∧
      (v.purpose = .unlock → i.once = true → s.sameExcept t [.slt, .stc] ∧
        t.slt = { s.slt with verification := none, matchHold := t.slt.matchHold,
                             slots := s.slt.slots.set e.slot (.retired i),
                             heldRetirement := t.slt.heldRetirement } ∧
        (settingsCount s.stc.queue < 5 → s.stc.reserve = [] → t.slt.heldRetirement = s.slt.heldRetirement ∧
          t.stc.carries { write := .slt e.slot (.retired i), awaiter := some .retirement }) ∧
        (5 ≤ settingsCount s.stc.queue → holdsCell s.stc.queue (.slt e.slot) = false →
          holdsCell s.stc.reserve (.slt e.slot) = false →
          t.slt.heldRetirement = some e.slot ∧ t.stc = s.stc))) ∧
  (∀ (s : State) (w : WriteInProgress) (r : ReadBack) (k : SlotIx) (record : SlotRecord) (c : CheckInProgress),
    s.powered = true → s.stc.lawful → s.ppt.restartPending = false → s.stc.writing = some w →
    w.entry = { write := .slt k record, awaiter := some .retirement } → s.stc.endsWrite w r →
    s.atg.check = some c → s.slt.build = none → s.slt.heldRetirement = none →
    ∃ t, exec (.storeWriteEnd r) s = .next t ∧ s.sameExcept t [.atg, .stc, .ppt] ∧
      t.ppt = s.ppt.afterWrite r ∧
      t.atg = { s.atg with
        counter := 0, check := some c.toRefunding, bko := { s.atg.bko with active := none },
        timer := if s.atg.bko.active.isSome then none else s.atg.timer } ∧
      t.stc.carries { write := .att 0, awaiter := some .refund })

/-- The end of the refund write, by the cancel mark, the lock state and the purpose: the unwrap starts, unless one of an
earlier success is in flight; the admin session opens; or nothing follows, as in ERASING, and, of UNLOCK purpose, while
the drive is unlocked, which is the model's (entry 31). The match hold is empty after each and the unit leaves CHECKING
for IDLE. A write that ends as failed sets the ATT faulty mark and STORE_FAULT and has the same effects (R73). The
unwrap recovers the drive key under the code key, and under it the key of each index of the slot's mask whose live
record is GUARDED or HIDDEN, where it does (R62); what a key is recovered under is the model's (entry 8). -/
def Obligations.RefundCompletes : Prop :=
  ∀ (s : State) (w : WriteInProgress) (r : ReadBack) (c : CheckInProgress), s.powered = true →
    s.ppt.restartPending = false → s.stc.writing = some w → s.stc.endsWrite w r →
    w.entry = { write := .att 0, awaiter := some .refund } → s.atg.check = some c →
    ∃ t, exec (.storeWriteEnd r) s = .next t ∧ s.sameExcept t [.enu, .slt, .atg, .lkc, .stc, .ppt] ∧
      t.ppt = s.ppt.afterWrite r ∧
      t.atg = { s.atg with check := none, attFaulty := s.atg.attFaulty || decide (r ≠ .agrees) } ∧
      (s.enu.state = .checking → t.enu.atIdle) ∧ (s.enu.state ≠ .checking → s.sameBlock t .enu) ∧
      t.slt = { s.slt with matchHold := none, unwrap := t.slt.unwrap } ∧ t.lkc.lockState = s.lkc.lockState ∧
      ((s.enu.cancel = true ∨ s.lkc.lockState = some .erasing ∨ (s.unlocked ∧ c.purpose ≠ .admin) ∨
          (s.lkc.lockState = some .locked ∧ s.slt.unwrap ≠ none)) →
        t.slt.unwrap = s.slt.unwrap ∧ t.lkc = s.lkc) ∧
      (∀ h : MatchHold, s.enu.cancel = false → s.lkc.lockState = some .locked → s.slt.unwrap = none →
        s.slt.matchHold = some h → t.lkc = s.lkc ∧
        ∃ u, t.slt.unwrap = some u ∧ u.driveKey = unwrapKey h.wrapped h.codeKey ∧ u.slot = h.slot ∧
          u.discard = false ∧ u.first = false ∧ (u.opensSession = true ↔ c.purpose = .admin) ∧
          (∀ (k : RangeIx) (d : RangeDef) (wrapped : Wrapped) (key : Key), maskHas s.slt.slots[h.slot].mask k = true →
            s.rgt.live[k] = .defined d → d.cls ≠ .pub → d.wrapped = some wrapped → u.driveKey = some key →
            u.rangeKeys[k] = unwrapKey wrapped key) ∧
          (∀ k : RangeIx, (maskHas s.slt.slots[h.slot].mask k = false ∨ s.rgt.live[k].isClosed = false ∨
            s.rgt.live[k].wrapped? = none ∨ u.driveKey = none) → u.rangeKeys[k] = none)) ∧
      (s.enu.cancel = false → s.unlocked → c.purpose = .admin →
        t.lkc = { s.lkc with session := true, sessionTimer := .running 0 } ∧ t.slt.unwrap = s.slt.unwrap)

/-- Unlock completion from LOCKED or BLANK: OPEN or OPEN_PENDING by the attached flag, role and mask from the matched
slot, the recovered keys in the key buffer, the session where it is due, the STATE notice, OPENED; the drive key is held
(R10, R11, R63). From LOCKED an UNLOCK entry being collected is abandoned without a flag, an ADMIN entry continues, and
a check in CHECKING has its cancel mark set (R42). That role and mask are read from the slot's record at the completion
is the model's (entry 18). An unwrap that is marked, or that meets ERASING, is discarded: its workspace is emptied and
nothing else changes (R12). -/
def Obligations.UnlockCompletes : Prop :=
  ∀ (s : State) (u : Unwrap), s.powered = true → s.slt.unwrap = some u →
    ∃ t, exec .unlockCompletion s = .next t ∧
      (u.discard = false → (s.lkc.lockState = some .locked ∨ s.lkc.lockState = some .blank) →
        t.lkc.lockState = some (if s.mpt.attached then .opened else .openPending) ∧
        t.lkc.role = s.slt.slots[u.slot].info?.map SlotInfo.role ∧ t.lkc.mask = s.slt.slots[u.slot].mask ∧
        (∀ (k : RangeIx) (d : RangeDef) (key : Key), u.rangeKeys[k] = some key → s.rgt.live[k] = .defined d →
          d.cls ≠ .pub → maskHas s.slt.slots[u.slot].mask k = true →
          t.lkc.keyBuffer[k] = some { key := key, cls := d.cls }) ∧
        (∀ k : RangeIx, u.rangeKeys[k] = none → t.lkc.keyBuffer[k] = s.lkc.keyBuffer[k]) ∧
        t.lkc.session = (u.opensSession || s.lkc.session) ∧
        t.lkc.sessionTimer = (if u.opensSession then .running 0 else s.lkc.sessionTimer) ∧
        (s.mpt.attached = true → t.lkc.windowTimer = s.lkc.windowTimer ∧
          t.lkc.idleTimer = if s.stc.cfg.idle = 0 then .held else .running 0) ∧
        (s.mpt.attached = false → t.lkc.windowTimer = .running 0 ∧ t.lkc.idleTimer = s.lkc.idleTimer) ∧
        t.slt = { s.slt with unwrap := none, driveKey := u.driveKey } ∧ t.ppt = s.ppt.setFlag .opened ∧
        t.mpt = (s.mpt.offerOrder (.state (if s.mpt.attached then .opened else .openPending))).1 ∧
        s.sameExcept t [.lkc, .slt, .ppt, .mpt, .enu] ∧
        (s.lkc.lockState = some .locked → s.enu.state = .collecting → s.enu.purpose = some .unlock →
          t.enu.atIdle ∧ t.enu.standby = s.enu.standby) ∧
        (s.lkc.lockState = some .locked → s.enu.state = .checking →
          { s.enu with cancel := true }.sameEntry t.enu) ∧
        ((s.lkc.lockState = some .blank ∨ s.enu.state = .idle ∨ s.enu.state = .holdoff ∨
          (s.enu.state = .collecting ∧ s.enu.purpose ≠ some .unlock)) → s.sameBlock t .enu)) ∧
      ((u.discard = true ∨ s.lkc.lockState = some .erasing) →
        s.sameExcept t [.slt] ∧ t.slt = { s.slt with unwrap := none })

/-! ### Enrollment -/

/-- An enrollment build whose code no other ENROLLED slot holds, its write being admitted, makes the slot ENROLLED with
the order's role, mask and once and the drive key wrapped under the new code key, sets ENROLL_DONE and has the SLTk
write on its way; a code that another ENROLLED slot holds is refused with ENROLL_FAILED (R56). The premise on the queue
admits the write. -/
def Obligations.EnrollBuildEnds : Prop :=
  ∀ (s : State) (code : List Digit) (order : EnrollOrder) (key : Key), s.powered = true →
    s.slt.build = some (.enrolling code order key false) → s.lkc.lockState ≠ some .erasing →
    ∃ t, exec .enrollBuildComplete s = .next t ∧
      (holdsCode s.slt.slots order.slot code = true → s.sameExcept t [.slt, .ppt] ∧
        t.slt = { s.slt with build := none } ∧ t.ppt = s.ppt.setFlag .enrollFailed) ∧
      (holdsCode s.slt.slots order.slot code = false → settingsCount s.stc.queue < 5 → s.stc.reserve = [] →
        s.sameExcept t [.slt, .stc, .ppt, .fresh] ∧ t.ppt = s.ppt.setFlag .enrollDone ∧
        t.stc.cells = s.stc.cells ∧
        ∃ v : Verifier, v.digits = code ∧
          t.slt.slots = s.slt.slots.set order.slot (.enrolled
            { role := order.role, mask := order.mask, once := order.once, codeLength := code.length } v
            { key := key, under := .code code v.salt }) ∧
          t.slt = { s.slt with build := none, slots := t.slt.slots } ∧
          ∃ e, t.stc.carries e ∧ e.write = .slt order.slot t.slt.slots[order.slot])

/-- A first-enrollment build completes: a new drive key, a new range key for range 0 and a new verifier, each under the
next of the names that no key has had (entry 8). Slot 0 is ENROLLED as ADMIN with all eight ranges, the drive key
wrapped under the code key; range 0 is the factory record with the range key wrapped under the drive key, and every
other range UNUSED, live and staged alike and not dirty; the key buffer position of each other range that was DEFINED is
zeroised, position 0 standing (entry 43), and the rest of LKC stands. The writes of RNG0, of each RNGk made UNUSED in
index order and of SLT0 are offered in this order: each is admitted, or held for its re-offer where the store refuses
it, and a queue that was empty holds them in this order before those held (R59). That the working copies change so also
where the store refuses the writes is the model's (entry 22). At the end of its range write the enrollment goes on,
marked where the write failed; at the end of its SLT0 write ENROLL_DONE is set and the unwrap starts, or, where any of
its writes failed, ENROLL_FAILED is set and slot 0 is EMPTY, with the write of EMPTY where the SLT0 write completed
(R60); stated where no write is held. -/
def Obligations.FirstEnrollBuildEnds : Prop :=
  (∀ (s : State) (code : List Digit) (codeKey driveKey : Key) (range : Wrapped) (stale : List RangeIx)
    (writes : List CellWrite), s.powered = true → s.slt.build = some (.firstBuilding code) →
    codeKey = .code code s.freshCount → driveKey = .drive (s.freshCount + 1) →
    range = { key := .range (s.freshCount + 2), under := driveKey } →
    stale = [1, 2, 3, 4, 5, 6, 7].filter (fun k : RangeIx => s.rgt.live[k] ≠ .unused) →
    writes = .rng 0 (.factoryZero (some range)) :: stale.map (fun k => .rng k .unused) ++
      [.slt 0 (.enrolled { role := .admin, mask := BitVec.allOnes 8, once := false, codeLength := code.length }
        { digits := code, salt := s.freshCount } { key := driveKey, under := codeKey })] →
    ∃ t held, exec .firstEnrollBuildComplete s = .next t ∧ s.sameExcept t [.slt, .stc, .rgt, .lkc, .fresh] ∧
      t.freshCount = s.freshCount + 3 ∧
      t.slt = { s.slt with
        slots := s.slt.slots.set 0 (.enrolled
          { role := .admin, mask := BitVec.allOnes 8, once := false, codeLength := code.length }
          { digits := code, salt := s.freshCount } { key := driveKey, under := codeKey }),
        build := some (.firstWriting held false codeKey { key := driveKey, under := codeKey }) } ∧
      t.rgt.live[0] = .factoryZero (some range) ∧ (∀ k : RangeIx, k ≠ 0 → t.rgt.live[k] = .unused) ∧
      (∀ k : RangeIx, (k = 0 ∨ k ∈ stale) → t.rgt.staged[k] = t.rgt.live[k]) ∧
      (∀ k : RangeIx, k ≠ 0 → k ∉ stale → t.rgt.staged[k] = s.rgt.staged[k]) ∧ t.rgt.dirty = false ∧
      t.lkc = { s.lkc with keyBuffer := t.lkc.keyBuffer } ∧
      (∀ k : RangeIx, t.lkc.keyBuffer[k] = if k ∈ stale then none else s.lkc.keyBuffer[k]) ∧
      t.stc.cells = s.stc.cells ∧
      (s.stc.lawful → ∀ w ∈ writes, w ∈ held ∨ ∃ e, t.stc.owes e ∧ e.write = w ∧ e.awaiter ≠ none) ∧
      (s.stc.queue = [] → s.stc.reserve = [] → ∃ taken : List QueueEntry,
        taken = (if s.stc.writing = none then (t.stc.writing.map WriteInProgress.entry).toList else []) ∧
        (taken ++ t.stc.queue).map QueueEntry.write ++ held = writes ∧
        ∀ e ∈ taken ++ t.stc.queue, e.awaiter = some .firstEnrollment)) ∧
  (∀ (s : State) (w : WriteInProgress) (r : ReadBack) (failed : Bool) (codeKey : Key) (wrapped : Wrapped),
    s.powered = true → s.ppt.restartPending = false → s.stc.writing = some w → s.stc.endsWrite w r →
    s.slt.build = some (.firstWriting [] failed codeKey wrapped) → s.slt.heldRetirement = none →
    w.entry.awaiter = some .firstEnrollment →
    ∃ t, exec (.storeWriteEnd r) s = .next t ∧ s.sameExcept t [.slt, .stc, .ppt] ∧
      (∀ k record, w.entry.write = .rng k record → t.ppt = s.ppt.afterWrite r ∧
        t.slt = { s.slt with
          build := some (.firstWriting [] (failed || decide (r ≠ .agrees)) codeKey wrapped) }) ∧
      (∀ record, w.entry.write = .slt 0 record → r = .agrees → failed = false →
        t.ppt = s.ppt.setFlag .enrollDone ∧
        t.slt = { s.slt with
          build := none, matchHold := none,
          unwrap := some { driveKey := unwrapKey wrapped codeKey,
                           rangeKeys := unwrapRanges s.rgt.live s.slt.slots[0].mask (unwrapKey wrapped codeKey),
                           slot := 0, opensSession := true, first := true, discard := false } }) ∧
      (∀ record, w.entry.write = .slt 0 record → (failed = true ∨ r ≠ .agrees) → settingsCount s.stc.queue < 5 →
        s.stc.reserve = [] → t.ppt = (s.ppt.afterWrite r).setFlag .enrollFailed ∧
        t.slt = { s.slt with build := none, slots := s.slt.slots.set 0 .empty } ∧
        (r = .agrees → ∃ e, t.stc.owes e ∧ e.write = .slt 0 .empty)))

/-! ### The back-off -/

/-- A checkpoint is made each time the timer reaches a multiple of 100 ticks below its preset, whatever a PFW edge has
recorded: BKO's working copy takes that multiple and its write is on its way; where no such multiple has been reached
since the last one there is none. The end of a back-off, at the preset, makes the record inactive, its BKO write on its
way, sets HOLDOFF_ENDED and returns the unit from HOLDOFF to IDLE. Neither changes the counter (R80, R81, R82). -/
def Obligations.BackoffCourse : Prop :=
  ∀ (s : State) (timer : BackoffTimer) (a : ActiveBackoff), s.powered = true → s.atg.timer = some timer →
    s.atg.bko.active = some a →
    (s.stc.lawful → timer.elapsed % 100 = 0 → timer.checkpointed < timer.elapsed → timer.checkpointed % 100 = 0 →
      timer.elapsed < timer.preset →
      ∃ t, exec .backoffCheckpoint s = .next t ∧ s.sameExcept t [.atg, .stc] ∧
        t.atg = { s.atg with
          timer := some { timer with checkpointed := timer.elapsed },
          bko := { s.atg.bko with active := some { a with elapsed := timer.elapsed } } } ∧
        t.stc.cells = s.stc.cells ∧ ∃ e, t.stc.carries e ∧ e.write = .bko t.atg.bko) ∧
    ((timer.elapsed < timer.checkpointed + 100 ∨ timer.preset ≤ timer.elapsed - timer.elapsed % 100) →
      ∃ t, exec .backoffCheckpoint s = .next t ∧ s.sameExcept t []) ∧
    (timer.elapsed < timer.preset → ∃ t, exec .backoffEnd s = .next t ∧ s.sameExcept t []) ∧
    (timer.preset ≤ timer.elapsed → s.enu.state = .holdoff →
      ∃ t, exec .backoffEnd s = .next t ∧ s.sameExcept t [.atg, .stc, .ppt, .enu] ∧
        t.atg = { s.atg with timer := none, bko := { s.atg.bko with active := none } } ∧
        t.ppt = s.ppt.setFlag .holdoffEnded ∧ t.enu.state = .idle ∧ t.stc.cells = s.stc.cells ∧
        (s.stc.lawful → ∃ e, t.stc.carries e ∧ e.write = .bko t.atg.bko))

/-- An accepted edge on PFW from high to low, after store-ready, sets SUPPLY and records PFW-seen with the back-off
timer's exact elapsed value, the BKO write on its way; before store-ready it is marked pending; either leaves the accepted
level low. From low the accepted edge is a rise, which has no effect beyond the level, so a line held low through a start
gives no active edge until it has been accepted high (R82, R183; that the row's command stands for both edges is the
model's, entry 12). -/
def Obligations.PfwEdgeRecorded : Prop :=
  ∀ s : State, s.powered = true → ∃ t, exec .pfwEdge s = .next t ∧ t.ppt.pfwLow = !s.ppt.pfwLow ∧
    (s.ppt.pfwLow = false → s.stc.ready = true → t.ppt.isPending .supply = true ∧ t.atg.bko.pfwSeen = true ∧
      t.atg.counter = s.atg.counter ∧ t.atg.timer = s.atg.timer ∧
      (∀ a x, s.atg.bko.active = some a → s.atg.timer = some x →
        t.atg.bko.active = some { a with elapsed := x.elapsed }) ∧
      (s.stc.lawful → ∃ e, t.stc.carries e ∧ e.write = .bko t.atg.bko)) ∧
    (s.ppt.pfwLow = false → s.stc.ready = false →
      s.sameExcept t [.ppt] ∧ t.ppt = { s.ppt with pfwLow := true, pfwPending := true }) ∧
    (s.ppt.pfwLow = true → s.sameExcept t [.ppt] ∧ t.ppt = { s.ppt with pfwLow := false })

/-! ### Starts -/

/-- A supply start of a part without supply and a RESTART that takes effect leave every block at the values that reset
has, over the cells as last written and the PFW level found, apart from the start cause; a supply loss leaves the same
without supply, every waiting write lost and every cell with the image it had but that of the write in progress. That
one is damaged where the failure came in the erase or in the program step, or in a read-back whose attempt does not
match; it holds the new value where the attempt matches, or where the mismatch lay in the reading (R24, R47, R66, R87,
R101, R114, R142, R156, R158, R168, R169, R170, R184, R194). The model's are these: that the command says where the
failure came, and that before the erase has reached the cell its image stands (entry 11); the values of the fields that
reset names for what the manual calls absent before store-ready, as the counter 0, the slots EMPTY, the tables UNUSED,
the settings the factory ones and the journal IDLE, which are placeholders that nothing reads (entry 5); that a
SUPPLY_START of a part that is powered does the same and leaves the cell of its write in progress as it stood (entry
47); the values that the volatile fields of a part without supply hold (entry 6); the names of generated keys (entry 8)
and the queue of commands (entry 1). -/
def Obligations.StartsAndLoss : Prop :=
  ∀ (s : State) (low : Bool),
    exec (.supplyStart low) s = .next { State.reset with
      stc := { State.reset.stc with cells := s.stc.cells },
      ppt := { State.reset.ppt with pfwLow := low },
      freshCount := s.freshCount, pending := s.pending } ∧
    (s.powered = true → s.ppt.restartPending = true → s.stc.writing = none →
      exec (.restartTakesEffect low) s = .next { State.reset with
        stc := { State.reset.stc with cells := s.stc.cells },
        ppt := { State.reset.ppt with pfwLow := low, startCause := .restart },
        freshCount := s.freshCount, pending := s.pending }) ∧
    (∀ point, s.powered = true → ∃ c : Cells,
      exec (.supplyLoss point) s = .next { State.reset with
        stc := { State.reset.stc with cells := c },
        ppt := { State.reset.ppt with pfwLow := s.ppt.pfwLow },
        powered := false, freshCount := s.freshCount, pending := s.pending } ∧
      (s.stc.writing = none → c = s.stc.cells) ∧
      (∀ w, s.stc.writing = some w → c = s.stc.cells.afterLoss w point ∧
        (∀ cell, cell ≠ w.entry.cell → c.imageKept s.stc.cells cell) ∧
        (point = .beforeErase → c = s.stc.cells) ∧
        (point ∈ [LossPoint.inErase, .inProgram, .inReadBackDamaged] → c.readsDamaged w.entry.cell) ∧
        (point ∈ [LossPoint.inReadBackAgreeing, .inReadBackIntact] → c.holdsNew w.entry.write w.seq)))

/-- What store-ready determines, over the cells as read. The working copies hold what an intact cell holds, and the
damaged-cell readings otherwise (R85, R161, R170); the working sequence of a cell is the sequence byte read, 00h where
the cell read damaged, and one more where the store has taken a write of that cell since (R160, R170); a record of the
live table that conflicts with one of lower index is set aside (R114). The lock state follows from the journal, the
slots and the counter, with the IDN fault mark, no session, no role and an empty mask, and LKC's timers at rest (R24,
R101), and its notice is queued (R2, R3). The counter n is evaluated with the journal IDLE: at n ≥ W an erasure starts;
for F < n < W a back-off of count n starts, from BKO's elapsed value where BKO is active with that count and from 0
otherwise, and ends at once where that is at or above its preset; for n ≤ F the record is inactive (R86); with the
writes that this and the damaged cells owe. STORE_FAULT is set exactly where a cell read damaged or a record was set
aside, ERASE_STARTED where the lock state is ERASING, SUPPLY where an edge was pending (R155, R170, R183, R190); start
cause and UNRESOLVED_ATTEMPT are settled (R192). The public keys are in their positions, and in ERASING none is (R21). A
journal in ZEROISE, RANGES or SWEEP is taken up at its step (R150, R151, R155). In which order the store takes these
writes is the model's (entry 52) and not stated. What a key is recovered under is the model's (entry 8). -/
def Obligations.StoreReadyDetermines : Prop :=
  ∀ (s : State) (c : Cells) (cfg : Settings) (n : Nat) (j : Journal) (active : Option ActiveBackoff) (seen : Bool),
    s.powered = true → s.stc.ready = false → s.lkc = State.reset.lkc → s.stc.lawful → c = s.stc.cells →
    cfg = c.readCfg.getD { F := 3, W := 10, B := 15, C := 1920, idle := 900, window := 30, sweep := false } →
    n = c.readAtt.getD (cfg.F + 1) →
    j = c.readEjr.getD { phase := .zeroise, next := some 0, cursor := none, sweepEnd := none, incomplete := false } →
    active = c.readBko.bind BackoffRecord.active → seen = c.readBko.any BackoffRecord.pfwSeen →
    ∃ t, exec .storeReady s = .next t ∧ t.stc.ready = true ∧ t.stc.cells = c ∧ t.stc.cfg = cfg ∧
      t.stc.idn = c.readIdn ∧ t.atg.counter = n ∧ t.lkc.idnFault = c.readIdn.isNone ∧
      t.lkc.session = false ∧ t.lkc.role = none ∧ t.lkc.mask = 0 ∧
      t.lkc.sessionTimer = .held ∧ t.lkc.idleTimer = .held ∧ t.lkc.windowTimer = .stopped ∧
      -- the working sequences
      (∀ (cell : Cell) (read : Byte), c.readsSequence read cell →
        t.stc.seq[cell.index] =
          if s.stc.writing = none ∧ t.stc.writing.map (fun w => w.entry.cell) = some cell then read + 1 else read) ∧
      t.lkc.lockState = some (if j.phase ≠ .idle ∨ cfg.W ≤ n then .erasing
        else if ∀ k : SlotIx, (c.readSlt k).getD .empty = .empty then .blank else .locked) ∧
      (∀ l, t.lkc.lockState = some l → s.mpt.outbound = [] → .state l ∈ t.mpt.outbound) ∧
      -- slots and ranges
      (j.phase ≠ .zeroise → ∀ k : SlotIx, t.slt.slots[k] = (c.readSlt k).getD .empty) ∧
      (j.phase ≠ .ranges → t.rgt.staged = t.rgt.live ∧ t.rgt.dirty = false ∧ ∀ k : RangeIx,
        ((∃ i : RangeIx, i < k ∧ ((c.readRng k).getD .unused).conflicts t.rgt.live[i] = true) →
          t.rgt.live[k] = .unused) ∧
        ((∀ i : RangeIx, i < k → ((c.readRng k).getD .unused).conflicts t.rgt.live[i] = false) →
          t.rgt.live[k] = (c.readRng k).getD .unused)) ∧
      -- the evaluation
      t.atg.bko.pfwSeen = s.ppt.pfwPending ∧
      (j.phase ≠ .idle → t.atg.timer = s.atg.timer) ∧
      (j.phase = .idle → cfg.W ≤ n → t.atg.timer = none ∧ t.atg.bko.active = none ∧ t.ere.awaited = some .ejr ∧
        t.ere.journal =
          { phase := .zeroise, next := some 0, cursor := none, sweepEnd := none, incomplete := false } ∧
        t.stc.carries { write := .ejr t.ere.journal, awaiter := some .erase }) ∧
      (j.phase = .idle → cfg.F < n → n < cfg.W →
        ∀ e : Nat, e = (match active with | some a => (if a.count = n then a.elapsed else 0) | none => 0) →
        (e < backoffPreset cfg n → t.enu.state = .holdoff ∧
          t.atg.timer = some { elapsed := e, preset := backoffPreset cfg n, phase := 0, checkpointed := e - e % 100 } ∧
          t.atg.bko.active = some { count := n, elapsed := e }) ∧
        (backoffPreset cfg n ≤ e → t.enu.state = .idle ∧ t.atg.timer = none ∧ t.atg.bko.active = none ∧
          t.ppt.isPending .holdoffEnded = true)) ∧
      (j.phase = .idle → n ≤ cfg.F → t.atg.timer = s.atg.timer ∧ t.atg.bko.active = none ∧
        t.enu.state = s.enu.state) ∧
      ((c.readBko = none ∨ seen = true ∨ s.ppt.pfwPending = true ∨
          (j.phase = .idle ∧ n < cfg.W ∧ (cfg.F < n ∨ active ≠ none))) →
        ∃ e, t.stc.carries e ∧ e.write = .bko t.atg.bko) ∧
      (c.readAtt = none → ∃ e, t.stc.carries e ∧ e.write = .att (cfg.F + 1)) ∧
      (c.readCfg = none → settingsCount s.stc.queue < 5 → s.stc.reserve = [] →
        ∃ e, t.stc.carries e ∧ e.write = .cfg cfg) ∧
      -- flags and start cause
      (t.ppt.isPending .storeFault = true ↔ s.ppt.isPending .storeFault = true ∨ c.readAtt = none ∨ c.readBko = none ∨
        c.readEjr = none ∨ (∃ k, c.readSlt k = none) ∨ (∃ k, c.readRng k = none) ∨ c.readCfg = none ∨
        c.readIdn = none ∨ (∃ k : RangeIx, c.startLive[k] ≠ (c.readRng k).getD .unused)) ∧
      (t.ppt.isPending .eraseStarted = true ↔
        s.ppt.isPending .eraseStarted = true ∨ t.lkc.lockState = some .erasing) ∧
      (t.ppt.isPending .supply = true ↔ s.ppt.isPending .supply = true ∨ s.ppt.pfwPending = true) ∧
      t.ppt.startCause = (if s.ppt.startCause = .supply ∧ seen = true then .supplyAfterPfw else s.ppt.startCause) ∧
      (t.ppt.unresolved = true ↔ j.phase = .idle ∧ 0 < n ∧ ∀ a, active = some a → a.count ≠ n) ∧
      -- the public keys
      (t.lkc.lockState = some .erasing → t.lkc.keyBuffer = Vector.replicate 8 none) ∧
      (t.lkc.lockState ≠ some .erasing → ∀ k : RangeIx,
        (∀ (d : RangeDef) (w : Wrapped) (id : Identity), t.rgt.live[k] = .defined d → d.cls = .pub →
          d.wrapped = some w → c.readIdn = some id →
          t.lkc.keyBuffer[k] = (unwrapKey w id.deviceKey).map (fun key => { key := key, cls := .pub })) ∧
        ((t.rgt.live[k] = .unused ∨ t.rgt.live[k].isClosed = true ∨ c.readIdn = none) → t.lkc.keyBuffer[k] = none)) ∧
      -- the resumed step
      (∀ k : SlotIx, j.phase = .zeroise → j.next = some k.val → t.slt.slots[k] = .empty ∧
        t.ere.journal = j ∧ t.ere.awaited = some (.slt k) ∧
        t.stc.owes { write := .slt k .empty, awaiter := some .erase } ∧
        ∀ i : SlotIx, i ≠ k → t.slt.slots[i] = (c.readSlt i).getD .empty) ∧
      (∀ k : RangeIx, j.phase = .ranges → j.next = some k.val → t.ere.journal = j ∧ t.ere.awaited = some (.rng k) ∧
        t.stc.owes { write := .rng k (.factory k), awaiter := some .erase } ∧
        t.rgt = { live := c.startLive.set k (.factory k), staged := c.startLive.set k (.factory k), dirty := false }) ∧
      (j.phase = .sweep → s.mpt.attached = false → t.ere = { s.ere with journal := j, sweepState := some .paused }) ∧
      (j.phase = .sweep → s.mpt.attached = true → ∀ cursor last, j.cursor = some cursor → j.sweepEnd = some last →
        t.ere = { s.ere with journal := j, sweepState := some .ordered, retry := 1,
                             order := some { start := cursor, count := min 32768 (last.toNat + 1 - cursor.toNat) },
                             sweepOwed := t.ere.sweepOwed }) ∧
      (j.phase = .sweep → s.mpt.attached = true → j.cursor = none → ∀ capacity, s.mpt.capacity = some capacity →
        t.ere.awaited = some .ejr ∧ t.stc.carries { write := .ejr t.ere.journal, awaiter := some .erase } ∧
        t.ere.journal = if capacity = 0 then
            { phase := .idle, next := none, cursor := none, sweepEnd := none, incomplete := false }
          else { phase := .sweep, next := none, cursor := some 0,
                 sweepEnd := some (BitVec.ofNat 32 (min capacity.toNat 4294967296 - 1)), incomplete := false })

/-! ### The panel port -/

/-- The gates in their order, for every request: BUSY while a restart is pending; BUSY before store-ready but for STATUS;
BUSY in ERASING but for STATUS, ACK and SET ALERT ENABLES; NOSESSION for an admin request without a session; then FORMAT
for a field outside its coded values (R185, R186), before store-ready and in ERASING too for the requests that pass there. A request that a gate refuses is answered with that gate's result and changes
nothing but the reply, what its arrival changes, and at gate 5 in a session the session timer (R17, R185); STATUS refused
at gate 1 is answered in STATUS's own length; that BUSY is the first of its 74 bytes is the model's (entry 17). -/
def Obligations.GatesInOrder : Prop :=
  (∀ (s : State) (kind : RequestKind) (coded : Bool),
    (s.ppt.restartPending = true → s.gate kind coded = some .busy) ∧
    (s.ppt.restartPending = false →
      (s.lkc.lockState = none → kind ≠ .status → s.gate kind coded = some .busy) ∧
      (s.lkc.lockState = none → kind = .status → s.gate kind coded = if coded then none else some .format) ∧
      (s.lkc.lockState = some .erasing → kind ≠ .status → kind ≠ .flags → s.gate kind coded = some .busy) ∧
      (s.lkc.lockState = some .erasing → (kind = .status ∨ kind = .flags) →
        s.gate kind coded = if coded then none else some .format) ∧
      (s.lkc.lockState ≠ none → s.lkc.lockState ≠ some .erasing →
        (kind = .admin → s.lkc.session = false → s.gate kind coded = some .noSession) ∧
        ((kind ≠ .admin ∨ s.lkc.session = true) → s.gate kind coded = if coded then none else some .format)))) ∧
  (∀ (s : State) (c : Instr) (kind : RequestKind) (coded : Bool) (reply : ReplyResult → Reply) (r : ReplyResult),
    s.powered = true → requestGate c = some (kind, coded, reply) → s.gate kind coded = some r →
    ∃ t, exec c s = .next t ∧ s.requestTaken.sameExcept t [.ppt, .lkc] ∧
      t.ppt = { s.requestTaken.ppt with reply := reply r } ∧
      t.lkc = (if r = .format ∧ kind = .admin then { s.lkc with sessionTimer := s.lkc.sessionTimer.restarted }
        else s.lkc)) ∧
  (∀ s : State, s.powered = true → s.ppt.restartPending = true →
    ∃ t, exec .status s = .next t ∧ s.requestTaken.sameExcept t [.ppt] ∧
      t.ppt = { s.requestTaken.ppt with reply := t.ppt.reply } ∧ t.ppt.reply.type = 0x81 ∧
      t.ppt.reply.payload.length = 74 ∧ t.ppt.reply.payload.head? = some 0x02)

/-- STATUS changes nothing but the reply buffer and what its arrival changes. Its record has 74 bytes, each as the
record's table gives it (R88, R172, R189): from store-ready onward every field, and before store-ready the attached flag,
the capacity and the start cause with FFh in every other byte. -/
def Obligations.StatusReports : Prop :=
  ∀ s : State, s.powered = true → s.ppt.restartPending = false →
    ∃ (t : State) (p : List Byte), exec .status s = .next t ∧ s.requestTaken.sameExcept t [.ppt] ∧
      t.ppt = { s.requestTaken.ppt with reply := { type := 0x81, payload := p } } ∧ p.length = 74 ∧
      p[6]? = some (if s.mpt.attached then 0x01 else 0x00 : Byte) ∧
      beValue ((p.drop 7).take 8) = (match s.mpt.capacity with | some x => x.toNat | none => 0) ∧
      p[52]? = some (match s.ppt.startCause with | .supply => 0x00 | .supplyAfterPfw => 0x01 | .restart => 0x02 : Byte) ∧
      (s.lkc.lockState = none → ∀ place < 74, (place < 6 ∨ 14 < place) → place ≠ 52 → p[place]? = some 0xFF) ∧
      (∀ l, s.lkc.lockState = some l →
        p[0]? = some (match l with
          | .blank => 0x00 | .locked => 0x01 | .openPending => 0x02 | .opened => 0x03 | .erasing => 0x04 : Byte) ∧
        p[1]? = some (match s.enu.state with
          | .idle => 0x00 | .collecting => 0x01 | .checking => 0x02 | .holdoff => 0x03 : Byte) ∧
        p[2]? = some (match s.enu.purpose with
          | some .unlock => 0x00 | some .admin => 0x01 | some .enroll1 => 0x02 | some .enroll2 => 0x03
          | none => 0xFF : Byte) ∧
        p[3]? = some (BitVec.ofNat 8 s.atg.counter) ∧
        beValue ((p.drop 4).take 2) = (match s.atg.timer with | some x => x.preset - x.elapsed | none => 0) % 65536 ∧
        p[15]? = some (if s.lkc.session then 0x01 else 0x00 : Byte) ∧
        p[16]? = some (match s.lkc.role with
          | some .admin => 0x00 | some .user => 0x01 | some .reader => 0x02 | none => 0xFF : Byte) ∧
        p[17]? = some s.lkc.mask ∧
        (∀ k : SlotIx, (p.drop (18 + 5 * k.val)).take 5 = match s.slt.slots[k] with
          | .empty => [0x00, 0xFF, 0xFF, 0xFF, 0xFF]
          | .enrolled i _ _ => [0x01, i.role.code, i.mask, boolCode i.once, BitVec.ofNat 8 i.codeLength]
          | .retired i => [0x02, i.role.code, i.mask, boolCode i.once, BitVec.ofNat 8 i.codeLength]) ∧
        p[43]? = some (match s.ere.journal.phase with
          | .idle => 0x00 | .zeroise => 0x01 | .ranges => 0x02 | .sweep => 0x03 : Byte) ∧
        beValue ((p.drop 44).take 4) = (match s.ere.journal.cursor with | some x => x.toNat | none => 4294967295) ∧
        p[48]? = some (if s.ere.journal.incomplete then 0x01 else 0x00 : Byte) ∧
        p[49]? = some (BitVec.ofNat 8 (s.stc.queue.length + s.stc.reserve.length +
          if s.stc.writing = none then 0 else 1)) ∧
        beValue ((p.drop 50).take 2) = s.ppt.flags.toNat ∧
        p[53]? = some (if s.ppt.unresolved then 0x01 else 0x00 : Byte) ∧
        (s.lkc.idnFault = true → (p.drop 54).take 11 = 0x01 :: List.replicate 10 0xFF) ∧
        (∀ id, s.lkc.idnFault = false → s.stc.idn = some id → p[54]? = some 0x00 ∧
          beValue ((p.drop 55).take 8) = id.serial.toNat ∧ beValue ((p.drop 63).take 2) = id.product.toNat) ∧
        p[65]? = some (BitVec.ofNat 8 s.stc.cfg.F) ∧ p[66]? = some (BitVec.ofNat 8 s.stc.cfg.W) ∧
        p[67]? = some (BitVec.ofNat 8 s.stc.cfg.B) ∧ beValue ((p.drop 68).take 2) = s.stc.cfg.C % 65536 ∧
        beValue ((p.drop 70).take 2) = s.stc.cfg.idle % 65536 ∧ p[72]? = some (BitVec.ofNat 8 s.stc.cfg.window) ∧
        p[73]? = some (if s.stc.cfg.sweep then 0x01 else 0x00 : Byte))

/-- ACK clears exactly the flags it names, SET ALERT ENABLES replaces all twelve enables and changes no flag; each changes
nothing else of PPT but its reply, UNRESOLVED_ATTEMPT standing (R192), and ALERT is low exactly while a pending flag has
its enable set (R182, R191). -/
def Obligations.FlagRequests : Prop :=
  ∀ (s : State) (b : BitVec 16), s.powered = true → s.ppt.restartPending = false → s.lkc.lockState ≠ none →
    b.toNat < 4096 →
    ∃ t u, exec (.ack b) s = .next t ∧ exec (.setAlertEnables b) s = .next u ∧
      s.requestTaken.sameExcept t [.ppt] ∧ s.requestTaken.sameExcept u [.ppt] ∧
      t.ppt = { s.requestTaken.ppt with flags := t.ppt.flags, reply := { type := 0x82, payload := [0x00] } } ∧
      (∀ f : Flag, t.ppt.isPending f = (s.ppt.isPending f && !b.getLsbD f.place)) ∧
      u.ppt = { s.requestTaken.ppt with enables := b.setWidth 12, reply := { type := 0x83, payload := [0x00] } } ∧
      (t.alertLow = true ↔ ∃ f : Flag, t.ppt.isPending f = true ∧ t.ppt.enables.getLsbD f.place = true) ∧
      (u.alertLow = true ↔ ∃ f : Flag, s.ppt.isPending f = true ∧ b.getLsbD f.place = true)

/-- A RESTART request sets the restart-pending mark and answers ACCEPTED (R193); END SESSION and the session timer's
expiry at 60 s end the admin session and change nothing else of LKC (R17, R97). A write to the panel port by its bytes,
the first case that applies (R181): none is no request; fewer than 3, fewer than its length asks for, or a check code
that does not match has the ERROR reply CHECK; a type that is no request's, a length not allowed for the type, or more
bytes than the frame has the ERROR reply FORMAT; a request that is well-formed is none of this row's, and has no effect,
which is the model's (entry 24). -/
def Obligations.SmallRequests : Prop :=
  ∀ s : State, s.powered = true →
    (s.admits .openOther → ∃ t, exec .restart s = .next t ∧ s.requestTaken.sameExcept t [.ppt] ∧
      t.ppt = { s.requestTaken.ppt with restartPending := true, reply := { type := 0x85, payload := [0x00] } }) ∧
    (s.admits .admin → ∃ t, exec .endSession s = .next t ∧ s.requestTaken.sameExcept t [.lkc, .ppt] ∧
      t.lkc = { s.lkc with session := false, sessionTimer := .held } ∧
      t.ppt = { s.requestTaken.ppt with reply := { type := 0x96, payload := [0x00] } }) ∧
    (s.lkc.sessionTimer.reached 60000 = true → ∃ t, exec .adminSessionExpiry s = .next t ∧ s.sameExcept t [.lkc] ∧
      t.lkc = { s.lkc with session := false, sessionTimer := .held }) ∧
    (∀ bytes : List Byte, ∃ t, exec (.badPanelRequest bytes) s = .next t ∧
      (bytes = [] → s.sameExcept t []) ∧
      (bytes ≠ [] → bytes.length < 3 → s.requestTaken.sameExcept t [.ppt] ∧
        t.ppt = { s.requestTaken.ppt with reply := { type := 0xFF, payload := [0x06] } }) ∧
      (∀ (type length : Byte) (rest payload : List Byte), bytes = type :: length :: rest →
        payload = rest.take length.toNat →
        (rest[length.toNat]? ≠ some (crc8 (type :: length :: payload)) → s.requestTaken.sameExcept t [.ppt] ∧
          t.ppt = { s.requestTaken.ppt with reply := { type := 0xFF, payload := [0x06] } }) ∧
        (rest[length.toNat]? = some (crc8 (type :: length :: payload)) →
          ((length.toNat + 1 < rest.length ∨ ¬ requestLength type length.toNat) →
            s.requestTaken.sameExcept t [.ppt] ∧
            t.ppt = { s.requestTaken.ppt with reply := { type := 0xFF, payload := [0x03] } }) ∧
          (rest.length = length.toNat + 1 → requestLength type length.toNat → s.sameExcept t []))))

/-- ENROLL, by the slot, role, mask and once that it names (R43, R55): slot 0 with role ADMIN, all eight ranges and once
no, or a user slot with role USER or READER, begins ENROLL1 with its order in IDLE with no build in flight and is
answered ACCEPTED, and BUSY otherwise; anything else is refused FORMAT. REMOVE (R61): slot 0 and a slot above 4 are
refused FORMAT; an EMPTY slot is accepted without effect; any other becomes EMPTY, its SLTk write on its way, or where
the store refuses the write is answered BUSY and stands. An acceptance and a FORMAT refusal restart the session timer,
BUSY does not (R17), and nothing else of PPT changes but the reply. -/
def Obligations.SlotRequests : Prop :=
  ∀ s : State, s.powered = true → s.admits .admin →
    (∀ (k : SlotIx) (role : Role) (mask : Mask) (once : Bool),
      ((k = 0 ∧ role = .admin ∧ mask = BitVec.allOnes 8 ∧ once = false) ∨ (k ≠ 0 ∧ role ≠ .admin)) →
      ∃ t, exec (.enroll (BitVec.ofNat 8 k.val) role.code mask (boolCode once)) s = .next t ∧
        (s.enu.state = .idle → s.slt.build = none → s.requestTaken.sameExcept t [.enu, .lkc, .ppt] ∧
          t.enu.state = .collecting ∧ t.enu.purpose = some .enroll1 ∧ t.enu.buffer = [] ∧ t.enu.confirm = [] ∧
          t.enu.order = some { slot := k, role := role, mask := mask, once := once } ∧
          t.enu.entryTimer = .running 0 ∧ t.lkc = { s.lkc with sessionTimer := s.lkc.sessionTimer.restarted } ∧
          t.ppt = { s.requestTaken.ppt with reply := { type := 0x90, payload := [0x00] } }) ∧
        ((s.enu.state ≠ .idle ∨ s.slt.build ≠ none) → s.requestTaken.sameExcept t [.ppt] ∧
          t.ppt = { s.requestTaken.ppt with reply := { type := 0x90, payload := [0x02] } })) ∧
    (∀ slot role mask once : Byte,
      (3 ≤ role.toNat ∨ 2 ≤ once.toNat ∨ 5 ≤ slot.toNat ∨
        (slot = 0 ∧ ¬ (role = 0x00 ∧ mask = 0xFF ∧ once = 0x00)) ∨ (slot ≠ 0 ∧ role = 0x00)) →
      ∃ t, exec (.enroll slot role mask once) s = .next t ∧ s.requestTaken.sameExcept t [.lkc, .ppt] ∧
        t.lkc = { s.lkc with sessionTimer := s.lkc.sessionTimer.restarted } ∧
        t.ppt = { s.requestTaken.ppt with reply := { type := 0x90, payload := [0x03] } }) ∧
    (∀ slot : Byte, (slot = 0 ∨ 5 ≤ slot.toNat) →
      ∃ t, exec (.remove slot) s = .next t ∧ s.requestTaken.sameExcept t [.lkc, .ppt] ∧
        t.lkc = { s.lkc with sessionTimer := s.lkc.sessionTimer.restarted } ∧
        t.ppt = { s.requestTaken.ppt with reply := { type := 0x91, payload := [0x03] } }) ∧
    (∀ k : SlotIx, k ≠ 0 → ∃ t, exec (.remove (BitVec.ofNat 8 k.val)) s = .next t ∧
      (s.slt.slots[k] = .empty → s.requestTaken.sameExcept t [.lkc, .ppt] ∧
        t.lkc = { s.lkc with sessionTimer := s.lkc.sessionTimer.restarted } ∧
        t.ppt = { s.requestTaken.ppt with reply := { type := 0x91, payload := [0x00] } }) ∧
      (s.slt.slots[k] ≠ .empty → settingsCount s.stc.queue < 5 → s.stc.reserve = [] →
        s.requestTaken.sameExcept t [.slt, .stc, .lkc, .ppt] ∧
        t.slt = { s.slt with slots := s.slt.slots.set k .empty } ∧ t.stc.cells = s.stc.cells ∧
        (∃ e, t.stc.carries e ∧ e.write = .slt k .empty) ∧
        t.lkc = { s.lkc with sessionTimer := s.lkc.sessionTimer.restarted } ∧
        t.ppt = { s.requestTaken.ppt with reply := { type := 0x91, payload := [0x00] } }) ∧
      (s.slt.slots[k] ≠ .empty → (5 ≤ settingsCount s.stc.queue ∨ s.stc.reserve ≠ []) →
        holdsCell s.stc.queue (.slt k) = false → holdsCell s.stc.reserve (.slt k) = false →
        s.requestTaken.sameExcept t [.ppt] ∧
        t.ppt = { s.requestTaken.ppt with reply := { type := 0x91, payload := [0x02] } }))

/-- SET RANGE, by the bytes it carries. It is refused, by the first test that fails (R107): FORMAT for an index above 7,
for a class, write policy or denial mode without its coded value, for HIDDEN with FILL, and for a last LBA above
4,294,967,295; OVERLAP where another staged record shares an LBA, TO_END taken to LBA 4,294,967,295; FAULT where a fresh
PUBLIC key is needed while the IDN fault mark is held, which restarts the session timer as the others do, and this is
the model's (entry 30). A refusal changes nothing beyond the reply and that timer. An accepted one stages a record with
the request's fields; it keeps the wrapped key where PUBLIC stays PUBLIC or closed stays closed, and takes a fresh one
otherwise, wrapped under the device key where it is PUBLIC and under the held drive key where it is not (R108), named as
the next of the names that no key has had (entry 8). An accepted DROP RANGE stages UNUSED, and an index above 7 is
refused FORMAT (R109). Both requests set the dirty mark where accepted, leave the live table as it stood, and restart
the session timer (R17). -/
def Obligations.RangeRequests : Prop :=
  ∀ s : State, s.powered = true → s.admits .admin →
    (∀ (index : Byte) (start count : Lba) (cls policy denial : Byte) (r : ReplyResult),
      s.rangeTest index start count cls policy denial r →
      ∃ t, exec (.setRange index start count cls policy denial) s = .next t ∧
        s.requestTaken.sameExcept t [.lkc, .ppt] ∧
        t.lkc = { s.lkc with sessionTimer := s.lkc.sessionTimer.restarted } ∧
        t.ppt = { s.requestTaken.ppt with reply := { type := 0x92, payload :=
          ([r.code, index] ++ beBytes 4 start.toNat ++ beBytes 4 count.toNat ++ [cls, policy, denial, 0xFF]) } }) ∧
    (∀ (k : RangeIx) (start count : Lba) (cls : RangeClass) (policy : WritePolicy) (denial : DenialMode) (fresh : Bool),
      (∀ r, ¬ s.rangeTest (BitVec.ofNat 8 k.val) start count cls.code policy.code denial.code r) →
      (fresh = false ↔ ∃ d, s.rgt.staged[k] = .defined d ∧ (d.cls = .pub ↔ cls = .pub)) →
      ∃ t w, exec (.setRange (BitVec.ofNat 8 k.val) start count cls.code policy.code denial.code) s = .next t ∧
        s.requestTaken.sameExcept t [.rgt, .lkc, .ppt, .fresh] ∧
        t.rgt = { s.rgt with dirty := true, staged := s.rgt.staged.set k (.defined
          { start := start, count := if count = 0 then .toEnd else .sectors count, cls := cls, policy := policy,
            denial := denial, wrapped := w }) } ∧
        (fresh = false → w = s.rgt.staged[k].wrapped? ∧ t.freshCount = s.freshCount) ∧
        (fresh = true → t.freshCount = s.freshCount + 1 ∧
          (∀ id, cls = .pub → s.stc.idn = some id →
            w = some { key := .range s.freshCount, under := id.deviceKey }) ∧
          (∀ driveKey, cls ≠ .pub → s.slt.driveKey = some driveKey →
            w = some { key := .range s.freshCount, under := driveKey })) ∧
        t.lkc = { s.lkc with sessionTimer := s.lkc.sessionTimer.restarted } ∧
        t.ppt = { s.requestTaken.ppt with reply := { type := 0x92, payload :=
          ([0x00, BitVec.ofNat 8 k.val] ++ beBytes 4 start.toNat ++ beBytes 4 count.toNat ++
            [cls.code, policy.code, denial.code, boolCode fresh]) } }) ∧
    (∀ k : RangeIx, ∃ t, exec (.dropRange (BitVec.ofNat 8 k.val)) s = .next t ∧
      s.requestTaken.sameExcept t [.rgt, .lkc, .ppt] ∧
      t.rgt = { s.rgt with dirty := true, staged := s.rgt.staged.set k .unused } ∧
      t.lkc = { s.lkc with sessionTimer := s.lkc.sessionTimer.restarted } ∧
      t.ppt = { s.requestTaken.ppt with reply := { type := 0x93, payload := [0x00] } }) ∧
    (∀ index : Byte, 8 ≤ index.toNat → ∃ t, exec (.dropRange index) s = .next t ∧
      s.requestTaken.sameExcept t [.lkc, .ppt] ∧
      t.lkc = { s.lkc with sessionTimer := s.lkc.sessionTimer.restarted } ∧
      t.ppt = { s.requestTaken.ppt with reply := { type := 0x93, payload := [0x03] } })

/-- SET SETTINGS holds each named value outside its range, and F and W where the pair that would result breaks W ≥ F+2: of
one named, that one, and of both named, both. The working copy takes the others where the CFG write is admitted, the write
carries them all and is on its way, and the reply is ACCEPTED with the bits of the held fields; where the write is refused
nothing changes but the reply, BUSY with no field held (R68, R188). Stated for one field named and for F and W named
together; W and the sweep setting have no effect beyond the store and the session timer. For every request whose write is
admitted: a change of F, B or C ends a running back-off whose count is at or below the new F or whose elapsed value has
reached the new preset, gives it the new preset otherwise, and no other change touches it (R83); in OPEN a change of the
idle preset holds its timer at 0, starts it from 0, and where the elapsed value has reached the new preset locks the
drive, as a change of the attach window preset does while the drive is unlocked; other timers count on (R91, R92). The
order of these effects is the model's (entry 16). -/
def Obligations.SettingsTaken : Prop :=
  ∀ (s : State), s.powered = true → s.admits .admin →
    (∀ (field : Byte) (v : BitVec 16), 1 ≤ field.toNat → field.toNat ≤ 7 → s.stc.lawful →
      settingsCount s.stc.queue < 5 → s.stc.reserve = [] →
      ∃ t, exec (.setSettings [(field, v)]) s = .next t ∧ t.stc.cells = s.stc.cells ∧
        (∃ e, t.stc.carries e ∧ e.write = .cfg t.stc.cfg) ∧
        ((settingInRange field v = true ∧
            (isPairField field = true → (s.stc.cfg.setField field v).F + 2 ≤ (s.stc.cfg.setField field v).W)) →
          t.stc.cfg = s.stc.cfg.setField field v ∧ t.ppt.reply = { type := 0x94, payload := [0x00, 0x00] }) ∧
        (¬ (settingInRange field v = true ∧
            (isPairField field = true → (s.stc.cfg.setField field v).F + 2 ≤ (s.stc.cfg.setField field v).W)) →
          t.stc.cfg = s.stc.cfg ∧
          t.ppt.reply = { type := 0x94, payload := [0x00, BitVec.ofNat 8 (2 ^ (field.toNat - 1))] }) ∧
        ((field = 0x02 ∨ field = 0x07) → s.requestTaken.sameExcept t [.stc, .lkc, .ppt] ∧
          t.lkc = { s.lkc with sessionTimer := s.lkc.sessionTimer.restarted })) ∧
    (∀ f w : BitVec 16, settingsCount s.stc.queue < 5 → s.stc.reserve = [] →
      ∃ t, exec (.setSettings [(0x01, f), (0x02, w)]) s = .next t ∧ t.stc.cells = s.stc.cells ∧
        (∀ F W : Nat, F = (if 1 ≤ f.toNat ∧ f.toNat ≤ 18 then f.toNat else s.stc.cfg.F) →
          W = (if 3 ≤ w.toNat ∧ w.toNat ≤ 20 then w.toNat else s.stc.cfg.W) →
          (F + 2 ≤ W → t.stc.cfg = { s.stc.cfg with F := F, W := W } ∧ t.ppt.reply = { type := 0x94, payload :=
            [0x00, (if 1 ≤ f.toNat ∧ f.toNat ≤ 18 then 0 else 1) ||| (if 3 ≤ w.toNat ∧ w.toNat ≤ 20 then 0 else 2)] }) ∧
          (W < F + 2 → t.stc.cfg = s.stc.cfg ∧ t.ppt.reply = { type := 0x94, payload := [0x00, 0x03] }))) ∧
    (∀ entries : List (Byte × BitVec 16), 1 ≤ entries.length → entries.length ≤ 7 → settingsCoded entries = true →
      5 ≤ settingsCount s.stc.queue → holdsCell s.stc.queue .cfg = false → holdsCell s.stc.reserve .cfg = false →
      ∃ t, exec (.setSettings entries) s = .next t ∧ s.requestTaken.sameExcept t [.ppt] ∧
        t.ppt = { s.requestTaken.ppt with reply := { type := 0x94, payload := [0x02, 0x00] } }) ∧
    (∀ entries : List (Byte × BitVec 16), 1 ≤ entries.length → entries.length ≤ 7 → settingsCoded entries = true →
      settingsCount s.stc.queue < 5 → s.stc.reserve = [] →
      ∃ t, exec (.setSettings entries) s = .next t ∧ t.atg.counter = s.atg.counter ∧
        (t.stc.cfg.F = s.stc.cfg.F → t.stc.cfg.B = s.stc.cfg.B → t.stc.cfg.C = s.stc.cfg.C → t.atg = s.atg) ∧
        (∀ x a, s.atg.timer = some x → s.atg.bko.active = some a →
          (t.stc.cfg.F ≠ s.stc.cfg.F ∨ t.stc.cfg.B ≠ s.stc.cfg.B ∨ t.stc.cfg.C ≠ s.stc.cfg.C) →
          ((a.count ≤ t.stc.cfg.F ∨ backoffPreset t.stc.cfg a.count ≤ x.elapsed) →
            t.atg = { s.atg with timer := none, bko := { s.atg.bko with active := none } } ∧
            t.ppt.isPending .holdoffEnded = true ∧ (s.enu.state = .holdoff → t.enu.state = .idle) ∧
            ∃ e, t.stc.carries e ∧ e.write = .bko t.atg.bko) ∧
          (t.stc.cfg.F < a.count → x.elapsed < backoffPreset t.stc.cfg a.count →
            t.atg = { s.atg with timer := some { x with preset := backoffPreset t.stc.cfg a.count } } ∧
            t.enu.state = s.enu.state)) ∧
        (∀ idleEnds windowEnds : Prop,
          (idleEnds ↔ s.lkc.lockState = some .opened ∧ t.stc.cfg.idle ≠ s.stc.cfg.idle ∧ t.stc.cfg.idle ≠ 0 ∧
            s.stc.cfg.idle ≠ 0 ∧ s.lkc.idleTimer.reached (1000 * t.stc.cfg.idle) = true) →
          (windowEnds ↔ t.stc.cfg.window ≠ s.stc.cfg.window ∧
            s.lkc.windowTimer.reached (1000 * t.stc.cfg.window) = true) →
          ((idleEnds ∨ (windowEnds ∧ s.unlocked)) → t.closedDown) ∧
          (¬ idleEnds → ¬ windowEnds → s.requestTaken.sameExcept t [.stc, .lkc, .ppt, .atg, .enu] ∧
            t.lkc = { s.lkc with
              sessionTimer := s.lkc.sessionTimer.restarted,
              idleTimer := if s.lkc.lockState = some .opened ∧ t.stc.cfg.idle ≠ s.stc.cfg.idle then
                  (if t.stc.cfg.idle = 0 then .held
                   else if s.stc.cfg.idle = 0 then .running 0 else s.lkc.idleTimer)
                else s.lkc.idleTimer })))

/-- An accepted ERASE: the reply ACCEPTED, then the erase start, with every key buffer position, session, role and mask
cleared, no context LOADING or LOADED, no parked query, the staged table a copy of the live one, the entry unit IDLE, no
back-off, the drive key and match hold zeroised, the journal at ZEROISE 0, its EJR write on its way and awaited, ERASING
and ERASE_STARTED (R22, R145). -/
def Obligations.EraseStarts : Prop :=
  ∀ s : State, s.powered = true → s.admits .admin →
    ∃ t, exec .erase s = .next t ∧ t.lkc.lockState = some .erasing ∧ t.lkc.keyBuffer = Vector.replicate 8 none ∧
      t.lkc.session = false ∧ t.lkc.role = none ∧ t.lkc.mask = 0 ∧
      (∀ i : CtxIx, t.cxm.entries[i].heldRange = none) ∧ t.dqq = [] ∧ t.rgt.staged = t.rgt.live ∧
      t.rgt.live = s.rgt.live ∧ t.rgt.dirty = false ∧ t.enu.state = .idle ∧ t.atg.timer = none ∧
      t.atg.bko.active = none ∧ t.atg.counter = s.atg.counter ∧ t.slt.driveKey = none ∧ t.slt.matchHold = none ∧
      t.slt.slots = s.slt.slots ∧ t.ere.awaited = some .ejr ∧
      (s.stc.lawful → t.stc.carries { write := .ejr t.ere.journal, awaiter := some .erase }) ∧
      t.ere.journal = { phase := .zeroise, next := some 0, cursor := none, sweepEnd := none, incomplete := false } ∧
      t.ppt.isPending .eraseStarted = true ∧ t.ppt.reply = { type := 0x95, payload := [0x00] } ∧
      t.mpt.attached = s.mpt.attached ∧ t.mpt.capacity = s.mpt.capacity ∧ t.stc.cells = s.stc.cells ∧
      t.stc.cfg = s.stc.cfg ∧ t.ksc = s.requestTaken.ksc ∧ t.freshCount = s.freshCount

/-- The erasure's steps at the ends of its awaited writes, completed or failed alike, each write that a step queues then
on its way (R147), a journal write so for a journal whose fields are in their ranges (R146, R160; every journal that is
read or written is): a journal write of ZEROISE k makes slot k EMPTY, of RANGES k makes range k the factory record, live
and staged; the writes of a slot and of a range queue the next journal record, the last range's ATT 0 and BKO inactive
instead, and BKO's the SWEEP or the IDLE record by the sweep setting; a journal write of SWEEP gives the order for the
chunk at its cursor, of 32,768 sectors or what is left of the sweep, where the media is attached, and pauses otherwise,
and one without a cursor records the sweep end; the IDLE write makes the lock state BLANK and sets ERASE_DONE. An ATTACH
that finds the sweep paused gives the order for the chunk at the cursor (R23, R148 to R151, R153, R154). -/
def Obligations.EraseSteps : Prop :=
  (∀ (s : State) (w : WriteInProgress) (r : ReadBack), s.powered = true → s.ppt.restartPending = false →
    s.stc.writing = some w → s.stc.endsWrite w r → w.entry.awaiter = some .erase →
    s.ere.awaited = some w.entry.cell → s.slt.build = none → s.slt.heldRetirement = none →
    ∃ t, exec (.storeWriteEnd r) s = .next t ∧
      (s.stc.lawful → s.ere.journal.inRange = true → t.ere.awaited = some .ejr →
        t.stc.carries { write := .ejr t.ere.journal, awaiter := some .erase }) ∧
      (∀ j, w.entry.write = .ejr j → s.ere.journal = j →
        (∀ k : SlotIx, j.phase = .zeroise → j.next = some k.val →
          t.slt = { s.slt with slots := s.slt.slots.set k .empty } ∧ t.ere.awaited = some (.slt k) ∧
          (s.stc.lawful → t.stc.owes { write := .slt k .empty, awaiter := some .erase }) ∧
          t.ere.journal = j ∧ t.lkc = s.lkc ∧ t.ppt = s.ppt.afterWrite r) ∧
        (∀ k : RangeIx, j.phase = .ranges → j.next = some k.val →
          t.rgt = { s.rgt with live := s.rgt.live.set k (.factory k), staged := s.rgt.staged.set k (.factory k) } ∧
          (s.stc.lawful → t.stc.owes { write := .rng k (.factory k), awaiter := some .erase }) ∧
          t.ere.awaited = some (.rng k) ∧ t.ere.journal = j ∧ t.lkc = s.lkc ∧ t.ppt = s.ppt.afterWrite r) ∧
        (j.phase = .sweep → t.lkc = s.lkc ∧ t.slt = s.slt ∧ t.rgt = s.rgt ∧ t.ppt = s.ppt.afterWrite r ∧
          (s.mpt.attached = false →
            t.ere = { s.ere with awaited := none, sweepState := some .paused } ∧ t.mpt = s.mpt) ∧
          (s.mpt.attached = true →
            (∀ cursor last, j.cursor = some cursor → j.sweepEnd = some last →
              ∀ count : Nat, count = min 32768 (last.toNat + 1 - cursor.toNat) →
              t.ere = { s.ere with awaited := none, sweepState := some .ordered, retry := 1,
                                   order := some { start := cursor, count := count }, sweepOwed := t.ere.sweepOwed } ∧
              (s.mpt.outbound.length < 8 → t.ere.sweepOwed = false ∧
                t.mpt.outbound = s.mpt.outbound ++ [.sweep cursor count])) ∧
            (∀ capacity, j.cursor = none → j.sweepEnd = none → s.mpt.capacity = some capacity → capacity ≠ 0 →
              t.ere.awaited = some .ejr ∧ t.ere.sweepState = some .recording ∧
              t.ere.journal = { phase := .sweep, next := none, cursor := some 0,
                                sweepEnd := some (BitVec.ofNat 32 (min capacity.toNat 4294967296 - 1)),
                                incomplete := false }) ∧
            (j.cursor = none → j.sweepEnd = none → s.mpt.capacity = some 0 →
              t.ere.awaited = some .ejr ∧ t.ere.journal =
                { phase := .idle, next := none, cursor := none, sweepEnd := none, incomplete := false }))) ∧
        (j.phase = .idle → t.lkc = { s.lkc with lockState := some .blank } ∧
          t.ppt = (s.ppt.afterWrite r).setFlag .eraseDone ∧ t.ere.awaited = none ∧ t.ere.sweepState = none ∧
          t.ere.journal = j)) ∧
      (∀ (k : SlotIx) (record : SlotRecord), w.entry.write = .slt k record → s.ere.journal.phase = .zeroise →
        t.lkc = s.lkc ∧ t.slt = s.slt ∧ t.ere.awaited = some .ejr ∧
        t.ere.journal = { phase := if k = 4 then .ranges else .zeroise, next := some (if k = 4 then 0 else k.val + 1),
                          cursor := none, sweepEnd := none, incomplete := false }) ∧
      (∀ (k : RangeIx) (record : RangeRecord), w.entry.write = .rng k record → s.ere.journal.phase = .ranges →
        t.lkc = s.lkc ∧ t.rgt = s.rgt ∧
        (k ≠ 7 → t.atg = s.atg ∧ t.ere.awaited = some .ejr ∧
          t.ere.journal = { phase := .ranges, next := some (k.val + 1), cursor := none, sweepEnd := none,
                            incomplete := false }) ∧
        (k = 7 → t.ere = { s.ere with awaited := some .bko } ∧
          t.atg = { s.atg with counter := 0, bko := { s.atg.bko with active := none } } ∧
          (s.stc.lawful → (∃ e, t.stc.carries e ∧ e.write = .att 0) ∧
            t.stc.carries { write := .bko t.atg.bko, awaiter := some .erase }))) ∧
      (∀ record, w.entry.write = .bko record → s.ere.journal.phase = .ranges →
        t.lkc = s.lkc ∧ t.atg = s.atg ∧ t.ere.awaited = some .ejr ∧
        t.ere.journal = { phase := if s.stc.cfg.sweep then .sweep else .idle, next := none, cursor := none,
                          sweepEnd := none, incomplete := false })) ∧
  (∀ (s : State) (sent : Bool) (capacity : BitVec 64) (cursor last : Lba), s.powered = true →
    s.ere.journal.phase = .sweep → s.ere.sweepState = some .paused → s.ere.journal.cursor = some cursor →
    s.ere.journal.sweepEnd = some last →
    ∃ t, exec (.attach sent capacity) s = .next t ∧ t.mpt.attached = true ∧
      t.ere = { s.ere with sweepState := some .ordered, retry := 1,
                           order := some { start := cursor, count := min 32768 (last.toNat + 1 - cursor.toNat) },
                           sweepOwed := t.ere.sweepOwed })

end
end

