-- ==== Sys2Proof/Laws/State.lean ====
section
/-! SUPPORT. The fields that each small operation of State leaves unchanged: one lemma per field, so that no later proof
unfolds a record update. -/

namespace Sys2Proof.Machine

/-! ### setFlag -/

@[simp] theorem State.setFlag_ksc (s : State) (f : Flag) : (s.setFlag f).ksc = s.ksc := rfl
@[simp] theorem State.setFlag_enu (s : State) (f : Flag) : (s.setFlag f).enu = s.enu := rfl
@[simp] theorem State.setFlag_slt (s : State) (f : Flag) : (s.setFlag f).slt = s.slt := rfl
@[simp] theorem State.setFlag_atg (s : State) (f : Flag) : (s.setFlag f).atg = s.atg := rfl
@[simp] theorem State.setFlag_lkc (s : State) (f : Flag) : (s.setFlag f).lkc = s.lkc := rfl
@[simp] theorem State.setFlag_rgt (s : State) (f : Flag) : (s.setFlag f).rgt = s.rgt := rfl
@[simp] theorem State.setFlag_cxm (s : State) (f : Flag) : (s.setFlag f).cxm = s.cxm := rfl
@[simp] theorem State.setFlag_dqq (s : State) (f : Flag) : (s.setFlag f).dqq = s.dqq := rfl
@[simp] theorem State.setFlag_ere (s : State) (f : Flag) : (s.setFlag f).ere = s.ere := rfl
@[simp] theorem State.setFlag_stc (s : State) (f : Flag) : (s.setFlag f).stc = s.stc := rfl
@[simp] theorem State.setFlag_mpt (s : State) (f : Flag) : (s.setFlag f).mpt = s.mpt := rfl
@[simp] theorem State.setFlag_powered (s : State) (f : Flag) : (s.setFlag f).powered = s.powered := rfl
@[simp] theorem State.setFlag_freshCount (s : State) (f : Flag) : (s.setFlag f).freshCount = s.freshCount := rfl
@[simp] theorem State.setFlag_pending (s : State) (f : Flag) : (s.setFlag f).pending = s.pending := rfl

/-! ### setFlagIf -/

@[simp] theorem State.setFlagIf_ksc (s : State) (c : Bool) (f : Flag) : (s.setFlagIf c f).ksc = s.ksc := rfl
@[simp] theorem State.setFlagIf_enu (s : State) (c : Bool) (f : Flag) : (s.setFlagIf c f).enu = s.enu := rfl
@[simp] theorem State.setFlagIf_slt (s : State) (c : Bool) (f : Flag) : (s.setFlagIf c f).slt = s.slt := rfl
@[simp] theorem State.setFlagIf_atg (s : State) (c : Bool) (f : Flag) : (s.setFlagIf c f).atg = s.atg := rfl
@[simp] theorem State.setFlagIf_lkc (s : State) (c : Bool) (f : Flag) : (s.setFlagIf c f).lkc = s.lkc := rfl
@[simp] theorem State.setFlagIf_rgt (s : State) (c : Bool) (f : Flag) : (s.setFlagIf c f).rgt = s.rgt := rfl
@[simp] theorem State.setFlagIf_cxm (s : State) (c : Bool) (f : Flag) : (s.setFlagIf c f).cxm = s.cxm := rfl
@[simp] theorem State.setFlagIf_dqq (s : State) (c : Bool) (f : Flag) : (s.setFlagIf c f).dqq = s.dqq := rfl
@[simp] theorem State.setFlagIf_ere (s : State) (c : Bool) (f : Flag) : (s.setFlagIf c f).ere = s.ere := rfl
@[simp] theorem State.setFlagIf_stc (s : State) (c : Bool) (f : Flag) : (s.setFlagIf c f).stc = s.stc := rfl
@[simp] theorem State.setFlagIf_mpt (s : State) (c : Bool) (f : Flag) : (s.setFlagIf c f).mpt = s.mpt := rfl
@[simp] theorem State.setFlagIf_powered (s : State) (c : Bool) (f : Flag) : (s.setFlagIf c f).powered = s.powered := rfl
@[simp] theorem State.setFlagIf_freshCount (s : State) (c : Bool) (f : Flag) : (s.setFlagIf c f).freshCount = s.freshCount := rfl
@[simp] theorem State.setFlagIf_pending (s : State) (c : Bool) (f : Flag) : (s.setFlagIf c f).pending = s.pending := rfl

/-! ### setLockState -/

@[simp] theorem State.setLockState_ksc (s : State) (l : LockState) : (s.setLockState l).ksc = s.ksc := rfl
@[simp] theorem State.setLockState_enu (s : State) (l : LockState) : (s.setLockState l).enu = s.enu := rfl
@[simp] theorem State.setLockState_slt (s : State) (l : LockState) : (s.setLockState l).slt = s.slt := rfl
@[simp] theorem State.setLockState_atg (s : State) (l : LockState) : (s.setLockState l).atg = s.atg := rfl
@[simp] theorem State.setLockState_rgt (s : State) (l : LockState) : (s.setLockState l).rgt = s.rgt := rfl
@[simp] theorem State.setLockState_cxm (s : State) (l : LockState) : (s.setLockState l).cxm = s.cxm := rfl
@[simp] theorem State.setLockState_dqq (s : State) (l : LockState) : (s.setLockState l).dqq = s.dqq := rfl
@[simp] theorem State.setLockState_ere (s : State) (l : LockState) : (s.setLockState l).ere = s.ere := rfl
@[simp] theorem State.setLockState_stc (s : State) (l : LockState) : (s.setLockState l).stc = s.stc := rfl
@[simp] theorem State.setLockState_mpt (s : State) (l : LockState) : (s.setLockState l).mpt = s.mpt := rfl
@[simp] theorem State.setLockState_ppt (s : State) (l : LockState) : (s.setLockState l).ppt = s.ppt := rfl
@[simp] theorem State.setLockState_powered (s : State) (l : LockState) : (s.setLockState l).powered = s.powered := rfl
@[simp] theorem State.setLockState_freshCount (s : State) (l : LockState) : (s.setLockState l).freshCount = s.freshCount := rfl
@[simp] theorem State.setLockState_pending (s : State) (l : LockState) : (s.setLockState l).pending = s.pending := rfl

/-! ### openSession -/

@[simp] theorem State.openSession_ksc (s : State) : (s.openSession).ksc = s.ksc := rfl
@[simp] theorem State.openSession_enu (s : State) : (s.openSession).enu = s.enu := rfl
@[simp] theorem State.openSession_slt (s : State) : (s.openSession).slt = s.slt := rfl
@[simp] theorem State.openSession_atg (s : State) : (s.openSession).atg = s.atg := rfl
@[simp] theorem State.openSession_rgt (s : State) : (s.openSession).rgt = s.rgt := rfl
@[simp] theorem State.openSession_cxm (s : State) : (s.openSession).cxm = s.cxm := rfl
@[simp] theorem State.openSession_dqq (s : State) : (s.openSession).dqq = s.dqq := rfl
@[simp] theorem State.openSession_ere (s : State) : (s.openSession).ere = s.ere := rfl
@[simp] theorem State.openSession_stc (s : State) : (s.openSession).stc = s.stc := rfl
@[simp] theorem State.openSession_mpt (s : State) : (s.openSession).mpt = s.mpt := rfl
@[simp] theorem State.openSession_ppt (s : State) : (s.openSession).ppt = s.ppt := rfl
@[simp] theorem State.openSession_powered (s : State) : (s.openSession).powered = s.powered := rfl
@[simp] theorem State.openSession_freshCount (s : State) : (s.openSession).freshCount = s.freshCount := rfl
@[simp] theorem State.openSession_pending (s : State) : (s.openSession).pending = s.pending := rfl

/-! ### closeSession -/

@[simp] theorem State.closeSession_ksc (s : State) : (s.closeSession).ksc = s.ksc := rfl
@[simp] theorem State.closeSession_enu (s : State) : (s.closeSession).enu = s.enu := rfl
@[simp] theorem State.closeSession_slt (s : State) : (s.closeSession).slt = s.slt := rfl
@[simp] theorem State.closeSession_atg (s : State) : (s.closeSession).atg = s.atg := rfl
@[simp] theorem State.closeSession_rgt (s : State) : (s.closeSession).rgt = s.rgt := rfl
@[simp] theorem State.closeSession_cxm (s : State) : (s.closeSession).cxm = s.cxm := rfl
@[simp] theorem State.closeSession_dqq (s : State) : (s.closeSession).dqq = s.dqq := rfl
@[simp] theorem State.closeSession_ere (s : State) : (s.closeSession).ere = s.ere := rfl
@[simp] theorem State.closeSession_stc (s : State) : (s.closeSession).stc = s.stc := rfl
@[simp] theorem State.closeSession_mpt (s : State) : (s.closeSession).mpt = s.mpt := rfl
@[simp] theorem State.closeSession_ppt (s : State) : (s.closeSession).ppt = s.ppt := rfl
@[simp] theorem State.closeSession_powered (s : State) : (s.closeSession).powered = s.powered := rfl
@[simp] theorem State.closeSession_freshCount (s : State) : (s.closeSession).freshCount = s.freshCount := rfl
@[simp] theorem State.closeSession_pending (s : State) : (s.closeSession).pending = s.pending := rfl

/-! ### touchSession -/

@[simp] theorem State.touchSession_ksc (s : State) : (s.touchSession).ksc = s.ksc := rfl
@[simp] theorem State.touchSession_enu (s : State) : (s.touchSession).enu = s.enu := rfl
@[simp] theorem State.touchSession_slt (s : State) : (s.touchSession).slt = s.slt := rfl
@[simp] theorem State.touchSession_atg (s : State) : (s.touchSession).atg = s.atg := rfl
@[simp] theorem State.touchSession_rgt (s : State) : (s.touchSession).rgt = s.rgt := rfl
@[simp] theorem State.touchSession_cxm (s : State) : (s.touchSession).cxm = s.cxm := rfl
@[simp] theorem State.touchSession_dqq (s : State) : (s.touchSession).dqq = s.dqq := rfl
@[simp] theorem State.touchSession_ere (s : State) : (s.touchSession).ere = s.ere := rfl
@[simp] theorem State.touchSession_stc (s : State) : (s.touchSession).stc = s.stc := rfl
@[simp] theorem State.touchSession_mpt (s : State) : (s.touchSession).mpt = s.mpt := rfl
@[simp] theorem State.touchSession_ppt (s : State) : (s.touchSession).ppt = s.ppt := rfl
@[simp] theorem State.touchSession_powered (s : State) : (s.touchSession).powered = s.powered := rfl
@[simp] theorem State.touchSession_freshCount (s : State) : (s.touchSession).freshCount = s.freshCount := rfl
@[simp] theorem State.touchSession_pending (s : State) : (s.touchSession).pending = s.pending := rfl

/-! ### startIdle -/

@[simp] theorem State.startIdle_ksc (s : State) : (s.startIdle).ksc = s.ksc := rfl
@[simp] theorem State.startIdle_enu (s : State) : (s.startIdle).enu = s.enu := rfl
@[simp] theorem State.startIdle_slt (s : State) : (s.startIdle).slt = s.slt := rfl
@[simp] theorem State.startIdle_atg (s : State) : (s.startIdle).atg = s.atg := rfl
@[simp] theorem State.startIdle_rgt (s : State) : (s.startIdle).rgt = s.rgt := rfl
@[simp] theorem State.startIdle_cxm (s : State) : (s.startIdle).cxm = s.cxm := rfl
@[simp] theorem State.startIdle_dqq (s : State) : (s.startIdle).dqq = s.dqq := rfl
@[simp] theorem State.startIdle_ere (s : State) : (s.startIdle).ere = s.ere := rfl
@[simp] theorem State.startIdle_stc (s : State) : (s.startIdle).stc = s.stc := rfl
@[simp] theorem State.startIdle_mpt (s : State) : (s.startIdle).mpt = s.mpt := rfl
@[simp] theorem State.startIdle_ppt (s : State) : (s.startIdle).ppt = s.ppt := rfl
@[simp] theorem State.startIdle_powered (s : State) : (s.startIdle).powered = s.powered := rfl
@[simp] theorem State.startIdle_freshCount (s : State) : (s.startIdle).freshCount = s.freshCount := rfl
@[simp] theorem State.startIdle_pending (s : State) : (s.startIdle).pending = s.pending := rfl

/-! ### restartIdle -/

@[simp] theorem State.restartIdle_ksc (s : State) : (s.restartIdle).ksc = s.ksc := by
  unfold State.restartIdle; split <;> rfl
@[simp] theorem State.restartIdle_enu (s : State) : (s.restartIdle).enu = s.enu := by
  unfold State.restartIdle; split <;> rfl
@[simp] theorem State.restartIdle_slt (s : State) : (s.restartIdle).slt = s.slt := by
  unfold State.restartIdle; split <;> rfl
@[simp] theorem State.restartIdle_atg (s : State) : (s.restartIdle).atg = s.atg := by
  unfold State.restartIdle; split <;> rfl
@[simp] theorem State.restartIdle_rgt (s : State) : (s.restartIdle).rgt = s.rgt := by
  unfold State.restartIdle; split <;> rfl
@[simp] theorem State.restartIdle_cxm (s : State) : (s.restartIdle).cxm = s.cxm := by
  unfold State.restartIdle; split <;> rfl
@[simp] theorem State.restartIdle_dqq (s : State) : (s.restartIdle).dqq = s.dqq := by
  unfold State.restartIdle; split <;> rfl
@[simp] theorem State.restartIdle_ere (s : State) : (s.restartIdle).ere = s.ere := by
  unfold State.restartIdle; split <;> rfl
@[simp] theorem State.restartIdle_stc (s : State) : (s.restartIdle).stc = s.stc := by
  unfold State.restartIdle; split <;> rfl
@[simp] theorem State.restartIdle_mpt (s : State) : (s.restartIdle).mpt = s.mpt := by
  unfold State.restartIdle; split <;> rfl
@[simp] theorem State.restartIdle_ppt (s : State) : (s.restartIdle).ppt = s.ppt := by
  unfold State.restartIdle; split <;> rfl
@[simp] theorem State.restartIdle_powered (s : State) : (s.restartIdle).powered = s.powered := by
  unfold State.restartIdle; split <;> rfl
@[simp] theorem State.restartIdle_freshCount (s : State) : (s.restartIdle).freshCount = s.freshCount := by
  unfold State.restartIdle; split <;> rfl
@[simp] theorem State.restartIdle_pending (s : State) : (s.restartIdle).pending = s.pending := by
  unfold State.restartIdle; split <;> rfl

/-! ### setReply -/

@[simp] theorem State.setReply_ksc (s : State) (r : Reply) : (s.setReply r).ksc = s.ksc := rfl
@[simp] theorem State.setReply_enu (s : State) (r : Reply) : (s.setReply r).enu = s.enu := rfl
@[simp] theorem State.setReply_slt (s : State) (r : Reply) : (s.setReply r).slt = s.slt := rfl
@[simp] theorem State.setReply_atg (s : State) (r : Reply) : (s.setReply r).atg = s.atg := rfl
@[simp] theorem State.setReply_lkc (s : State) (r : Reply) : (s.setReply r).lkc = s.lkc := rfl
@[simp] theorem State.setReply_rgt (s : State) (r : Reply) : (s.setReply r).rgt = s.rgt := rfl
@[simp] theorem State.setReply_cxm (s : State) (r : Reply) : (s.setReply r).cxm = s.cxm := rfl
@[simp] theorem State.setReply_dqq (s : State) (r : Reply) : (s.setReply r).dqq = s.dqq := rfl
@[simp] theorem State.setReply_ere (s : State) (r : Reply) : (s.setReply r).ere = s.ere := rfl
@[simp] theorem State.setReply_stc (s : State) (r : Reply) : (s.setReply r).stc = s.stc := rfl
@[simp] theorem State.setReply_mpt (s : State) (r : Reply) : (s.setReply r).mpt = s.mpt := rfl
@[simp] theorem State.setReply_powered (s : State) (r : Reply) : (s.setReply r).powered = s.powered := rfl
@[simp] theorem State.setReply_freshCount (s : State) (r : Reply) : (s.setReply r).freshCount = s.freshCount := rfl
@[simp] theorem State.setReply_pending (s : State) (r : Reply) : (s.setReply r).pending = s.pending := rfl

/-! ### sendState -/

@[simp] theorem State.sendState_ksc (s : State) (l : LockState) : (s.sendState l).ksc = s.ksc := rfl
@[simp] theorem State.sendState_enu (s : State) (l : LockState) : (s.sendState l).enu = s.enu := rfl
@[simp] theorem State.sendState_slt (s : State) (l : LockState) : (s.sendState l).slt = s.slt := rfl
@[simp] theorem State.sendState_atg (s : State) (l : LockState) : (s.sendState l).atg = s.atg := rfl
@[simp] theorem State.sendState_lkc (s : State) (l : LockState) : (s.sendState l).lkc = s.lkc := rfl
@[simp] theorem State.sendState_rgt (s : State) (l : LockState) : (s.sendState l).rgt = s.rgt := rfl
@[simp] theorem State.sendState_cxm (s : State) (l : LockState) : (s.sendState l).cxm = s.cxm := rfl
@[simp] theorem State.sendState_dqq (s : State) (l : LockState) : (s.sendState l).dqq = s.dqq := rfl
@[simp] theorem State.sendState_ere (s : State) (l : LockState) : (s.sendState l).ere = s.ere := rfl
@[simp] theorem State.sendState_stc (s : State) (l : LockState) : (s.sendState l).stc = s.stc := rfl
@[simp] theorem State.sendState_ppt (s : State) (l : LockState) : (s.sendState l).ppt = s.ppt := rfl
@[simp] theorem State.sendState_powered (s : State) (l : LockState) : (s.sendState l).powered = s.powered := rfl
@[simp] theorem State.sendState_freshCount (s : State) (l : LockState) : (s.sendState l).freshCount = s.freshCount := rfl
@[simp] theorem State.sendState_pending (s : State) (l : LockState) : (s.sendState l).pending = s.pending := rfl

/-! ### sendAnswer -/

@[simp] theorem State.sendAnswer_ksc (s : State) (f : OutFrame) : (s.sendAnswer f).ksc = s.ksc := rfl
@[simp] theorem State.sendAnswer_enu (s : State) (f : OutFrame) : (s.sendAnswer f).enu = s.enu := rfl
@[simp] theorem State.sendAnswer_slt (s : State) (f : OutFrame) : (s.sendAnswer f).slt = s.slt := rfl
@[simp] theorem State.sendAnswer_atg (s : State) (f : OutFrame) : (s.sendAnswer f).atg = s.atg := rfl
@[simp] theorem State.sendAnswer_lkc (s : State) (f : OutFrame) : (s.sendAnswer f).lkc = s.lkc := rfl
@[simp] theorem State.sendAnswer_rgt (s : State) (f : OutFrame) : (s.sendAnswer f).rgt = s.rgt := rfl
@[simp] theorem State.sendAnswer_cxm (s : State) (f : OutFrame) : (s.sendAnswer f).cxm = s.cxm := rfl
@[simp] theorem State.sendAnswer_dqq (s : State) (f : OutFrame) : (s.sendAnswer f).dqq = s.dqq := rfl
@[simp] theorem State.sendAnswer_ere (s : State) (f : OutFrame) : (s.sendAnswer f).ere = s.ere := rfl
@[simp] theorem State.sendAnswer_stc (s : State) (f : OutFrame) : (s.sendAnswer f).stc = s.stc := rfl
@[simp] theorem State.sendAnswer_ppt (s : State) (f : OutFrame) : (s.sendAnswer f).ppt = s.ppt := rfl
@[simp] theorem State.sendAnswer_powered (s : State) (f : OutFrame) : (s.sendAnswer f).powered = s.powered := rfl
@[simp] theorem State.sendAnswer_freshCount (s : State) (f : OutFrame) : (s.sendAnswer f).freshCount = s.freshCount := rfl
@[simp] theorem State.sendAnswer_pending (s : State) (f : OutFrame) : (s.sendAnswer f).pending = s.pending := rfl

/-! ### settleStandby -/

@[simp] theorem State.settleStandby_ksc (s : State) : (s.settleStandby).ksc = s.ksc := rfl
@[simp] theorem State.settleStandby_slt (s : State) : (s.settleStandby).slt = s.slt := rfl
@[simp] theorem State.settleStandby_atg (s : State) : (s.settleStandby).atg = s.atg := rfl
@[simp] theorem State.settleStandby_lkc (s : State) : (s.settleStandby).lkc = s.lkc := rfl
@[simp] theorem State.settleStandby_rgt (s : State) : (s.settleStandby).rgt = s.rgt := rfl
@[simp] theorem State.settleStandby_cxm (s : State) : (s.settleStandby).cxm = s.cxm := rfl
@[simp] theorem State.settleStandby_dqq (s : State) : (s.settleStandby).dqq = s.dqq := rfl
@[simp] theorem State.settleStandby_ere (s : State) : (s.settleStandby).ere = s.ere := rfl
@[simp] theorem State.settleStandby_stc (s : State) : (s.settleStandby).stc = s.stc := rfl
@[simp] theorem State.settleStandby_mpt (s : State) : (s.settleStandby).mpt = s.mpt := rfl
@[simp] theorem State.settleStandby_ppt (s : State) : (s.settleStandby).ppt = s.ppt := rfl
@[simp] theorem State.settleStandby_powered (s : State) : (s.settleStandby).powered = s.powered := rfl
@[simp] theorem State.settleStandby_freshCount (s : State) : (s.settleStandby).freshCount = s.freshCount := rfl
@[simp] theorem State.settleStandby_pending (s : State) : (s.settleStandby).pending = s.pending := rfl

/-! ### wake -/

@[simp] theorem State.wake_slt (s : State) : (s.wake).slt = s.slt := by
  unfold State.wake; split <;> rfl
@[simp] theorem State.wake_atg (s : State) : (s.wake).atg = s.atg := by
  unfold State.wake; split <;> rfl
@[simp] theorem State.wake_lkc (s : State) : (s.wake).lkc = s.lkc := by
  unfold State.wake; split <;> rfl
@[simp] theorem State.wake_rgt (s : State) : (s.wake).rgt = s.rgt := by
  unfold State.wake; split <;> rfl
@[simp] theorem State.wake_cxm (s : State) : (s.wake).cxm = s.cxm := by
  unfold State.wake; split <;> rfl
@[simp] theorem State.wake_dqq (s : State) : (s.wake).dqq = s.dqq := by
  unfold State.wake; split <;> rfl
@[simp] theorem State.wake_ere (s : State) : (s.wake).ere = s.ere := by
  unfold State.wake; split <;> rfl
@[simp] theorem State.wake_stc (s : State) : (s.wake).stc = s.stc := by
  unfold State.wake; split <;> rfl
@[simp] theorem State.wake_mpt (s : State) : (s.wake).mpt = s.mpt := by
  unfold State.wake; split <;> rfl
@[simp] theorem State.wake_ppt (s : State) : (s.wake).ppt = s.ppt := by
  unfold State.wake; split <;> rfl
@[simp] theorem State.wake_powered (s : State) : (s.wake).powered = s.powered := by
  unfold State.wake; split <;> rfl
@[simp] theorem State.wake_freshCount (s : State) : (s.wake).freshCount = s.freshCount := by
  unfold State.wake; split <;> rfl
@[simp] theorem State.wake_pending (s : State) : (s.wake).pending = s.pending := by
  unfold State.wake; split <;> rfl

/-! ### requestTaken -/

@[simp] theorem State.requestTaken_slt (s : State) : (s.requestTaken).slt = s.slt := by
  simp [State.requestTaken]
@[simp] theorem State.requestTaken_atg (s : State) : (s.requestTaken).atg = s.atg := by
  simp [State.requestTaken]
@[simp] theorem State.requestTaken_lkc (s : State) : (s.requestTaken).lkc = s.lkc := by
  simp [State.requestTaken]
@[simp] theorem State.requestTaken_rgt (s : State) : (s.requestTaken).rgt = s.rgt := by
  simp [State.requestTaken]
@[simp] theorem State.requestTaken_cxm (s : State) : (s.requestTaken).cxm = s.cxm := by
  simp [State.requestTaken]
@[simp] theorem State.requestTaken_dqq (s : State) : (s.requestTaken).dqq = s.dqq := by
  simp [State.requestTaken]
@[simp] theorem State.requestTaken_ere (s : State) : (s.requestTaken).ere = s.ere := by
  simp [State.requestTaken]
@[simp] theorem State.requestTaken_stc (s : State) : (s.requestTaken).stc = s.stc := by
  simp [State.requestTaken]
@[simp] theorem State.requestTaken_mpt (s : State) : (s.requestTaken).mpt = s.mpt := by
  simp [State.requestTaken]
@[simp] theorem State.requestTaken_powered (s : State) : (s.requestTaken).powered = s.powered := by
  simp [State.requestTaken]
@[simp] theorem State.requestTaken_freshCount (s : State) : (s.requestTaken).freshCount = s.freshCount := by
  simp [State.requestTaken]
@[simp] theorem State.requestTaken_pending (s : State) : (s.requestTaken).pending = s.pending := by
  simp [State.requestTaken]

/-! ### setEntry -/

@[simp] theorem State.setEntry_ksc (s : State) (i : CtxIx) (e : ContextEntry) : (s.setEntry i e).ksc = s.ksc := rfl
@[simp] theorem State.setEntry_enu (s : State) (i : CtxIx) (e : ContextEntry) : (s.setEntry i e).enu = s.enu := rfl
@[simp] theorem State.setEntry_slt (s : State) (i : CtxIx) (e : ContextEntry) : (s.setEntry i e).slt = s.slt := rfl
@[simp] theorem State.setEntry_atg (s : State) (i : CtxIx) (e : ContextEntry) : (s.setEntry i e).atg = s.atg := rfl
@[simp] theorem State.setEntry_lkc (s : State) (i : CtxIx) (e : ContextEntry) : (s.setEntry i e).lkc = s.lkc := rfl
@[simp] theorem State.setEntry_rgt (s : State) (i : CtxIx) (e : ContextEntry) : (s.setEntry i e).rgt = s.rgt := rfl
@[simp] theorem State.setEntry_dqq (s : State) (i : CtxIx) (e : ContextEntry) : (s.setEntry i e).dqq = s.dqq := rfl
@[simp] theorem State.setEntry_ere (s : State) (i : CtxIx) (e : ContextEntry) : (s.setEntry i e).ere = s.ere := rfl
@[simp] theorem State.setEntry_stc (s : State) (i : CtxIx) (e : ContextEntry) : (s.setEntry i e).stc = s.stc := rfl
@[simp] theorem State.setEntry_mpt (s : State) (i : CtxIx) (e : ContextEntry) : (s.setEntry i e).mpt = s.mpt := rfl
@[simp] theorem State.setEntry_ppt (s : State) (i : CtxIx) (e : ContextEntry) : (s.setEntry i e).ppt = s.ppt := rfl
@[simp] theorem State.setEntry_powered (s : State) (i : CtxIx) (e : ContextEntry) : (s.setEntry i e).powered = s.powered := rfl
@[simp] theorem State.setEntry_freshCount (s : State) (i : CtxIx) (e : ContextEntry) : (s.setEntry i e).freshCount = s.freshCount := rfl
@[simp] theorem State.setEntry_pending (s : State) (i : CtxIx) (e : ContextEntry) : (s.setEntry i e).pending = s.pending := rfl

/-! ### advanceOrder -/

@[simp] theorem State.advanceOrder_ksc (s : State) : (s.advanceOrder).ksc = s.ksc := rfl
@[simp] theorem State.advanceOrder_enu (s : State) : (s.advanceOrder).enu = s.enu := rfl
@[simp] theorem State.advanceOrder_slt (s : State) : (s.advanceOrder).slt = s.slt := rfl
@[simp] theorem State.advanceOrder_atg (s : State) : (s.advanceOrder).atg = s.atg := rfl
@[simp] theorem State.advanceOrder_lkc (s : State) : (s.advanceOrder).lkc = s.lkc := rfl
@[simp] theorem State.advanceOrder_rgt (s : State) : (s.advanceOrder).rgt = s.rgt := rfl
@[simp] theorem State.advanceOrder_dqq (s : State) : (s.advanceOrder).dqq = s.dqq := rfl
@[simp] theorem State.advanceOrder_ere (s : State) : (s.advanceOrder).ere = s.ere := rfl
@[simp] theorem State.advanceOrder_stc (s : State) : (s.advanceOrder).stc = s.stc := rfl
@[simp] theorem State.advanceOrder_mpt (s : State) : (s.advanceOrder).mpt = s.mpt := rfl
@[simp] theorem State.advanceOrder_ppt (s : State) : (s.advanceOrder).ppt = s.ppt := rfl
@[simp] theorem State.advanceOrder_powered (s : State) : (s.advanceOrder).powered = s.powered := rfl
@[simp] theorem State.advanceOrder_freshCount (s : State) : (s.advanceOrder).freshCount = s.freshCount := rfl
@[simp] theorem State.advanceOrder_pending (s : State) : (s.advanceOrder).pending = s.pending := rfl

/-! ### touchContext -/

@[simp] theorem State.touchContext_ksc (s : State) (i : CtxIx) : (s.touchContext i).ksc = s.ksc := rfl
@[simp] theorem State.touchContext_enu (s : State) (i : CtxIx) : (s.touchContext i).enu = s.enu := rfl
@[simp] theorem State.touchContext_slt (s : State) (i : CtxIx) : (s.touchContext i).slt = s.slt := rfl
@[simp] theorem State.touchContext_atg (s : State) (i : CtxIx) : (s.touchContext i).atg = s.atg := rfl
@[simp] theorem State.touchContext_lkc (s : State) (i : CtxIx) : (s.touchContext i).lkc = s.lkc := rfl
@[simp] theorem State.touchContext_rgt (s : State) (i : CtxIx) : (s.touchContext i).rgt = s.rgt := rfl
@[simp] theorem State.touchContext_dqq (s : State) (i : CtxIx) : (s.touchContext i).dqq = s.dqq := rfl
@[simp] theorem State.touchContext_ere (s : State) (i : CtxIx) : (s.touchContext i).ere = s.ere := rfl
@[simp] theorem State.touchContext_stc (s : State) (i : CtxIx) : (s.touchContext i).stc = s.stc := rfl
@[simp] theorem State.touchContext_mpt (s : State) (i : CtxIx) : (s.touchContext i).mpt = s.mpt := rfl
@[simp] theorem State.touchContext_ppt (s : State) (i : CtxIx) : (s.touchContext i).ppt = s.ppt := rfl
@[simp] theorem State.touchContext_powered (s : State) (i : CtxIx) : (s.touchContext i).powered = s.powered := rfl
@[simp] theorem State.touchContext_freshCount (s : State) (i : CtxIx) : (s.touchContext i).freshCount = s.freshCount := rfl
@[simp] theorem State.touchContext_pending (s : State) (i : CtxIx) : (s.touchContext i).pending = s.pending := rfl

/-! ### sendKeyload -/

@[simp] theorem State.sendKeyload_ksc (s : State) (i : CtxIx) (r : RangeIx) (o : Byte) (n : Nat) : (s.sendKeyload i r o n).ksc = s.ksc := by
  unfold State.sendKeyload; split <;> rfl
@[simp] theorem State.sendKeyload_enu (s : State) (i : CtxIx) (r : RangeIx) (o : Byte) (n : Nat) : (s.sendKeyload i r o n).enu = s.enu := by
  unfold State.sendKeyload; split <;> rfl
@[simp] theorem State.sendKeyload_slt (s : State) (i : CtxIx) (r : RangeIx) (o : Byte) (n : Nat) : (s.sendKeyload i r o n).slt = s.slt := by
  unfold State.sendKeyload; split <;> rfl
@[simp] theorem State.sendKeyload_atg (s : State) (i : CtxIx) (r : RangeIx) (o : Byte) (n : Nat) : (s.sendKeyload i r o n).atg = s.atg := by
  unfold State.sendKeyload; split <;> rfl
@[simp] theorem State.sendKeyload_lkc (s : State) (i : CtxIx) (r : RangeIx) (o : Byte) (n : Nat) : (s.sendKeyload i r o n).lkc = s.lkc := by
  unfold State.sendKeyload; split <;> rfl
@[simp] theorem State.sendKeyload_rgt (s : State) (i : CtxIx) (r : RangeIx) (o : Byte) (n : Nat) : (s.sendKeyload i r o n).rgt = s.rgt := by
  unfold State.sendKeyload; split <;> rfl
@[simp] theorem State.sendKeyload_dqq (s : State) (i : CtxIx) (r : RangeIx) (o : Byte) (n : Nat) : (s.sendKeyload i r o n).dqq = s.dqq := by
  unfold State.sendKeyload; split <;> rfl
@[simp] theorem State.sendKeyload_ere (s : State) (i : CtxIx) (r : RangeIx) (o : Byte) (n : Nat) : (s.sendKeyload i r o n).ere = s.ere := by
  unfold State.sendKeyload; split <;> rfl
@[simp] theorem State.sendKeyload_stc (s : State) (i : CtxIx) (r : RangeIx) (o : Byte) (n : Nat) : (s.sendKeyload i r o n).stc = s.stc := by
  unfold State.sendKeyload; split <;> rfl
@[simp] theorem State.sendKeyload_ppt (s : State) (i : CtxIx) (r : RangeIx) (o : Byte) (n : Nat) : (s.sendKeyload i r o n).ppt = s.ppt := by
  unfold State.sendKeyload; split <;> rfl
@[simp] theorem State.sendKeyload_powered (s : State) (i : CtxIx) (r : RangeIx) (o : Byte) (n : Nat) : (s.sendKeyload i r o n).powered = s.powered := by
  unfold State.sendKeyload; split <;> rfl
@[simp] theorem State.sendKeyload_freshCount (s : State) (i : CtxIx) (r : RangeIx) (o : Byte) (n : Nat) : (s.sendKeyload i r o n).freshCount = s.freshCount := by
  unfold State.sendKeyload; split <;> rfl
@[simp] theorem State.sendKeyload_pending (s : State) (i : CtxIx) (r : RangeIx) (o : Byte) (n : Nat) : (s.sendKeyload i r o n).pending = s.pending := by
  unfold State.sendKeyload; split <;> rfl

/-! ### sendPurge -/

@[simp] theorem State.sendPurge_ksc (s : State) (i : CtxIx) (r : RangeIx) (o : Byte) : (s.sendPurge i r o).ksc = s.ksc := rfl
@[simp] theorem State.sendPurge_enu (s : State) (i : CtxIx) (r : RangeIx) (o : Byte) : (s.sendPurge i r o).enu = s.enu := rfl
@[simp] theorem State.sendPurge_slt (s : State) (i : CtxIx) (r : RangeIx) (o : Byte) : (s.sendPurge i r o).slt = s.slt := rfl
@[simp] theorem State.sendPurge_atg (s : State) (i : CtxIx) (r : RangeIx) (o : Byte) : (s.sendPurge i r o).atg = s.atg := rfl
@[simp] theorem State.sendPurge_lkc (s : State) (i : CtxIx) (r : RangeIx) (o : Byte) : (s.sendPurge i r o).lkc = s.lkc := rfl
@[simp] theorem State.sendPurge_rgt (s : State) (i : CtxIx) (r : RangeIx) (o : Byte) : (s.sendPurge i r o).rgt = s.rgt := rfl
@[simp] theorem State.sendPurge_dqq (s : State) (i : CtxIx) (r : RangeIx) (o : Byte) : (s.sendPurge i r o).dqq = s.dqq := rfl
@[simp] theorem State.sendPurge_ere (s : State) (i : CtxIx) (r : RangeIx) (o : Byte) : (s.sendPurge i r o).ere = s.ere := rfl
@[simp] theorem State.sendPurge_stc (s : State) (i : CtxIx) (r : RangeIx) (o : Byte) : (s.sendPurge i r o).stc = s.stc := rfl
@[simp] theorem State.sendPurge_ppt (s : State) (i : CtxIx) (r : RangeIx) (o : Byte) : (s.sendPurge i r o).ppt = s.ppt := rfl
@[simp] theorem State.sendPurge_powered (s : State) (i : CtxIx) (r : RangeIx) (o : Byte) : (s.sendPurge i r o).powered = s.powered := rfl
@[simp] theorem State.sendPurge_freshCount (s : State) (i : CtxIx) (r : RangeIx) (o : Byte) : (s.sendPurge i r o).freshCount = s.freshCount := rfl
@[simp] theorem State.sendPurge_pending (s : State) (i : CtxIx) (r : RangeIx) (o : Byte) : (s.sendPurge i r o).pending = s.pending := rfl

/-! ### startPurge -/

@[simp] theorem State.startPurge_ksc (s : State) (i : CtxIx) (r : RangeIx) : (s.startPurge i r).ksc = s.ksc := rfl
@[simp] theorem State.startPurge_enu (s : State) (i : CtxIx) (r : RangeIx) : (s.startPurge i r).enu = s.enu := rfl
@[simp] theorem State.startPurge_slt (s : State) (i : CtxIx) (r : RangeIx) : (s.startPurge i r).slt = s.slt := rfl
@[simp] theorem State.startPurge_atg (s : State) (i : CtxIx) (r : RangeIx) : (s.startPurge i r).atg = s.atg := rfl
@[simp] theorem State.startPurge_lkc (s : State) (i : CtxIx) (r : RangeIx) : (s.startPurge i r).lkc = s.lkc := rfl
@[simp] theorem State.startPurge_rgt (s : State) (i : CtxIx) (r : RangeIx) : (s.startPurge i r).rgt = s.rgt := rfl
@[simp] theorem State.startPurge_dqq (s : State) (i : CtxIx) (r : RangeIx) : (s.startPurge i r).dqq = s.dqq := rfl
@[simp] theorem State.startPurge_ere (s : State) (i : CtxIx) (r : RangeIx) : (s.startPurge i r).ere = s.ere := rfl
@[simp] theorem State.startPurge_stc (s : State) (i : CtxIx) (r : RangeIx) : (s.startPurge i r).stc = s.stc := rfl
@[simp] theorem State.startPurge_ppt (s : State) (i : CtxIx) (r : RangeIx) : (s.startPurge i r).ppt = s.ppt := rfl
@[simp] theorem State.startPurge_powered (s : State) (i : CtxIx) (r : RangeIx) : (s.startPurge i r).powered = s.powered := rfl
@[simp] theorem State.startPurge_freshCount (s : State) (i : CtxIx) (r : RangeIx) : (s.startPurge i r).freshCount = s.freshCount := rfl
@[simp] theorem State.startPurge_pending (s : State) (i : CtxIx) (r : RangeIx) : (s.startPurge i r).pending = s.pending := rfl

/-! ### beginLoad -/

@[simp] theorem State.beginLoad_ksc (s : State) (i : CtxIx) (r : RangeIx) : (s.beginLoad i r).ksc = s.ksc := by
  simp [State.beginLoad]
@[simp] theorem State.beginLoad_enu (s : State) (i : CtxIx) (r : RangeIx) : (s.beginLoad i r).enu = s.enu := by
  simp [State.beginLoad]
@[simp] theorem State.beginLoad_slt (s : State) (i : CtxIx) (r : RangeIx) : (s.beginLoad i r).slt = s.slt := by
  simp [State.beginLoad]
@[simp] theorem State.beginLoad_atg (s : State) (i : CtxIx) (r : RangeIx) : (s.beginLoad i r).atg = s.atg := by
  simp [State.beginLoad]
@[simp] theorem State.beginLoad_lkc (s : State) (i : CtxIx) (r : RangeIx) : (s.beginLoad i r).lkc = s.lkc := by
  simp [State.beginLoad]
@[simp] theorem State.beginLoad_rgt (s : State) (i : CtxIx) (r : RangeIx) : (s.beginLoad i r).rgt = s.rgt := by
  simp [State.beginLoad]
@[simp] theorem State.beginLoad_dqq (s : State) (i : CtxIx) (r : RangeIx) : (s.beginLoad i r).dqq = s.dqq := by
  simp [State.beginLoad]
@[simp] theorem State.beginLoad_ere (s : State) (i : CtxIx) (r : RangeIx) : (s.beginLoad i r).ere = s.ere := by
  simp [State.beginLoad]
@[simp] theorem State.beginLoad_stc (s : State) (i : CtxIx) (r : RangeIx) : (s.beginLoad i r).stc = s.stc := by
  simp [State.beginLoad]
@[simp] theorem State.beginLoad_ppt (s : State) (i : CtxIx) (r : RangeIx) : (s.beginLoad i r).ppt = s.ppt := by
  simp [State.beginLoad]
@[simp] theorem State.beginLoad_powered (s : State) (i : CtxIx) (r : RangeIx) : (s.beginLoad i r).powered = s.powered := by
  simp [State.beginLoad]
@[simp] theorem State.beginLoad_freshCount (s : State) (i : CtxIx) (r : RangeIx) : (s.beginLoad i r).freshCount = s.freshCount := by
  simp [State.beginLoad]
@[simp] theorem State.beginLoad_pending (s : State) (i : CtxIx) (r : RangeIx) : (s.beginLoad i r).pending = s.pending := by
  simp [State.beginLoad]

/-! ### setPosition -/

@[simp] theorem State.setPosition_ksc (s : State) (k : RangeIx) (b : Option BufferKey) : (s.setPosition k b).ksc = s.ksc := rfl
@[simp] theorem State.setPosition_enu (s : State) (k : RangeIx) (b : Option BufferKey) : (s.setPosition k b).enu = s.enu := rfl
@[simp] theorem State.setPosition_slt (s : State) (k : RangeIx) (b : Option BufferKey) : (s.setPosition k b).slt = s.slt := rfl
@[simp] theorem State.setPosition_atg (s : State) (k : RangeIx) (b : Option BufferKey) : (s.setPosition k b).atg = s.atg := rfl
@[simp] theorem State.setPosition_rgt (s : State) (k : RangeIx) (b : Option BufferKey) : (s.setPosition k b).rgt = s.rgt := rfl
@[simp] theorem State.setPosition_cxm (s : State) (k : RangeIx) (b : Option BufferKey) : (s.setPosition k b).cxm = s.cxm := rfl
@[simp] theorem State.setPosition_dqq (s : State) (k : RangeIx) (b : Option BufferKey) : (s.setPosition k b).dqq = s.dqq := rfl
@[simp] theorem State.setPosition_ere (s : State) (k : RangeIx) (b : Option BufferKey) : (s.setPosition k b).ere = s.ere := rfl
@[simp] theorem State.setPosition_stc (s : State) (k : RangeIx) (b : Option BufferKey) : (s.setPosition k b).stc = s.stc := rfl
@[simp] theorem State.setPosition_mpt (s : State) (k : RangeIx) (b : Option BufferKey) : (s.setPosition k b).mpt = s.mpt := rfl
@[simp] theorem State.setPosition_ppt (s : State) (k : RangeIx) (b : Option BufferKey) : (s.setPosition k b).ppt = s.ppt := rfl
@[simp] theorem State.setPosition_powered (s : State) (k : RangeIx) (b : Option BufferKey) : (s.setPosition k b).powered = s.powered := rfl
@[simp] theorem State.setPosition_freshCount (s : State) (k : RangeIx) (b : Option BufferKey) : (s.setPosition k b).freshCount = s.freshCount := rfl
@[simp] theorem State.setPosition_pending (s : State) (k : RangeIx) (b : Option BufferKey) : (s.setPosition k b).pending = s.pending := rfl

/-! ### cancelCheck -/

@[simp] theorem State.cancelCheck_ksc (s : State) : (s.cancelCheck).ksc = s.ksc := by
  unfold State.cancelCheck; split <;> rfl
@[simp] theorem State.cancelCheck_slt (s : State) : (s.cancelCheck).slt = s.slt := by
  unfold State.cancelCheck; split <;> rfl
@[simp] theorem State.cancelCheck_atg (s : State) : (s.cancelCheck).atg = s.atg := by
  unfold State.cancelCheck; split <;> rfl
@[simp] theorem State.cancelCheck_lkc (s : State) : (s.cancelCheck).lkc = s.lkc := by
  unfold State.cancelCheck; split <;> rfl
@[simp] theorem State.cancelCheck_rgt (s : State) : (s.cancelCheck).rgt = s.rgt := by
  unfold State.cancelCheck; split <;> rfl
@[simp] theorem State.cancelCheck_cxm (s : State) : (s.cancelCheck).cxm = s.cxm := by
  unfold State.cancelCheck; split <;> rfl
@[simp] theorem State.cancelCheck_dqq (s : State) : (s.cancelCheck).dqq = s.dqq := by
  unfold State.cancelCheck; split <;> rfl
@[simp] theorem State.cancelCheck_ere (s : State) : (s.cancelCheck).ere = s.ere := by
  unfold State.cancelCheck; split <;> rfl
@[simp] theorem State.cancelCheck_stc (s : State) : (s.cancelCheck).stc = s.stc := by
  unfold State.cancelCheck; split <;> rfl
@[simp] theorem State.cancelCheck_mpt (s : State) : (s.cancelCheck).mpt = s.mpt := by
  unfold State.cancelCheck; split <;> rfl
@[simp] theorem State.cancelCheck_ppt (s : State) : (s.cancelCheck).ppt = s.ppt := by
  unfold State.cancelCheck; split <;> rfl
@[simp] theorem State.cancelCheck_powered (s : State) : (s.cancelCheck).powered = s.powered := by
  unfold State.cancelCheck; split <;> rfl
@[simp] theorem State.cancelCheck_freshCount (s : State) : (s.cancelCheck).freshCount = s.freshCount := by
  unfold State.cancelCheck; split <;> rfl
@[simp] theorem State.cancelCheck_pending (s : State) : (s.cancelCheck).pending = s.pending := by
  unfold State.cancelCheck; split <;> rfl

/-! ### leaveChecking -/

@[simp] theorem State.leaveChecking_ksc (s : State) : (s.leaveChecking).ksc = s.ksc := by
  unfold State.leaveChecking; split <;> rfl
@[simp] theorem State.leaveChecking_slt (s : State) : (s.leaveChecking).slt = s.slt := by
  unfold State.leaveChecking; split <;> rfl
@[simp] theorem State.leaveChecking_atg (s : State) : (s.leaveChecking).atg = s.atg := by
  unfold State.leaveChecking; split <;> rfl
@[simp] theorem State.leaveChecking_lkc (s : State) : (s.leaveChecking).lkc = s.lkc := by
  unfold State.leaveChecking; split <;> rfl
@[simp] theorem State.leaveChecking_rgt (s : State) : (s.leaveChecking).rgt = s.rgt := by
  unfold State.leaveChecking; split <;> rfl
@[simp] theorem State.leaveChecking_cxm (s : State) : (s.leaveChecking).cxm = s.cxm := by
  unfold State.leaveChecking; split <;> rfl
@[simp] theorem State.leaveChecking_dqq (s : State) : (s.leaveChecking).dqq = s.dqq := by
  unfold State.leaveChecking; split <;> rfl
@[simp] theorem State.leaveChecking_ere (s : State) : (s.leaveChecking).ere = s.ere := by
  unfold State.leaveChecking; split <;> rfl
@[simp] theorem State.leaveChecking_stc (s : State) : (s.leaveChecking).stc = s.stc := by
  unfold State.leaveChecking; split <;> rfl
@[simp] theorem State.leaveChecking_mpt (s : State) : (s.leaveChecking).mpt = s.mpt := by
  unfold State.leaveChecking; split <;> rfl
@[simp] theorem State.leaveChecking_ppt (s : State) : (s.leaveChecking).ppt = s.ppt := by
  unfold State.leaveChecking; split <;> rfl
@[simp] theorem State.leaveChecking_powered (s : State) : (s.leaveChecking).powered = s.powered := by
  unfold State.leaveChecking; split <;> rfl
@[simp] theorem State.leaveChecking_freshCount (s : State) : (s.leaveChecking).freshCount = s.freshCount := by
  unfold State.leaveChecking; split <;> rfl
@[simp] theorem State.leaveChecking_pending (s : State) : (s.leaveChecking).pending = s.pending := by
  unfold State.leaveChecking; split <;> rfl

/-! ### abandonEntry -/

@[simp] theorem State.abandonEntry_ksc (s : State) : (s.abandonEntry).ksc = s.ksc := by
  simp [State.abandonEntry]
@[simp] theorem State.abandonEntry_slt (s : State) : (s.abandonEntry).slt = s.slt := by
  simp [State.abandonEntry]
@[simp] theorem State.abandonEntry_atg (s : State) : (s.abandonEntry).atg = s.atg := by
  simp [State.abandonEntry]
@[simp] theorem State.abandonEntry_lkc (s : State) : (s.abandonEntry).lkc = s.lkc := by
  simp [State.abandonEntry]
@[simp] theorem State.abandonEntry_rgt (s : State) : (s.abandonEntry).rgt = s.rgt := by
  simp [State.abandonEntry]
@[simp] theorem State.abandonEntry_cxm (s : State) : (s.abandonEntry).cxm = s.cxm := by
  simp [State.abandonEntry]
@[simp] theorem State.abandonEntry_dqq (s : State) : (s.abandonEntry).dqq = s.dqq := by
  simp [State.abandonEntry]
@[simp] theorem State.abandonEntry_ere (s : State) : (s.abandonEntry).ere = s.ere := by
  simp [State.abandonEntry]
@[simp] theorem State.abandonEntry_stc (s : State) : (s.abandonEntry).stc = s.stc := by
  simp [State.abandonEntry]
@[simp] theorem State.abandonEntry_mpt (s : State) : (s.abandonEntry).mpt = s.mpt := by
  simp [State.abandonEntry]
@[simp] theorem State.abandonEntry_powered (s : State) : (s.abandonEntry).powered = s.powered := by
  simp [State.abandonEntry]
@[simp] theorem State.abandonEntry_freshCount (s : State) : (s.abandonEntry).freshCount = s.freshCount := by
  simp [State.abandonEntry]
@[simp] theorem State.abandonEntry_pending (s : State) : (s.abandonEntry).pending = s.pending := by
  simp [State.abandonEntry]

/-! ### endCheck -/

@[simp] theorem State.endCheck_ksc (s : State) : (s.endCheck).ksc = s.ksc := rfl
@[simp] theorem State.endCheck_enu (s : State) : (s.endCheck).enu = s.enu := rfl
@[simp] theorem State.endCheck_slt (s : State) : (s.endCheck).slt = s.slt := rfl
@[simp] theorem State.endCheck_lkc (s : State) : (s.endCheck).lkc = s.lkc := rfl
@[simp] theorem State.endCheck_rgt (s : State) : (s.endCheck).rgt = s.rgt := rfl
@[simp] theorem State.endCheck_cxm (s : State) : (s.endCheck).cxm = s.cxm := rfl
@[simp] theorem State.endCheck_dqq (s : State) : (s.endCheck).dqq = s.dqq := rfl
@[simp] theorem State.endCheck_ere (s : State) : (s.endCheck).ere = s.ere := rfl
@[simp] theorem State.endCheck_stc (s : State) : (s.endCheck).stc = s.stc := rfl
@[simp] theorem State.endCheck_mpt (s : State) : (s.endCheck).mpt = s.mpt := rfl
@[simp] theorem State.endCheck_ppt (s : State) : (s.endCheck).ppt = s.ppt := rfl
@[simp] theorem State.endCheck_powered (s : State) : (s.endCheck).powered = s.powered := rfl
@[simp] theorem State.endCheck_freshCount (s : State) : (s.endCheck).freshCount = s.freshCount := rfl
@[simp] theorem State.endCheck_pending (s : State) : (s.endCheck).pending = s.pending := rfl

/-! ### dropVerification -/

@[simp] theorem State.dropVerification_ksc (s : State) : (s.dropVerification).ksc = s.ksc := rfl
@[simp] theorem State.dropVerification_enu (s : State) : (s.dropVerification).enu = s.enu := rfl
@[simp] theorem State.dropVerification_atg (s : State) : (s.dropVerification).atg = s.atg := rfl
@[simp] theorem State.dropVerification_lkc (s : State) : (s.dropVerification).lkc = s.lkc := rfl
@[simp] theorem State.dropVerification_rgt (s : State) : (s.dropVerification).rgt = s.rgt := rfl
@[simp] theorem State.dropVerification_cxm (s : State) : (s.dropVerification).cxm = s.cxm := rfl
@[simp] theorem State.dropVerification_dqq (s : State) : (s.dropVerification).dqq = s.dqq := rfl
@[simp] theorem State.dropVerification_ere (s : State) : (s.dropVerification).ere = s.ere := rfl
@[simp] theorem State.dropVerification_stc (s : State) : (s.dropVerification).stc = s.stc := rfl
@[simp] theorem State.dropVerification_mpt (s : State) : (s.dropVerification).mpt = s.mpt := rfl
@[simp] theorem State.dropVerification_ppt (s : State) : (s.dropVerification).ppt = s.ppt := rfl
@[simp] theorem State.dropVerification_powered (s : State) : (s.dropVerification).powered = s.powered := rfl
@[simp] theorem State.dropVerification_freshCount (s : State) : (s.dropVerification).freshCount = s.freshCount := rfl
@[simp] theorem State.dropVerification_pending (s : State) : (s.dropVerification).pending = s.pending := rfl

/-! ### dropHold -/

@[simp] theorem State.dropHold_ksc (s : State) : (s.dropHold).ksc = s.ksc := rfl
@[simp] theorem State.dropHold_enu (s : State) : (s.dropHold).enu = s.enu := rfl
@[simp] theorem State.dropHold_atg (s : State) : (s.dropHold).atg = s.atg := rfl
@[simp] theorem State.dropHold_lkc (s : State) : (s.dropHold).lkc = s.lkc := rfl
@[simp] theorem State.dropHold_rgt (s : State) : (s.dropHold).rgt = s.rgt := rfl
@[simp] theorem State.dropHold_cxm (s : State) : (s.dropHold).cxm = s.cxm := rfl
@[simp] theorem State.dropHold_dqq (s : State) : (s.dropHold).dqq = s.dqq := rfl
@[simp] theorem State.dropHold_ere (s : State) : (s.dropHold).ere = s.ere := rfl
@[simp] theorem State.dropHold_stc (s : State) : (s.dropHold).stc = s.stc := rfl
@[simp] theorem State.dropHold_mpt (s : State) : (s.dropHold).mpt = s.mpt := rfl
@[simp] theorem State.dropHold_ppt (s : State) : (s.dropHold).ppt = s.ppt := rfl
@[simp] theorem State.dropHold_powered (s : State) : (s.dropHold).powered = s.powered := rfl
@[simp] theorem State.dropHold_freshCount (s : State) : (s.dropHold).freshCount = s.freshCount := rfl
@[simp] theorem State.dropHold_pending (s : State) : (s.dropHold).pending = s.pending := rfl

/-! ### setBuild -/

@[simp] theorem State.setBuild_ksc (s : State) (b : Option Build) : (s.setBuild b).ksc = s.ksc := rfl
@[simp] theorem State.setBuild_enu (s : State) (b : Option Build) : (s.setBuild b).enu = s.enu := rfl
@[simp] theorem State.setBuild_atg (s : State) (b : Option Build) : (s.setBuild b).atg = s.atg := rfl
@[simp] theorem State.setBuild_lkc (s : State) (b : Option Build) : (s.setBuild b).lkc = s.lkc := rfl
@[simp] theorem State.setBuild_rgt (s : State) (b : Option Build) : (s.setBuild b).rgt = s.rgt := rfl
@[simp] theorem State.setBuild_cxm (s : State) (b : Option Build) : (s.setBuild b).cxm = s.cxm := rfl
@[simp] theorem State.setBuild_dqq (s : State) (b : Option Build) : (s.setBuild b).dqq = s.dqq := rfl
@[simp] theorem State.setBuild_ere (s : State) (b : Option Build) : (s.setBuild b).ere = s.ere := rfl
@[simp] theorem State.setBuild_stc (s : State) (b : Option Build) : (s.setBuild b).stc = s.stc := rfl
@[simp] theorem State.setBuild_mpt (s : State) (b : Option Build) : (s.setBuild b).mpt = s.mpt := rfl
@[simp] theorem State.setBuild_ppt (s : State) (b : Option Build) : (s.setBuild b).ppt = s.ppt := rfl
@[simp] theorem State.setBuild_powered (s : State) (b : Option Build) : (s.setBuild b).powered = s.powered := rfl
@[simp] theorem State.setBuild_freshCount (s : State) (b : Option Build) : (s.setBuild b).freshCount = s.freshCount := rfl
@[simp] theorem State.setBuild_pending (s : State) (b : Option Build) : (s.setBuild b).pending = s.pending := rfl

/-! ### spendFresh -/

@[simp] theorem State.spendFresh_ksc (s : State) : (s.spendFresh).ksc = s.ksc := rfl
@[simp] theorem State.spendFresh_enu (s : State) : (s.spendFresh).enu = s.enu := rfl
@[simp] theorem State.spendFresh_slt (s : State) : (s.spendFresh).slt = s.slt := rfl
@[simp] theorem State.spendFresh_atg (s : State) : (s.spendFresh).atg = s.atg := rfl
@[simp] theorem State.spendFresh_lkc (s : State) : (s.spendFresh).lkc = s.lkc := rfl
@[simp] theorem State.spendFresh_rgt (s : State) : (s.spendFresh).rgt = s.rgt := rfl
@[simp] theorem State.spendFresh_cxm (s : State) : (s.spendFresh).cxm = s.cxm := rfl
@[simp] theorem State.spendFresh_dqq (s : State) : (s.spendFresh).dqq = s.dqq := rfl
@[simp] theorem State.spendFresh_ere (s : State) : (s.spendFresh).ere = s.ere := rfl
@[simp] theorem State.spendFresh_stc (s : State) : (s.spendFresh).stc = s.stc := rfl
@[simp] theorem State.spendFresh_mpt (s : State) : (s.spendFresh).mpt = s.mpt := rfl
@[simp] theorem State.spendFresh_ppt (s : State) : (s.spendFresh).ppt = s.ppt := rfl
@[simp] theorem State.spendFresh_powered (s : State) : (s.spendFresh).powered = s.powered := rfl
@[simp] theorem State.spendFresh_pending (s : State) : (s.spendFresh).pending = s.pending := rfl

/-! ### startVerification -/

@[simp] theorem State.startVerification_ksc (s : State) : (s.startVerification).ksc = s.ksc := rfl
@[simp] theorem State.startVerification_enu (s : State) : (s.startVerification).enu = s.enu := rfl
@[simp] theorem State.startVerification_atg (s : State) : (s.startVerification).atg = s.atg := rfl
@[simp] theorem State.startVerification_lkc (s : State) : (s.startVerification).lkc = s.lkc := rfl
@[simp] theorem State.startVerification_rgt (s : State) : (s.startVerification).rgt = s.rgt := rfl
@[simp] theorem State.startVerification_cxm (s : State) : (s.startVerification).cxm = s.cxm := rfl
@[simp] theorem State.startVerification_dqq (s : State) : (s.startVerification).dqq = s.dqq := rfl
@[simp] theorem State.startVerification_ere (s : State) : (s.startVerification).ere = s.ere := rfl
@[simp] theorem State.startVerification_stc (s : State) : (s.startVerification).stc = s.stc := rfl
@[simp] theorem State.startVerification_mpt (s : State) : (s.startVerification).mpt = s.mpt := rfl
@[simp] theorem State.startVerification_ppt (s : State) : (s.startVerification).ppt = s.ppt := rfl
@[simp] theorem State.startVerification_powered (s : State) : (s.startVerification).powered = s.powered := rfl
@[simp] theorem State.startVerification_freshCount (s : State) : (s.startVerification).freshCount = s.freshCount := rfl
@[simp] theorem State.startVerification_pending (s : State) : (s.startVerification).pending = s.pending := rfl

/-! ### startUnwrap -/

@[simp] theorem State.startUnwrap_ksc (s : State) (a b : Bool) : (s.startUnwrap a b).ksc = s.ksc := by
  unfold State.startUnwrap; split <;> rfl
@[simp] theorem State.startUnwrap_enu (s : State) (a b : Bool) : (s.startUnwrap a b).enu = s.enu := by
  unfold State.startUnwrap; split <;> rfl
@[simp] theorem State.startUnwrap_atg (s : State) (a b : Bool) : (s.startUnwrap a b).atg = s.atg := by
  unfold State.startUnwrap; split <;> rfl
@[simp] theorem State.startUnwrap_lkc (s : State) (a b : Bool) : (s.startUnwrap a b).lkc = s.lkc := by
  unfold State.startUnwrap; split <;> rfl
@[simp] theorem State.startUnwrap_rgt (s : State) (a b : Bool) : (s.startUnwrap a b).rgt = s.rgt := by
  unfold State.startUnwrap; split <;> rfl
@[simp] theorem State.startUnwrap_cxm (s : State) (a b : Bool) : (s.startUnwrap a b).cxm = s.cxm := by
  unfold State.startUnwrap; split <;> rfl
@[simp] theorem State.startUnwrap_dqq (s : State) (a b : Bool) : (s.startUnwrap a b).dqq = s.dqq := by
  unfold State.startUnwrap; split <;> rfl
@[simp] theorem State.startUnwrap_ere (s : State) (a b : Bool) : (s.startUnwrap a b).ere = s.ere := by
  unfold State.startUnwrap; split <;> rfl
@[simp] theorem State.startUnwrap_stc (s : State) (a b : Bool) : (s.startUnwrap a b).stc = s.stc := by
  unfold State.startUnwrap; split <;> rfl
@[simp] theorem State.startUnwrap_mpt (s : State) (a b : Bool) : (s.startUnwrap a b).mpt = s.mpt := by
  unfold State.startUnwrap; split <;> rfl
@[simp] theorem State.startUnwrap_ppt (s : State) (a b : Bool) : (s.startUnwrap a b).ppt = s.ppt := by
  unfold State.startUnwrap; split <;> rfl
@[simp] theorem State.startUnwrap_powered (s : State) (a b : Bool) : (s.startUnwrap a b).powered = s.powered := by
  unfold State.startUnwrap; split <;> rfl
@[simp] theorem State.startUnwrap_freshCount (s : State) (a b : Bool) : (s.startUnwrap a b).freshCount = s.freshCount := by
  unfold State.startUnwrap; split <;> rfl
@[simp] theorem State.startUnwrap_pending (s : State) (a b : Bool) : (s.startUnwrap a b).pending = s.pending := by
  unfold State.startUnwrap; split <;> rfl

/-! ### markStale -/

@[simp] theorem State.markStale_ksc (s : State) : (s.markStale).ksc = s.ksc := rfl
@[simp] theorem State.markStale_enu (s : State) : (s.markStale).enu = s.enu := rfl
@[simp] theorem State.markStale_slt (s : State) : (s.markStale).slt = s.slt := rfl
@[simp] theorem State.markStale_atg (s : State) : (s.markStale).atg = s.atg := rfl
@[simp] theorem State.markStale_lkc (s : State) : (s.markStale).lkc = s.lkc := rfl
@[simp] theorem State.markStale_rgt (s : State) : (s.markStale).rgt = s.rgt := rfl
@[simp] theorem State.markStale_cxm (s : State) : (s.markStale).cxm = s.cxm := rfl
@[simp] theorem State.markStale_ere (s : State) : (s.markStale).ere = s.ere := rfl
@[simp] theorem State.markStale_stc (s : State) : (s.markStale).stc = s.stc := rfl
@[simp] theorem State.markStale_mpt (s : State) : (s.markStale).mpt = s.mpt := rfl
@[simp] theorem State.markStale_ppt (s : State) : (s.markStale).ppt = s.ppt := rfl
@[simp] theorem State.markStale_powered (s : State) : (s.markStale).powered = s.powered := rfl
@[simp] theorem State.markStale_freshCount (s : State) : (s.markStale).freshCount = s.freshCount := rfl
@[simp] theorem State.markStale_pending (s : State) : (s.markStale).pending = s.pending := rfl

/-! ### park -/

@[simp] theorem State.park_ksc (s : State) (q : Query) (r : RangeIx) : (s.park q r).ksc = s.ksc := rfl
@[simp] theorem State.park_enu (s : State) (q : Query) (r : RangeIx) : (s.park q r).enu = s.enu := rfl
@[simp] theorem State.park_slt (s : State) (q : Query) (r : RangeIx) : (s.park q r).slt = s.slt := rfl
@[simp] theorem State.park_atg (s : State) (q : Query) (r : RangeIx) : (s.park q r).atg = s.atg := rfl
@[simp] theorem State.park_lkc (s : State) (q : Query) (r : RangeIx) : (s.park q r).lkc = s.lkc := rfl
@[simp] theorem State.park_rgt (s : State) (q : Query) (r : RangeIx) : (s.park q r).rgt = s.rgt := rfl
@[simp] theorem State.park_cxm (s : State) (q : Query) (r : RangeIx) : (s.park q r).cxm = s.cxm := rfl
@[simp] theorem State.park_ere (s : State) (q : Query) (r : RangeIx) : (s.park q r).ere = s.ere := rfl
@[simp] theorem State.park_stc (s : State) (q : Query) (r : RangeIx) : (s.park q r).stc = s.stc := rfl
@[simp] theorem State.park_mpt (s : State) (q : Query) (r : RangeIx) : (s.park q r).mpt = s.mpt := rfl
@[simp] theorem State.park_ppt (s : State) (q : Query) (r : RangeIx) : (s.park q r).ppt = s.ppt := rfl
@[simp] theorem State.park_powered (s : State) (q : Query) (r : RangeIx) : (s.park q r).powered = s.powered := rfl
@[simp] theorem State.park_freshCount (s : State) (q : Query) (r : RangeIx) : (s.park q r).freshCount = s.freshCount := rfl
@[simp] theorem State.park_pending (s : State) (q : Query) (r : RangeIx) : (s.park q r).pending = s.pending := rfl

/-! ### unpark -/

@[simp] theorem State.unpark_ksc (s : State) (q : Query) : (s.unpark q).ksc = s.ksc := rfl
@[simp] theorem State.unpark_enu (s : State) (q : Query) : (s.unpark q).enu = s.enu := rfl
@[simp] theorem State.unpark_slt (s : State) (q : Query) : (s.unpark q).slt = s.slt := rfl
@[simp] theorem State.unpark_atg (s : State) (q : Query) : (s.unpark q).atg = s.atg := rfl
@[simp] theorem State.unpark_lkc (s : State) (q : Query) : (s.unpark q).lkc = s.lkc := rfl
@[simp] theorem State.unpark_rgt (s : State) (q : Query) : (s.unpark q).rgt = s.rgt := rfl
@[simp] theorem State.unpark_cxm (s : State) (q : Query) : (s.unpark q).cxm = s.cxm := rfl
@[simp] theorem State.unpark_ere (s : State) (q : Query) : (s.unpark q).ere = s.ere := rfl
@[simp] theorem State.unpark_stc (s : State) (q : Query) : (s.unpark q).stc = s.stc := rfl
@[simp] theorem State.unpark_mpt (s : State) (q : Query) : (s.unpark q).mpt = s.mpt := rfl
@[simp] theorem State.unpark_ppt (s : State) (q : Query) : (s.unpark q).ppt = s.ppt := rfl
@[simp] theorem State.unpark_powered (s : State) (q : Query) : (s.unpark q).powered = s.powered := rfl
@[simp] theorem State.unpark_freshCount (s : State) (q : Query) : (s.unpark q).freshCount = s.freshCount := rfl
@[simp] theorem State.unpark_pending (s : State) (q : Query) : (s.unpark q).pending = s.pending := rfl

/-! ### setKsc -/

@[simp] theorem State.setKsc_enu (s : State) (k : Ksc) : (s.setKsc k).enu = s.enu := rfl
@[simp] theorem State.setKsc_slt (s : State) (k : Ksc) : (s.setKsc k).slt = s.slt := rfl
@[simp] theorem State.setKsc_atg (s : State) (k : Ksc) : (s.setKsc k).atg = s.atg := rfl
@[simp] theorem State.setKsc_lkc (s : State) (k : Ksc) : (s.setKsc k).lkc = s.lkc := rfl
@[simp] theorem State.setKsc_rgt (s : State) (k : Ksc) : (s.setKsc k).rgt = s.rgt := rfl
@[simp] theorem State.setKsc_cxm (s : State) (k : Ksc) : (s.setKsc k).cxm = s.cxm := rfl
@[simp] theorem State.setKsc_dqq (s : State) (k : Ksc) : (s.setKsc k).dqq = s.dqq := rfl
@[simp] theorem State.setKsc_ere (s : State) (k : Ksc) : (s.setKsc k).ere = s.ere := rfl
@[simp] theorem State.setKsc_stc (s : State) (k : Ksc) : (s.setKsc k).stc = s.stc := rfl
@[simp] theorem State.setKsc_mpt (s : State) (k : Ksc) : (s.setKsc k).mpt = s.mpt := rfl
@[simp] theorem State.setKsc_ppt (s : State) (k : Ksc) : (s.setKsc k).ppt = s.ppt := rfl
@[simp] theorem State.setKsc_powered (s : State) (k : Ksc) : (s.setKsc k).powered = s.powered := rfl
@[simp] theorem State.setKsc_freshCount (s : State) (k : Ksc) : (s.setKsc k).freshCount = s.freshCount := rfl
@[simp] theorem State.setKsc_pending (s : State) (k : Ksc) : (s.setKsc k).pending = s.pending := rfl

/-! ### restartStandby -/

@[simp] theorem State.restartStandby_ksc (s : State) : (s.restartStandby).ksc = s.ksc := rfl
@[simp] theorem State.restartStandby_slt (s : State) : (s.restartStandby).slt = s.slt := rfl
@[simp] theorem State.restartStandby_atg (s : State) : (s.restartStandby).atg = s.atg := rfl
@[simp] theorem State.restartStandby_lkc (s : State) : (s.restartStandby).lkc = s.lkc := rfl
@[simp] theorem State.restartStandby_rgt (s : State) : (s.restartStandby).rgt = s.rgt := rfl
@[simp] theorem State.restartStandby_cxm (s : State) : (s.restartStandby).cxm = s.cxm := rfl
@[simp] theorem State.restartStandby_dqq (s : State) : (s.restartStandby).dqq = s.dqq := rfl
@[simp] theorem State.restartStandby_ere (s : State) : (s.restartStandby).ere = s.ere := rfl
@[simp] theorem State.restartStandby_stc (s : State) : (s.restartStandby).stc = s.stc := rfl
@[simp] theorem State.restartStandby_mpt (s : State) : (s.restartStandby).mpt = s.mpt := rfl
@[simp] theorem State.restartStandby_ppt (s : State) : (s.restartStandby).ppt = s.ppt := rfl
@[simp] theorem State.restartStandby_powered (s : State) : (s.restartStandby).powered = s.powered := rfl
@[simp] theorem State.restartStandby_freshCount (s : State) : (s.restartStandby).freshCount = s.freshCount := rfl
@[simp] theorem State.restartStandby_pending (s : State) : (s.restartStandby).pending = s.pending := rfl

/-! ### startEntry -/

@[simp] theorem State.startEntry_ksc (s : State) (p : Purpose) (b : List Digit) (o : Option EnrollOrder) : (s.startEntry p b o).ksc = s.ksc := rfl
@[simp] theorem State.startEntry_slt (s : State) (p : Purpose) (b : List Digit) (o : Option EnrollOrder) : (s.startEntry p b o).slt = s.slt := rfl
@[simp] theorem State.startEntry_atg (s : State) (p : Purpose) (b : List Digit) (o : Option EnrollOrder) : (s.startEntry p b o).atg = s.atg := rfl
@[simp] theorem State.startEntry_lkc (s : State) (p : Purpose) (b : List Digit) (o : Option EnrollOrder) : (s.startEntry p b o).lkc = s.lkc := rfl
@[simp] theorem State.startEntry_rgt (s : State) (p : Purpose) (b : List Digit) (o : Option EnrollOrder) : (s.startEntry p b o).rgt = s.rgt := rfl
@[simp] theorem State.startEntry_cxm (s : State) (p : Purpose) (b : List Digit) (o : Option EnrollOrder) : (s.startEntry p b o).cxm = s.cxm := rfl
@[simp] theorem State.startEntry_dqq (s : State) (p : Purpose) (b : List Digit) (o : Option EnrollOrder) : (s.startEntry p b o).dqq = s.dqq := rfl
@[simp] theorem State.startEntry_ere (s : State) (p : Purpose) (b : List Digit) (o : Option EnrollOrder) : (s.startEntry p b o).ere = s.ere := rfl
@[simp] theorem State.startEntry_stc (s : State) (p : Purpose) (b : List Digit) (o : Option EnrollOrder) : (s.startEntry p b o).stc = s.stc := rfl
@[simp] theorem State.startEntry_mpt (s : State) (p : Purpose) (b : List Digit) (o : Option EnrollOrder) : (s.startEntry p b o).mpt = s.mpt := rfl
@[simp] theorem State.startEntry_ppt (s : State) (p : Purpose) (b : List Digit) (o : Option EnrollOrder) : (s.startEntry p b o).ppt = s.ppt := rfl
@[simp] theorem State.startEntry_powered (s : State) (p : Purpose) (b : List Digit) (o : Option EnrollOrder) : (s.startEntry p b o).powered = s.powered := rfl
@[simp] theorem State.startEntry_freshCount (s : State) (p : Purpose) (b : List Digit) (o : Option EnrollOrder) : (s.startEntry p b o).freshCount = s.freshCount := rfl
@[simp] theorem State.startEntry_pending (s : State) (p : Purpose) (b : List Digit) (o : Option EnrollOrder) : (s.startEntry p b o).pending = s.pending := rfl

/-! ### setBoth -/

@[simp] theorem State.setBoth_ksc (s : State) (k : RangeIx) (r : RangeRecord) : (s.setBoth k r).ksc = s.ksc := rfl
@[simp] theorem State.setBoth_enu (s : State) (k : RangeIx) (r : RangeRecord) : (s.setBoth k r).enu = s.enu := rfl
@[simp] theorem State.setBoth_slt (s : State) (k : RangeIx) (r : RangeRecord) : (s.setBoth k r).slt = s.slt := rfl
@[simp] theorem State.setBoth_atg (s : State) (k : RangeIx) (r : RangeRecord) : (s.setBoth k r).atg = s.atg := rfl
@[simp] theorem State.setBoth_lkc (s : State) (k : RangeIx) (r : RangeRecord) : (s.setBoth k r).lkc = s.lkc := rfl
@[simp] theorem State.setBoth_cxm (s : State) (k : RangeIx) (r : RangeRecord) : (s.setBoth k r).cxm = s.cxm := rfl
@[simp] theorem State.setBoth_dqq (s : State) (k : RangeIx) (r : RangeRecord) : (s.setBoth k r).dqq = s.dqq := rfl
@[simp] theorem State.setBoth_ere (s : State) (k : RangeIx) (r : RangeRecord) : (s.setBoth k r).ere = s.ere := rfl
@[simp] theorem State.setBoth_stc (s : State) (k : RangeIx) (r : RangeRecord) : (s.setBoth k r).stc = s.stc := rfl
@[simp] theorem State.setBoth_mpt (s : State) (k : RangeIx) (r : RangeRecord) : (s.setBoth k r).mpt = s.mpt := rfl
@[simp] theorem State.setBoth_ppt (s : State) (k : RangeIx) (r : RangeRecord) : (s.setBoth k r).ppt = s.ppt := rfl
@[simp] theorem State.setBoth_powered (s : State) (k : RangeIx) (r : RangeRecord) : (s.setBoth k r).powered = s.powered := rfl
@[simp] theorem State.setBoth_freshCount (s : State) (k : RangeIx) (r : RangeRecord) : (s.setBoth k r).freshCount = s.freshCount := rfl
@[simp] theorem State.setBoth_pending (s : State) (k : RangeIx) (r : RangeRecord) : (s.setBoth k r).pending = s.pending := rfl

/-! ### clearSeen -/

@[simp] theorem State.clearSeen_ksc (s : State) : (s.clearSeen).ksc = s.ksc := rfl
@[simp] theorem State.clearSeen_enu (s : State) : (s.clearSeen).enu = s.enu := rfl
@[simp] theorem State.clearSeen_slt (s : State) : (s.clearSeen).slt = s.slt := rfl
@[simp] theorem State.clearSeen_lkc (s : State) : (s.clearSeen).lkc = s.lkc := rfl
@[simp] theorem State.clearSeen_rgt (s : State) : (s.clearSeen).rgt = s.rgt := rfl
@[simp] theorem State.clearSeen_cxm (s : State) : (s.clearSeen).cxm = s.cxm := rfl
@[simp] theorem State.clearSeen_dqq (s : State) : (s.clearSeen).dqq = s.dqq := rfl
@[simp] theorem State.clearSeen_ere (s : State) : (s.clearSeen).ere = s.ere := rfl
@[simp] theorem State.clearSeen_stc (s : State) : (s.clearSeen).stc = s.stc := rfl
@[simp] theorem State.clearSeen_mpt (s : State) : (s.clearSeen).mpt = s.mpt := rfl
@[simp] theorem State.clearSeen_ppt (s : State) : (s.clearSeen).ppt = s.ppt := rfl
@[simp] theorem State.clearSeen_powered (s : State) : (s.clearSeen).powered = s.powered := rfl
@[simp] theorem State.clearSeen_freshCount (s : State) : (s.clearSeen).freshCount = s.freshCount := rfl
@[simp] theorem State.clearSeen_pending (s : State) : (s.clearSeen).pending = s.pending := rfl

/-! ### sendSweep -/

@[simp] theorem State.sendSweep_ksc (s : State) (o : SweepOrder) : (s.sendSweep o).ksc = s.ksc := rfl
@[simp] theorem State.sendSweep_enu (s : State) (o : SweepOrder) : (s.sendSweep o).enu = s.enu := rfl
@[simp] theorem State.sendSweep_slt (s : State) (o : SweepOrder) : (s.sendSweep o).slt = s.slt := rfl
@[simp] theorem State.sendSweep_atg (s : State) (o : SweepOrder) : (s.sendSweep o).atg = s.atg := rfl
@[simp] theorem State.sendSweep_lkc (s : State) (o : SweepOrder) : (s.sendSweep o).lkc = s.lkc := rfl
@[simp] theorem State.sendSweep_rgt (s : State) (o : SweepOrder) : (s.sendSweep o).rgt = s.rgt := rfl
@[simp] theorem State.sendSweep_cxm (s : State) (o : SweepOrder) : (s.sendSweep o).cxm = s.cxm := rfl
@[simp] theorem State.sendSweep_dqq (s : State) (o : SweepOrder) : (s.sendSweep o).dqq = s.dqq := rfl
@[simp] theorem State.sendSweep_stc (s : State) (o : SweepOrder) : (s.sendSweep o).stc = s.stc := rfl
@[simp] theorem State.sendSweep_ppt (s : State) (o : SweepOrder) : (s.sendSweep o).ppt = s.ppt := rfl
@[simp] theorem State.sendSweep_powered (s : State) (o : SweepOrder) : (s.sendSweep o).powered = s.powered := rfl
@[simp] theorem State.sendSweep_freshCount (s : State) (o : SweepOrder) : (s.sendSweep o).freshCount = s.freshCount := rfl
@[simp] theorem State.sendSweep_pending (s : State) (o : SweepOrder) : (s.sendSweep o).pending = s.pending := rfl

/-! ### giveOrder -/

@[simp] theorem State.giveOrder_ksc (s : State) (c e : Lba) : (s.giveOrder c e).ksc = s.ksc := rfl
@[simp] theorem State.giveOrder_enu (s : State) (c e : Lba) : (s.giveOrder c e).enu = s.enu := rfl
@[simp] theorem State.giveOrder_slt (s : State) (c e : Lba) : (s.giveOrder c e).slt = s.slt := rfl
@[simp] theorem State.giveOrder_atg (s : State) (c e : Lba) : (s.giveOrder c e).atg = s.atg := rfl
@[simp] theorem State.giveOrder_lkc (s : State) (c e : Lba) : (s.giveOrder c e).lkc = s.lkc := rfl
@[simp] theorem State.giveOrder_rgt (s : State) (c e : Lba) : (s.giveOrder c e).rgt = s.rgt := rfl
@[simp] theorem State.giveOrder_cxm (s : State) (c e : Lba) : (s.giveOrder c e).cxm = s.cxm := rfl
@[simp] theorem State.giveOrder_dqq (s : State) (c e : Lba) : (s.giveOrder c e).dqq = s.dqq := rfl
@[simp] theorem State.giveOrder_stc (s : State) (c e : Lba) : (s.giveOrder c e).stc = s.stc := rfl
@[simp] theorem State.giveOrder_ppt (s : State) (c e : Lba) : (s.giveOrder c e).ppt = s.ppt := rfl
@[simp] theorem State.giveOrder_powered (s : State) (c e : Lba) : (s.giveOrder c e).powered = s.powered := rfl
@[simp] theorem State.giveOrder_freshCount (s : State) (c e : Lba) : (s.giveOrder c e).freshCount = s.freshCount := rfl
@[simp] theorem State.giveOrder_pending (s : State) (c e : Lba) : (s.giveOrder c e).pending = s.pending := rfl

end Sys2Proof.Machine
end

