-- ==== Sys2Proof/Laws/Store.lean ====
section
/-! SUPPORT. What the shared operations can do, said once: a flag, an image, an event, an offered write and that it is on
its way, an offered frame, the taking of a write, the gates. -/

namespace Sys2Proof.Machine

/-! ### Flags -/

/-- A flag set on a condition is the flag set, or nothing. -/
theorem State.setFlagIf_eq (s : State) (c : Bool) (f : Flag) : s.setFlagIf c f = if c then s.setFlag f else s := by
  cases c <;> rfl

/-! ### Images -/

/-- An image that a write has programmed reads as its contents, where these lie in their range (R160). -/
@[simp] theorem Image.read_image {α : Type} (f : CellFormat α) (seq : Byte) (x : α) (h : f.inRange x = true) :
    (f.image seq x).read f = some x := by simp [CellFormat.image, Image.read, h]

/-- A torn image reads damaged (R160). -/
@[simp] theorem Image.read_torn {α : Type} (f : CellFormat α) : (Image.torn : Image α).read f = none := rfl

/-- A failed write leaves its cell torn, where the rule of that write says so, or as its last attempt left it (R161). -/
theorem Cells.afterFailure_cases (c : Cells) (e : QueueEntry) :
    (c.failureDamages e = true ∧ c.afterFailure e = c.tear e.write) ∨
    (c.failureDamages e = false ∧ c.afterFailure e = c) := by
  cases h : c.failureDamages e <;> simp [Cells.afterFailure, h]

/-- A failed CFG write leaves a damaged cell (R90). -/
theorem Cells.afterFailure_cfg (c : Cells) (x : Settings) (a : Option Awaiter) :
    (c.afterFailure ⟨.cfg x, a⟩).cfg = .torn := rfl

/-- A failed journal write leaves a damaged cell (R147, R154). -/
theorem Cells.afterFailure_ejr (c : Cells) (j : Journal) (a : Option Awaiter) :
    (c.afterFailure ⟨.ejr j, a⟩).ejr = .torn := rfl

/-- A failed range write of an install or of the erase engine leaves a damaged cell (R112, R147). -/
theorem Cells.afterFailure_rng (c : Cells) (k : RangeIx) (r : RangeRecord) (a : Option Awaiter)
    (h : a ≠ some .firstEnrollment) : (c.afterFailure ⟨.rng k r, a⟩).rng[k] = .torn := by
  simp [Cells.afterFailure, Cells.failureDamages, Cells.tear, h]

/-- A failed slot write of a retirement or of the erase engine leaves a damaged cell (R53, R147). -/
theorem Cells.afterFailure_slt (c : Cells) (k : SlotIx) (r : SlotRecord) (a : Option Awaiter)
    (h : a = some .retirement ∨ a = some .erase) : (c.afterFailure ⟨.slt k r, a⟩).slt[k] = .torn := by
  simp [Cells.afterFailure, Cells.failureDamages, Cells.tear, h]

/-- A failed refund leaves no cell that holds its new value (R73). -/
theorem Cells.afterFailure_refund (c : Cells) (n : Nat) :
    (c.afterFailure ⟨.att n, some .refund⟩).att.read attFormat ≠ some n := by
  by_cases h : c.att.read attFormat = some n <;> simp [Cells.afterFailure, Cells.failureDamages, Cells.tear, h]

/-! ### Events -/

/-- An event at a part with supply: its effect, and the standby timer settled. -/
@[simp] theorem State.event_powered (s : State) (f : State → State) (h : s.powered = true) :
    s.event f = .next (f s).settleStandby := by simp [State.event, h]

/-- A part without supply takes no event. -/
@[simp] theorem State.event_unpowered (s : State) (f : State → State) (h : s.powered = false) :
    s.event f = .next s := by simp [State.event, h]

/-- An event always answers a next state. -/
theorem State.event_next (s : State) (f : State → State) : ∃ t, s.event f = .next t := by
  unfold State.event
  split <;> exact ⟨_, rfl⟩

/-- Every command has a meaning: it answers a next state. -/
theorem exec_next (c : Instr) (s : State) : ∃ t, exec c s = .next t := by
  cases c <;> simp only [exec,
    execSupplyStart, execSupplyLoss, execStoreReady, execKeyPressAccepted, execKeyReleaseAccepted,
    execPairingTimerExpiry, execChordTimerExpiry, execEntryTimerExpiry, execStandbyTimerExpiry, execStoreWriteEnd,
    execVerificationComplete, execUnlockCompletion, execEnrollBuildComplete, execFirstEnrollBuildComplete,
    execBackoffCheckpoint, execBackoffEnd, execIdleTimerExpiry, execAttachWindowExpiry, execAdminSessionExpiry,
    execMediaTransaction, execTransactionAbandoned, execMalformedFrame, execAccess, execAttach, execDetach,
    execHostlock, execKeyack, execKeyloadReplyTimeout, execPurgeack, execPurgeReplyTimeout, execRepeatTimerExpiry,
    execSwept, execLinkreset, execBadPanelRequest, execStatus, execAck, execSetAlertEnables, execLockRequest,
    execRestart, execRestartTakesEffect, execEnroll, execRemove, execSetRange, execDropRange, execSetSettings,
    execErase, execEndSession, execPfwEdge] <;>
    first | exact State.event_next _ _ | exact ⟨_, rfl⟩

/-! ### Admission -/

/-- An admission, where the store makes one, changes only the queue and the reserve list. -/
theorem Stc.admission_frame {q r : Stc} {k : OfferKind} {e : QueueEntry} (h : q.admission k e = some r) :
    r.cells = q.cells ∧ r.seq = q.seq ∧ r.faulty = q.faulty ∧ r.writing = q.writing ∧ r.ready = q.ready ∧
    r.cfg = q.cfg ∧ r.idn = q.idn := by
  unfold Stc.admission at h
  split at h
  · cases h; exact ⟨rfl, rfl, rfl, rfl, rfl, rfl, rfl⟩
  split at h
  · cases h; exact ⟨rfl, rfl, rfl, rfl, rfl, rfl, rfl⟩
  split at h
  · cases h; exact ⟨rfl, rfl, rfl, rfl, rfl, rfl, rfl⟩
  split at h
  · cases h; exact ⟨rfl, rfl, rfl, rfl, rfl, rfl, rfl⟩
  split at h
  · cases h; exact ⟨rfl, rfl, rfl, rfl, rfl, rfl, rfl⟩
  · cases h

/-- A write of a guard-group cell is admitted, whatever the kind of offer (R163). -/
theorem Stc.admission_guard (q : Stc) (k : OfferKind) (e : QueueEntry) (h : e.cell.isGuard = true) :
    ∃ r, q.admission k e = some r := by
  unfold Stc.admission
  simp only [h, if_true]
  split
  · exact ⟨_, rfl⟩
  · split <;> exact ⟨_, rfl⟩

/-- A reserved offer is admitted (R163). -/
theorem Stc.admission_reserved (q : Stc) (e : QueueEntry) : ∃ r, q.admission .reserved e = some r := by
  unfold Stc.admission
  repeat' split
  all_goals first | exact ⟨_, rfl⟩ | simp_all

/-- A refused offer changes nothing (R163). -/
theorem State.offer_refused {s : State} {k : OfferKind} {w : CellWrite} {a : Option Awaiter}
    (h : (s.offer k w a).2 = false) : (s.offer k w a).1 = s := by
  unfold State.offer at h ⊢
  split <;> simp_all

/-- Replacement in place keeps the cells of the entries, in their order (R162). -/
theorem replaceIn_cells (l : List QueueEntry) (e : QueueEntry) :
    (replaceIn l e).map QueueEntry.cell = l.map QueueEntry.cell := by
  unfold replaceIn
  rw [List.map_map]
  apply List.map_congr_left
  intro x _
  simp only [Function.comp_apply]
  split
  · next h => exact h.symm
  · rfl

/-- The taking of a write changes only the queue, the reserve list, the sequence and the write in progress. -/
theorem Stc.take_frame (q : Stc) :
    q.take.cells = q.cells ∧ q.take.faulty = q.faulty ∧ q.take.ready = q.ready ∧ q.take.cfg = q.cfg ∧
    q.take.idn = q.idn := by
  unfold Stc.take
  split <;> exact ⟨rfl, rfl, rfl, rfl, rfl⟩

/-- The store at the taking of a write: of State's fields, only the store changes. -/
theorem State.takeNext_eq (s : State) :
    s.takeNext = s ∨ s.takeNext = { s with stc := s.stc.take } := by
  unfold State.takeNext
  split
  · exact .inl rfl
  · exact .inr rfl

/-! ### Writes on their way -/

/-- The reserve entries that move keep every waiting write in the queue (R164). -/
theorem refill_mem {e : QueueEntry} (reserve : List QueueEntry) :
    ∀ {queue : List QueueEntry}, e ∈ queue → e ∈ (refill queue reserve).1 := by
  induction reserve with
  | nil => exact fun h => h
  | cons x l ih =>
    intro queue h
    unfold refill
    split
    · exact ih (List.mem_append_left _ h)
    · exact h

/-- The entry the store takes next waits in the queue (R165). -/
theorem nextEntry_mem {queue : List QueueEntry} {e : QueueEntry} (h : nextEntry queue = some e) : e ∈ queue := by
  unfold nextEntry at h
  cases hf : queue.find? (fun e => e.cell.isGuard) with
  | some x =>
    rw [hf] at h
    cases h
    exact List.mem_of_find?_eq_some hf
  | none =>
    rw [hf] at h
    exact List.mem_of_head? h

/-- In a list with one entry a cell, an entry is known by its cell (R162). -/
theorem eq_of_cell {l : List QueueEntry} (h : (l.map QueueEntry.cell).Nodup) {x y : QueueEntry} (hx : x ∈ l) (hy : y ∈ l)
    (c : x.cell = y.cell) : x = y := List.inj_on_of_nodup_map h hx hy c

/-- The taking of a write keeps every write on its way (R165). -/
theorem Stc.take_carries {q : Stc} {e : QueueEntry} (h : (q.queue.map QueueEntry.cell).Nodup) (he : q.carries e) :
    q.take.carries e := by
  unfold Stc.take
  split
  · rename_i x hw hn
    rcases he with he | he
    · by_cases c : e.cell = x.cell
      · exact .inr (by simp [eq_of_cell h he (nextEntry_mem hn) c])
      · exact .inl (refill_mem _ (by simpa using (List.mem_eraseP_of_neg (by simpa using c)).mpr he))
    · simp [hw] at he
  · exact he

/-- A guard-group offer stands in the queue, with what its block awaits (R162, R163). -/
theorem Stc.admission_guard_mem {q r : Stc} {k : OfferKind} {e : QueueEntry} (h : q.admission k e = some r)
    (hl : q.lawful) (g : e.cell.isGuard = true) :
    ∃ x ∈ r.queue, x.write = e.write ∧ ∀ a, e.awaiter = some a → x.awaiter = some a := by
  have hr : holdsCell q.reserve e.cell = false := by
    rw [Bool.eq_false_iff]
    intro hh
    obtain ⟨x, hx, hc⟩ := List.any_eq_true.mp hh
    have := hl.2.2.2.1 x hx
    simp_all
  unfold Stc.admission at h
  split at h
  · next hq =>
    cases h
    obtain ⟨x, hx, hc⟩ := List.any_eq_true.mp hq
    refine ⟨{ e with awaiter := e.awaiter.or x.awaiter }, ?_, rfl, fun a ha => by simp [ha]⟩
    exact List.mem_map.mpr ⟨x, hx, by simp_all⟩
  · simp only [hr] at h
    cases h
    exact ⟨e, by simp, rfl, fun _ ha => ha⟩

/-- An admission keeps one entry a cell in the queue (R162). -/
theorem Stc.admission_nodup {q r : Stc} {k : OfferKind} {e : QueueEntry} (h : q.admission k e = some r)
    (hl : q.lawful) : (r.queue.map QueueEntry.cell).Nodup := by
  have new : holdsCell q.queue e.cell = false → ((q.queue ++ [e]).map QueueEntry.cell).Nodup := by
    intro hn
    rw [List.map_append, List.nodup_append]
    refine ⟨hl.1, by simp, ?_⟩
    rintro c hc d hd rfl
    obtain ⟨x, hx, rfl⟩ := List.mem_map.mp hc
    simp only [List.map_cons, List.map_nil, List.mem_singleton] at hd
    have : holdsCell q.queue e.cell = true := List.any_eq_true.mpr ⟨x, hx, by simp [hd]⟩
    simp_all
  unfold Stc.admission at h
  split at h
  · cases h; simpa [replaceIn_cells] using hl.1
  split at h
  · cases h; exact hl.1
  split at h
  · cases h; exact new (by simp_all)
  split at h
  · cases h; exact new (by simp_all)
  split at h
  · cases h; exact hl.1
  · cases h

/-- A guard-group write that is offered is on its way, with what its block awaits (R161, R163). -/
theorem State.offerGuard_carries (s : State) (w : CellWrite) (a : Option Awaiter) (hl : s.stc.lawful)
    (g : w.cell.isGuard = true) :
    ∃ x, (s.offerGuard w a).stc.carries x ∧ x.write = w ∧ ∀ b, a = some b → x.awaiter = some b := by
  obtain ⟨q, h⟩ := s.stc.admission_guard .ordinary { write := w, awaiter := a } g
  obtain ⟨x, hx, hw, ha⟩ := Stc.admission_guard_mem h hl g
  have hn := Stc.admission_nodup h hl
  have e1 : (State.setWorking { s with stc := q } w).stc.queue = q.queue ∧
      (State.setWorking { s with stc := q } w).stc.carries x := by
    cases w <;> exact ⟨rfl, .inl hx⟩
  refine ⟨x, ?_, hw, ha⟩
  unfold State.offerGuard State.offer
  simp only [h]
  rcases State.takeNext_eq (State.setWorking { s with stc := q } w) with e | e <;> simp only [e]
  · exact e1.2
  · exact Stc.take_carries (by rw [e1.1]; exact hn) e1.2

/-! ### Admitted writes -/

/-- The reserve entries that move to the queue are the same writes in the queue and the reserve list together (R164). -/
theorem refill_owed {e : QueueEntry} (reserve : List QueueEntry) : ∀ queue : List QueueEntry,
    (e ∈ (refill queue reserve).1 ∨ e ∈ (refill queue reserve).2) ↔ (e ∈ queue ∨ e ∈ reserve) := by
  induction reserve with
  | nil => intro queue; exact Iff.rfl
  | cons x l ih =>
    intro queue
    unfold refill
    split
    · rw [ih]; simp [or_assoc]
    · exact Iff.rfl

/-- The entry the store takes next is the first of its cell in the queue (R165). -/
theorem nextEntry_erase {queue : List QueueEntry} {x e : QueueEntry} (h : nextEntry queue = some x) :
    (e ∈ queue.eraseP (fun y => y.cell = x.cell) ∨ e = x) ↔ e ∈ queue := by
  have first : queue.find? (fun y => decide (y.cell = x.cell)) = some x := by
    unfold nextEntry at h
    induction queue with
    | nil => simp at h
    | cons y l ih =>
      by_cases hg : y.cell.isGuard = true
      · simp only [List.find?_cons, hg, Option.some_or] at h
        cases h
        simp
      · have hg' : y.cell.isGuard = false := by simpa using hg
        simp only [List.find?_cons, hg', List.head?_cons] at h
        cases hf : l.find? (fun e => e.cell.isGuard) with
        | none =>
          rw [hf] at h
          cases h
          simp
        | some z =>
          rw [hf] at h
          cases h
          have hz : x.cell.isGuard = true :=
            List.find?_some (p := fun y : QueueEntry => y.cell.isGuard) hf
          have hne : y.cell ≠ x.cell := fun c => by rw [c, hz] at hg'; cases hg'
          simp only [List.find?_cons, hne, decide_false]
          exact ih (by simp [hf])
  clear h
  induction queue with
  | nil => simp at first
  | cons y l ih =>
    by_cases hy : y.cell = x.cell
    · simp only [List.find?_cons, hy, decide_true] at first
      cases first
      simp [or_comm]
    · simp only [List.find?_cons, hy, decide_false] at first
      have := ih first
      simp only [List.eraseP_cons, hy, decide_false, cond_false, List.mem_cons]
      tauto

/-- The taking of a write keeps every admitted write, and makes none (R164, R165). -/
theorem Stc.take_owes (q : Stc) (e : QueueEntry) : q.take.owes e ↔ q.owes e := by
  unfold Stc.take
  split
  · rename_i x hw hn
    have moved := refill_owed (e := e) q.reserve (q.queue.eraseP (fun y => y.cell = x.cell))
    have taken := nextEntry_erase (e := e) hn
    unfold Stc.owes Stc.carries
    simp only [hw, Option.map_some, Option.map_none, Option.some.injEq, reduceCtorEq, or_false, eq_comm (a := x)]
    tauto
  · exact Iff.rfl

/-- An admission neither makes nor drops a write of another cell (R162, R163). -/
theorem Stc.admission_owes {q r : Stc} {k : OfferKind} {e x : QueueEntry} (h : q.admission k e = some r)
    (hx : x.cell ≠ e.cell) : r.owes x ↔ q.owes x := by
  have kept (l : List QueueEntry) : x ∈ replaceIn l e ↔ x ∈ l := by
    unfold replaceIn
    rw [List.mem_map]
    constructor
    · rintro ⟨y, hy, rfl⟩
      split at hx
      · next c => exact absurd rfl hx
      · next c => rw [if_neg c]; exact hy
    · intro hl
      exact ⟨x, hl, if_neg hx⟩
  have new (l : List QueueEntry) : x ∈ l ++ [e] ↔ x ∈ l := by
    have : x ≠ e := fun c => hx (c ▸ rfl)
    simp [this]
  unfold Stc.admission at h
  unfold Stc.owes Stc.carries
  split at h
  · cases h; simp only [kept]
  split at h
  · cases h; simp only [kept]
  split at h
  · cases h; simp only [new]
  split at h
  · cases h; simp only [new]
  split at h
  · cases h; simp only [new]
  · cases h

/-- An admitted write is owed, with what its block awaits (R161 to R163). -/
theorem Stc.admission_owed {q r : Stc} {k : OfferKind} {e : QueueEntry} (h : q.admission k e = some r) :
    ∃ x, r.owes x ∧ x.write = e.write ∧ ∀ a, e.awaiter = some a → x.awaiter = some a := by
  have kept (l : List QueueEntry) (hl : holdsCell l e.cell = true) :
      ∃ x ∈ replaceIn l e, x.write = e.write ∧ ∀ a, e.awaiter = some a → x.awaiter = some a := by
    obtain ⟨x, hx, hc⟩ := List.any_eq_true.mp hl
    refine ⟨{ e with awaiter := e.awaiter.or x.awaiter }, ?_, rfl, fun a ha => by simp [ha]⟩
    exact List.mem_map.mpr ⟨x, hx, by simp_all⟩
  unfold Stc.admission at h
  split at h
  · next hq => cases h; obtain ⟨x, hx, hw⟩ := kept _ hq; exact ⟨x, .inl (.inl hx), hw⟩
  split at h
  · next hq => cases h; obtain ⟨x, hx, hw⟩ := kept _ hq; exact ⟨x, .inr hx, hw⟩
  split at h
  · cases h; exact ⟨e, .inl (.inl (by simp)), rfl, fun _ ha => ha⟩
  split at h
  · cases h; exact ⟨e, .inl (.inl (by simp)), rfl, fun _ ha => ha⟩
  split at h
  · cases h; exact ⟨e, .inr (by simp), rfl, fun _ ha => ha⟩
  · cases h

/-- What an offer does to the admitted writes: those of other cells stand, whether it is admitted or not (R162 to R165). -/
theorem State.offer_owes (s : State) (k : OfferKind) (w : CellWrite) (a : Option Awaiter) (x : QueueEntry)
    (hx : x.cell ≠ w.cell) : (s.offer k w a).1.stc.owes x ↔ s.stc.owes x := by
  unfold State.offer
  split
  · rename_i q h
    have e : (State.setWorking { s with stc := q } w).stc.owes x ↔ q.owes x := by cases w <;> exact Iff.rfl
    have all := e.trans (Stc.admission_owes h hx)
    rcases State.takeNext_eq (State.setWorking { s with stc := q } w) with t | t <;> simp only [t]
    · exact all
    · exact (Stc.take_owes _ x).trans all
  · exact Iff.rfl

/-- A reserved offer's write is owed, with what its block awaits (R163). -/
theorem State.offerReserved_owed (s : State) (w : CellWrite) (a : Option Awaiter) :
    ∃ x, (s.offerReserved w a).stc.owes x ∧ x.write = w ∧ ∀ b, a = some b → x.awaiter = some b := by
  obtain ⟨q, h⟩ := s.stc.admission_reserved { write := w, awaiter := a }
  obtain ⟨x, hx, hw⟩ := Stc.admission_owed h
  refine ⟨x, ?_, hw⟩
  unfold State.offerReserved State.offer
  simp only [h]
  have e : (State.setWorking { s with stc := q } w).stc.owes x := by cases w <;> exact hx
  rcases State.takeNext_eq (State.setWorking { s with stc := q } w) with t | t <;> simp only [t]
  · exact e
  · exact (Stc.take_owes _ x).mpr e

/-! ### The outbound queue -/

/-- An offered order frame changes neither the attached flag, the capacity nor the transaction. -/
theorem Mpt.offerOrder_frame (m : Mpt) (f : OutFrame) :
    (m.offerOrder f).1.attached = m.attached ∧ (m.offerOrder f).1.capacity = m.capacity ∧
    (m.offerOrder f).1.transaction = m.transaction := by
  unfold Mpt.offerOrder Mpt.appendOrder
  repeat' split
  all_goals exact ⟨rfl, rfl, rfl⟩

/-- A STATE notice is always told or pending: it stands at the tail, or the STATE-pending mark is set (R178). -/
theorem Mpt.offerOrder_state (m : Mpt) (l : LockState) :
    (m.offerOrder (.state l)).1.outbound.getLast? = some (.state l) ∨
    (m.offerOrder (.state l)).1.statePending = true := by
  unfold Mpt.offerOrder Mpt.appendOrder
  repeat' split
  all_goals first | (left; simp; done) | (right; rfl) | simp_all [OutFrame.isState]

/-! ### The gates -/

/-- A request that a gate refuses changes the reply buffer, the session timer at gate 5, and what its arrival changes,
alone (R185). -/
theorem State.panelRequest_refused {s : State} {kind : RequestKind} {coded : Bool} {r : ReplyResult}
    (refused : ReplyResult → Reply) (act : State → State) (h : s.requestTaken.gate kind coded = some r)
    (hr : r ≠ .format) : s.panelRequest kind coded refused act = s.requestTaken.setReply (refused r) := by
  unfold State.panelRequest
  simp only [h]
  simp [hr]

/-- A request that reaches gate 6 is acted on. -/
theorem State.panelRequest_acted {s : State} {kind : RequestKind} {coded : Bool}
    (refused : ReplyResult → Reply) (act : State → State) (h : s.requestTaken.gate kind coded = none) :
    s.panelRequest kind coded refused act = act s.requestTaken := by
  unfold State.panelRequest
  simp only [h]

end Sys2Proof.Machine
end

