-- ==== Sys2Proof/Laws/Frames.lean ====
section
/-! SUPPORT. What the compound operations can do, said once: an offer, a purge of every entry of some ranges, the install,
the lock procedure, a transaction. -/

namespace Sys2Proof.Machine

/-! ### Offers -/

/-- An offered write changes, beside the store's queue, the working copy it names alone. -/
theorem State.offer_frame (s : State) (k : OfferKind) (w : CellWrite) (a : Option Awaiter) :
    (s.offer k w a).1.ksc = s.ksc ∧ (s.offer k w a).1.enu = s.enu ∧ (s.offer k w a).1.lkc = s.lkc ∧
    (s.offer k w a).1.cxm = s.cxm ∧ (s.offer k w a).1.dqq = s.dqq ∧ (s.offer k w a).1.mpt = s.mpt ∧
    (s.offer k w a).1.ppt = s.ppt ∧ (s.offer k w a).1.powered = s.powered ∧
    (s.offer k w a).1.freshCount = s.freshCount ∧ (s.offer k w a).1.pending = s.pending := by
  unfold State.offer
  split
  · rename_i q _
    rcases State.takeNext_eq (State.setWorking { s with stc := q } w) with e | e <;> simp only [e] <;> cases w <;>
      simp [State.setWorking]
  · simp

/-- An offered write leaves the cells, the faulty marks, store-ready and the identity. -/
theorem State.offer_stc (s : State) (k : OfferKind) (w : CellWrite) (a : Option Awaiter) :
    (s.offer k w a).1.stc.cells = s.stc.cells ∧ (s.offer k w a).1.stc.faulty = s.stc.faulty ∧
    (s.offer k w a).1.stc.ready = s.stc.ready ∧ (s.offer k w a).1.stc.idn = s.stc.idn := by
  unfold State.offer
  split
  · rename_i q h
    obtain ⟨h1, -, h3, -, h5, -, h7⟩ := Stc.admission_frame h
    rcases State.takeNext_eq (State.setWorking { s with stc := q } w) with e | e <;> simp only [e] <;> cases w <;>
      simp [State.setWorking, h1, h3, h5, h7, (Stc.take_frame _).1, (Stc.take_frame _).2.1, (Stc.take_frame _).2.2.1,
        (Stc.take_frame _).2.2.2.2]
  · simp

/-- A reserved offer of a range record makes it the live record, and changes nothing else of the range table. -/
theorem State.offerReserved_rng (s : State) (k : RangeIx) (r : RangeRecord) (a : Option Awaiter) :
    (s.offerReserved (.rng k r) a).rgt = { s.rgt with live := s.rgt.live.set k r } ∧
    (s.offerReserved (.rng k r) a).slt = s.slt ∧ (s.offerReserved (.rng k r) a).atg = s.atg ∧
    (s.offerReserved (.rng k r) a).ere = s.ere := by
  unfold State.offerReserved State.offer
  obtain ⟨q, h⟩ := Stc.admission_reserved s.stc { write := .rng k r, awaiter := a }
  simp only [h]
  rcases State.takeNext_eq (State.setWorking { s with stc := q } (.rng k r)) with e | e <;> simp only [e] <;>
    simp [State.setWorking]

/-! ### Purges -/

/-- The start of a purge changes the context map and the outbound queue alone. -/
theorem State.startPurge_eq (s : State) (i : CtxIx) (r : RangeIx) :
    ∃ c m, s.startPurge i r = { s with cxm := c, mpt := m } ∧ c.lru = s.cxm.lru ∧
      m.attached = s.mpt.attached ∧ m.capacity = s.mpt.capacity ∧ m.transaction = s.mpt.transaction ∧
      ∃ o t, c.entries = s.cxm.entries.set i (.purging r o t) := by
  refine ⟨(s.startPurge i r).cxm, (s.startPurge i r).mpt, rfl, rfl, ?_, ?_, ?_, _, _, rfl⟩
  · exact (Mpt.offerOrder_frame _ _).1
  · exact (Mpt.offerOrder_frame _ _).2.1
  · exact (Mpt.offerOrder_frame _ _).2.2

/-- One step of a purge: context i is put into PURGING where its range is to be purged. -/
def State.purgeOne (p : RangeIx → Bool) (s : State) (i : CtxIx) : State :=
  match s.cxm.entries[i].heldRange with
  | some r => if p r then s.startPurge i r else s
  | none => s

/-- The purge is the four contexts' steps in order. -/
theorem State.purgeWhere_steps (s : State) (p : RangeIx → Bool) :
    s.purgeWhere p = (((s.purgeOne p 0).purgeOne p 1).purgeOne p 2).purgeOne p 3 := rfl

/-- A step of a purge changes the context map's entries and order counter and the outbound queue alone; context i then
holds no range to be purged, and the others stand. -/
theorem State.purgeOne_spec (p : RangeIx → Bool) (s : State) (i : CtxIx) :
    ∃ c m, s.purgeOne p i = { s with cxm := c, mpt := m } ∧ c.lru = s.cxm.lru ∧
      m.attached = s.mpt.attached ∧ m.capacity = s.mpt.capacity ∧ m.transaction = s.mpt.transaction ∧
      (∀ r, c.entries[i].heldRange = some r → p r = false ∧ s.cxm.entries[i].heldRange = some r) ∧
      (∀ j : CtxIx, j ≠ i → c.entries[j] = s.cxm.entries[j]) := by
  unfold State.purgeOne
  split
  · rename_i r hr
    split
    · obtain ⟨c, m, h, hl, ha, hc, ht, o, t, he⟩ := s.startPurge_eq i r
      refine ⟨c, m, h, hl, ha, hc, ht, ?_, ?_⟩
      · intro q hq
        simp [he, ContextEntry.heldRange] at hq
      · intro j hj
        have : (i : Nat) ≠ j := fun e => hj (Fin.ext e.symm)
        simp [he, this]
    · exact ⟨s.cxm, s.mpt, rfl, rfl, rfl, rfl, rfl, fun q hq => by simp_all, fun _ _ => rfl⟩
  · exact ⟨s.cxm, s.mpt, rfl, rfl, rfl, rfl, rfl, fun q hq => by simp_all, fun _ _ => rfl⟩

/-- A purge changes the context map's entries and order counter and the outbound queue alone, and leaves an entry held
only where its range was not to be purged (R7 step 5, R135). -/
theorem State.purgeWhere_spec (s : State) (p : RangeIx → Bool) :
    ∃ c m, s.purgeWhere p = { s with cxm := c, mpt := m } ∧ c.lru = s.cxm.lru ∧
      m.attached = s.mpt.attached ∧ m.capacity = s.mpt.capacity ∧ m.transaction = s.mpt.transaction ∧
      (∀ i : CtxIx, ∀ r, c.entries[i].heldRange = some r → p r = false ∧ s.cxm.entries[i].heldRange = some r) := by
  rw [State.purgeWhere_steps]
  obtain ⟨c0, m0, h0, l0, a0, k0, t0, p0, q0⟩ := s.purgeOne_spec p 0
  rw [h0]
  obtain ⟨c1, m1, h1, l1, a1, k1, t1, p1, q1⟩ := ({ s with cxm := c0, mpt := m0 } : State).purgeOne_spec p 1
  rw [h1]
  obtain ⟨c2, m2, h2, l2, a2, k2, t2, p2, q2⟩ := ({ s with cxm := c1, mpt := m1 } : State).purgeOne_spec p 2
  rw [h2]
  obtain ⟨c3, m3, h3, l3, a3, k3, t3, p3, q3⟩ := ({ s with cxm := c2, mpt := m2 } : State).purgeOne_spec p 3
  rw [h3]
  refine ⟨c3, m3, rfl, ?_, ?_, ?_, ?_, ?_⟩
  · simp_all
  · simp_all
  · simp_all
  · simp_all
  · intro i r h
    match i with
    | 0 =>
      have e1 := q1 0 (by decide); have e2 := q2 0 (by decide); have e3 := q3 0 (by decide)
      simp only at e1 e2 e3
      rw [e3, e2, e1] at h
      exact p0 r h
    | 1 =>
      have e0 := q0 1 (by decide); have e2 := q2 1 (by decide); have e3 := q3 1 (by decide)
      simp only at e2 e3
      rw [e3, e2] at h
      have := p1 r h
      simp only at this
      rwa [e0] at this
    | 2 =>
      have e0 := q0 2 (by decide); have e1 := q1 2 (by decide); have e3 := q3 2 (by decide)
      simp only at e1 e3
      rw [e3] at h
      have := p2 r h
      simp only at this
      rwa [e1, e0] at this
    | 3 =>
      have e0 := q0 3 (by decide); have e1 := q1 3 (by decide); have e2 := q2 3 (by decide)
      simp only at e1 e2
      have := p3 r h
      simp only at this
      rwa [e2, e1, e0] at this

/-! ### The install (R8, R111) -/

/-- A reserved offer of a range record changes the live record and the store alone. -/
theorem State.offerReserved_rng_eq (s : State) (k : RangeIx) (r : RangeRecord) (a : Option Awaiter) :
    ∃ q, s.offerReserved (.rng k r) a =
      { s with rgt := { s.rgt with live := s.rgt.live.set k r }, stc := q } ∧ q.cells = s.stc.cells ∧ q.cfg = s.stc.cfg := by
  unfold State.offerReserved State.offer
  obtain ⟨q, h⟩ := Stc.admission_reserved s.stc { write := .rng k r, awaiter := a }
  simp only [h]
  obtain ⟨hc, -, -, -, -, hg, -⟩ := Stc.admission_frame h
  rcases State.takeNext_eq (State.setWorking { s with stc := q } (.rng k r)) with e | e <;> simp only [e]
  · exact ⟨q, rfl, hc, hg⟩
  · exact ⟨q.take, rfl, (Stc.take_frame q).1.trans hc, (Stc.take_frame q).2.2.2.1.trans hg⟩

/-- The writes of an install make each listed record live, and change the store and the live table alone. -/
theorem State.installWrites_eq (staged : Vector RangeRecord 8) (l : List RangeIx) (s : State) :
    ∃ live q, l.foldl (fun s k => s.offerReserved (.rng k staged[k]) none) s =
      { s with rgt := { s.rgt with live := live }, stc := q } ∧ q.cells = s.stc.cells ∧ q.cfg = s.stc.cfg ∧
      ∀ k : RangeIx, live[k] = if k ∈ l then staged[k] else s.rgt.live[k] := by
  induction l generalizing s with
  | nil => exact ⟨s.rgt.live, s.stc, rfl, rfl, rfl, fun k => by simp⟩
  | cons j l ih =>
    obtain ⟨q, h, hc, hg⟩ := s.offerReserved_rng_eq j staged[j] none
    rw [List.foldl_cons, h]
    obtain ⟨live, q', h', hc', hg', hl⟩ :=
      ih { s with rgt := { s.rgt with live := s.rgt.live.set j staged[j] }, stc := q }
    refine ⟨live, q', h', hc'.trans hc, hg'.trans hg, fun k => ?_⟩
    rw [hl k]
    by_cases hk : k ∈ l
    · simp [hk]
    · by_cases hj : k = j
      · subst hj; simp [hk]
      · have : (j : Nat) ≠ k := fun e => hj (Fin.ext e.symm)
        simp [hk, hj, this]

/-- One range brought into line changes the key buffer, the context map and the outbound queue alone. -/
theorem State.alignRange_eq (s : State) (k : RangeIx) (old new : RangeRecord) :
    ∃ b c m, s.alignRange k old new =
      { s with lkc := { s.lkc with keyBuffer := b }, cxm := c, mpt := m } ∧ c.lru = s.cxm.lru ∧
      m.attached = s.mpt.attached ∧ m.capacity = s.mpt.capacity := by
  unfold State.alignRange
  split
  · obtain ⟨c, m, h, hl, ha, hc, -, -⟩ := (s.setPosition k (s.publicKey new)).purgeWhere_spec (fun r => r = k)
    exact ⟨_, c, m, h, hl, ha, hc⟩
  · exact ⟨_, s.cxm, s.mpt, rfl, rfl, rfl, rfl⟩

/-- Ranges brought into line in turn change the key buffer, the context map and the outbound queue alone. -/
theorem State.alignRanges_eq (old new : Vector RangeRecord 8) (l : List RangeIx) (s : State) :
    ∃ b c m, l.foldl (fun s k => s.alignRange k old[k] new[k]) s =
      { s with lkc := { s.lkc with keyBuffer := b }, cxm := c, mpt := m } ∧ c.lru = s.cxm.lru ∧
      m.attached = s.mpt.attached ∧ m.capacity = s.mpt.capacity := by
  induction l generalizing s with
  | nil => exact ⟨s.lkc.keyBuffer, s.cxm, s.mpt, rfl, rfl, rfl, rfl⟩
  | cons j l ih =>
    obtain ⟨b, c, m, h, hl, ha, hc⟩ := s.alignRange_eq j old[j] new[j]
    rw [List.foldl_cons, h]
    obtain ⟨b', c', m', h', hl', ha', hc'⟩ :=
      ih { s with lkc := { s.lkc with keyBuffer := b }, cxm := c, mpt := m }
    exact ⟨b', c', m', h', hl'.trans hl, ha'.trans ha, hc'.trans hc⟩

/-- The install makes the staged table live and clears the dirty mark; beside the range table it changes the store's
queue, the key buffer, the context map and the outbound queue alone (R8, R111). -/
theorem State.install_spec (s : State) :
    ∃ b c m q, s.install =
      { s with rgt := { live := s.rgt.staged, staged := s.rgt.staged, dirty := false }, stc := q,
               lkc := { s.lkc with keyBuffer := b }, cxm := c, mpt := m } ∧
      q.cells = s.stc.cells ∧ q.cfg = s.stc.cfg ∧ c.lru = s.cxm.lru ∧ m.attached = s.mpt.attached ∧
      m.capacity = s.mpt.capacity := by
  unfold State.install
  obtain ⟨live, q, h, hc, hg, hl⟩ := State.installWrites_eq s.rgt.staged s.rgt.changed s
  have all : live = s.rgt.staged := by
    apply Vector.ext
    intro i hi
    have := hl ⟨i, hi⟩
    simp only [Fin.getElem_fin] at this
    rw [this]
    split
    · rfl
    · rename_i hn
      have mem : (⟨i, hi⟩ : RangeIx) ∈ allRanges := by
        generalize (⟨i, hi⟩ : RangeIx) = k
        revert k
        decide
      simp only [Rgt.changed, List.mem_filter, mem, true_and, Fin.getElem_fin] at hn
      simpa using Eq.symm (by simpa using hn)
  simp only [h]
  obtain ⟨b, c, m, h', hl', ha', hc'⟩ := State.alignRanges_eq s.rgt.live s.rgt.staged s.rgt.changed
    { s with rgt := { s.rgt with live := live, dirty := false }, stc := q }
  subst all
  exact ⟨b, c, m, q, h', hc, hg, hl', ha', hc'⟩

/-! ### The lock procedure (R7) -/

/-- The key buffer with the closed positions zeroised holds public keys alone. -/
theorem Lkc.zeroiseClosed_pub (l : Lkc) (k : RangeIx) (b : BufferKey) (h : l.zeroiseClosed.keyBuffer[k] = some b) :
    b.cls = .pub := by
  unfold Lkc.zeroiseClosed tab8 at h
  match k with
  | 0 | 1 | 2 | 3 | 4 | 5 | 6 | 7 =>
    revert h
    simp only [Fin.getElem_fin]
    intro h
    simp at h
    split at h
    · split at h
      · cases h; assumption
      · cases h
    · cases h

/-- What every lock procedure leaves: LOCKED, no session, no role, no mask, both lock timers at rest, no parked query, no
drive key, LOCKED pending. -/
theorem State.lockProcedure_lkc (s : State) (reason : LockReason) :
    (s.lockProcedure reason).lkc.lockState = some .locked ∧ (s.lockProcedure reason).lkc.session = false ∧
    (s.lockProcedure reason).lkc.sessionTimer = .held ∧ (s.lockProcedure reason).lkc.role = none ∧
    (s.lockProcedure reason).lkc.mask = 0 ∧ (s.lockProcedure reason).lkc.idleTimer = .held ∧
    (s.lockProcedure reason).lkc.windowTimer = .stopped ∧ (s.lockProcedure reason).dqq = [] ∧
    (s.lockProcedure reason).slt = { s.slt with driveKey := none } ∧ (s.lockProcedure reason).atg = s.atg ∧
    (s.lockProcedure reason).ere = s.ere ∧ (s.lockProcedure reason).ksc = s.ksc ∧
    (s.lockProcedure reason).stc.cells = s.stc.cells ∧ (s.lockProcedure reason).freshCount = s.freshCount ∧
    (s.lockProcedure reason).powered = s.powered ∧ (s.lockProcedure reason).pending = s.pending ∧
    (s.lockProcedure reason).mpt.attached = s.mpt.attached ∧
    (s.lockProcedure reason).mpt.capacity = s.mpt.capacity := by
  unfold State.lockProcedure
  extract_lets s1 s2 l2 s3 s4 live s5 s6 s7 l7 s8 s9 s10 s11 x y
  obtain ⟨c, m, h5, -, ha, hc, -, -⟩ := s4.purgeWhere_spec (fun r => live[r].isClosed)
  have e7 : ∃ b c' m' q g, s7 = { s6 with
      rgt := g, stc := q, lkc := { s6.lkc with keyBuffer := b }, cxm := c', mpt := m' } ∧
      q.cells = s6.stc.cells ∧ m'.attached = s6.mpt.attached ∧ m'.capacity = s6.mpt.capacity := by
    by_cases hd : (s6.rgt.dirty && reason != .erase) = true
    · obtain ⟨b, c', m', q, h, h1, -, -, h4, h5⟩ := s6.install_spec
      exact ⟨b, c', m', q, _, by simp only [s7, hd, if_true]; exact h, h1, h4, h5⟩
    · exact ⟨s6.lkc.keyBuffer, s6.cxm, s6.mpt, s6.stc, s6.rgt, by simp only [s7, hd]; rfl, rfl, rfl, rfl⟩
  obtain ⟨b, c', m', q, g, h7, hq, ha', hc'⟩ := e7
  have h5' : s5 = { s4 with cxm := c, mpt := m } := h5
  have ho := Mpt.offerOrder_frame m' (.state .locked)
  clear_value s7 s5
  subst h5'
  subst h7
  simp only [s6] at hq ha' hc'
  simp [x, y, s11, s10, s9, s8, l7, s6, s4, s3, l2, s2, s1, State.sendState, State.sendOrder, hq, ha', hc', ha, hc, ho,
    State.setLockState, State.closeSession, Lkc.closeSession, Lkc.zeroiseClosed]

end Sys2Proof.Machine
end

