-- ==== Sys2Proof/Tests/Slice0.lean ====
section
/-! SUPPORT. Tests: the WellFormed smoke tests, worked values of the manual, and for each statement of the certificate a
state and operands that meet its premises, clause by clause. -/

namespace Sys2Proof.Tests

open Sys2Proof Sys2Proof.Machine

set_option maxRecDepth 8000

/-! ### WellFormed refuses -/

/-- An ACCESS tag above 15 (R115). -/
theorem test_wf_access_tag : Instr.wellFormed (.access true 16 0 1 .read) = false := by decide

/-- An abandoned transaction of 44 bytes is none (R174). -/
theorem test_wf_abandoned : Instr.wellFormed (.transactionAbandoned 44) = false := by decide

/-- A transaction that does not carry 44 bytes (R174). -/
theorem test_wf_malformed : Instr.wellFormed (.malformedFrame true [0xC3]) = false := by decide

/-- A panel write without a byte (R181). -/
theorem test_wf_bad_request : Instr.wellFormed (.badPanelRequest []) = false := by decide

/-- A fifth parked entry (R137). -/
theorem test_wf_repeat : Instr.wellFormed (.repeatTimerExpiry 4) = false := by decide

/-- SET SETTINGS with no field, and with eight (R181). -/
theorem test_wf_settings : Instr.wellFormed (.setSettings []) = false ∧
    Instr.wellFormed (.setSettings (List.replicate 8 (1, 1))) = false := by decide

/-! ### Worked values of the manual -/

/-- CRC-8 with this polynomial, initial value and order has check value F4h over the digits 1 to 9. -/
theorem test_crc8_check : crc8 [0x31, 0x32, 0x33, 0x34, 0x35, 0x36, 0x37, 0x38, 0x39] = 0xF4 := by decide

/-- A DETACH frame written out: sync, type 03h, length 0, check code 3Fh (10.5; the check code worked by hand). -/
theorem test_detach_frame : readBridge true (0xC3 :: 0x03 :: 0x00 :: 0x3F :: List.replicate 40 0) =
    .command (.detach true) := by decide

/-- An END SESSION request written out: type 16h, length 0, check code (10.5; worked by hand). -/
theorem test_end_session_request : readPanel [0x16, 0x00, 0x29] = .command .endSession := by decide

/-- The durations with the default settings, for n = 4 to 9 (R77's table). -/
theorem test_backoff_table : [4, 5, 6, 7, 8, 9].map (backoffSeconds .factory) = [15, 30, 60, 120, 240, 480] := by
  decide

/-- The first store-ready of a part from manufacture determines BLANK (R2). -/
theorem test_first_store_ready :
    (match exec .storeReady State.reset with | .next t => t.lkc.lockState | _ => none) = some .blank := by decide

/-! ### States for the witnesses -/

/-- A part after store-ready in a lock state. -/
def inLock (l : LockState) : State :=
  { State.reset with
    stc := { State.reset.stc with ready := true },
    lkc := { State.reset.lkc with lockState := some l } }

/-- A code of six digits. -/
def code : List Digit := [1, 2, 3, 4, 5, 6]

/-- The verifier of the code. -/
def verifier : Verifier := { digits := code, salt := 0 }

/-- The drive key wrapped under the code. -/
def wrappedDrive : Wrapped := { key := .drive 1, under := .code code 0 }

/-- Slot 0, ENROLLED. -/
def adminSlot : SlotRecord :=
  .enrolled { role := .admin, mask := BitVec.allOnes 8, once := false, codeLength := 6 } verifier wrappedDrive

/-- A once slot of a user. -/
def onceInfo : SlotInfo := { role := .user, mask := 3, once := true, codeLength := 6 }

/-- The once slot's record. -/
def onceSlot : SlotRecord := .enrolled onceInfo verifier wrappedDrive

/-- A range of the given place, length and class, with its key. -/
def rangeOf (start count : Lba) (cls : RangeClass) (denial : DenialMode) : RangeDef :=
  { start := start, count := .sectors count, cls := cls, policy := .readWrite, denial := denial,
    wrapped := some { key := .range 2, under := .drive 1 } }

/-- A table of a guarded, a public, a guarded FILL, a hidden and a public READ_ONLY range. -/
def table : Vector RangeRecord 8 :=
  #v[.defined (rangeOf 0 10000 .guarded .deny), .defined (rangeOf 10000 100 .pub .deny),
     .defined (rangeOf 20000 100 .guarded .fill), .defined (rangeOf 30000 100 .hidden .deny),
     .defined { rangeOf 40000 100 .pub .deny with policy := .readOnly }, .unused, .unused, .unused]

/-- A key buffer with the keys of ranges 0 and 1. -/
def keys : Vector (Option BufferKey) 8 :=
  ((Vector.replicate 8 (none : Option BufferKey)).set 0 (some { key := .range 2, cls := .guarded })).set 1
    (some { key := .range 3, cls := .pub })

/-- An attached OPEN drive in a session, range 0 LOADED in context 0, ranges 0 and 1 in the mask. -/
def openDrive : State :=
  { inLock .opened with
    lkc := { State.reset.lkc with
      lockState := some .opened, session := true, sessionTimer := .running 0, idleTimer := .running 0,
      keyBuffer := keys, role := some .admin, mask := 3 },
    rgt := { live := table, staged := table, dirty := false },
    slt := { State.reset.slt with
      slots := (Vector.replicate 5 SlotRecord.empty).set 0 adminSlot, driveKey := some (.drive 1) },
    cxm := { State.reset.cxm with entries := (Vector.replicate 4 ContextEntry.empty).set 0 (.loaded 0 0) },
    mpt := { State.reset.mpt with attached := true, capacity := some 100000 } }

/-- The open drive with its idle lock timer and its session timer at their presets. -/
def idleDrive : State :=
  { openDrive with lkc := { openDrive.lkc with idleTimer := .running 900000, sessionTimer := .running 60000 } }

/-- The open drive with a STAGED edit. -/
def dirtyDrive : State := { openDrive with rgt := { openDrive.rgt with staged := table.set 1 .unused, dirty := true } }

/-- A drive in OPEN_PENDING. -/
def pendingDrive : State :=
  { openDrive with
    lkc := { openDrive.lkc with lockState := some .openPending, windowTimer := .running 30000, idleTimer := .held },
    mpt := { openDrive.mpt with attached := false } }

/-- A locked drive with one slot, the key of a public range held. -/
def lockedDrive : State :=
  { inLock .locked with
    lkc := { State.reset.lkc with
      lockState := some .locked,
      keyBuffer := (Vector.replicate 8 (none : Option BufferKey)).set 1 (some { key := .range 3, cls := .pub }) },
    slt := { State.reset.slt with slots := (Vector.replicate 5 SlotRecord.empty).set 0 adminSlot },
    rgt := { live := table, staged := table, dirty := false } }

/-- A query for a span. -/
def ask (lba : Lba) (count : BitVec 16) (dir : Direction) : Query := { tag := 15, lba := lba, count := count, dir := dir }

/-- A key that is held down, in a chord state. -/
def heldKey (key : PadKey) (chord : ChordState) : Ksc :=
  { State.reset.ksc.setDown key true with held := some key, chord := chord, pairingTimer := .running 20 }

/-- A chord that forms. -/
def formingKsc : Ksc :=
  { (heldKey .lock .forming).setDown .unlock true with chordTimer := .running 1000, pairingTimer := .stopped }

/-- A write in progress. -/
def writingOf (w : CellWrite) (a : Option Awaiter) (attempt : Nat) : WriteInProgress :=
  { entry := { write := w, awaiter := a }, attempt := attempt, seq := 1 }

/-- A state with a write in progress. -/
def withWrite (s : State) (w : CellWrite) (a : Option Awaiter) (attempt : Nat) : State :=
  { s with stc := { s.stc with writing := some (writingOf w a attempt) } }

/-- A verification in flight on the code. -/
def inFlight (slots : Vector SlotRecord 5) (digits : List Digit) (p : Purpose) : Verification :=
  { digits := digits, purpose := p, snapshot := some (snapshotOf slots), voided := false }

/-- A locked drive in CHECKING with a verification in flight. -/
def checkingDrive (digits : List Digit) (p : Purpose) (record : SlotRecord) (n : Nat) : State :=
  { lockedDrive with
    enu := { State.reset.enu with state := .checking, purpose := some p },
    slt := { lockedDrive.slt with
      slots := (Vector.replicate 5 SlotRecord.empty).set 0 record,
      verification := some (inFlight ((Vector.replicate 5 SlotRecord.empty).set 0 record) digits p) },
    atg := { State.reset.atg with counter := n, check := some { purpose := p, step := .verifying } } }

/-- The match hold of slot 0. -/
def hold : MatchHold := { codeKey := .code code 0, wrapped := wrappedDrive, slot := 0 }

/-- A check at its refund. -/
def refunding (s : State) (p : Purpose) (cancel : Bool) : State :=
  withWrite { s with
    enu := { s.enu with state := .checking, purpose := some p, cancel := cancel },
    slt := { s.slt with matchHold := some hold },
    atg := { s.atg with check := some { purpose := p, step := .refunding } } } (.att 0) (some .refund) 2

/-- An unwrap of slot 0. -/
def unwrapOf (discard : Bool) : Unwrap :=
  { driveKey := some (.drive 1), rangeKeys := (Vector.replicate 8 (none : Option Key)).set 0 (some (.range 2)),
    slot := 0, opensSession := true, first := false, discard := discard }

/-- A drive with an unwrap in flight. -/
def unwrapping (s : State) (discard : Bool) : State := { s with slt := { s.slt with unwrap := some (unwrapOf discard) } }

/-- A drive whose back-off runs. -/
def holdoffDrive (elapsed : Nat) : State :=
  { lockedDrive with
    enu := { State.reset.enu with state := .holdoff },
    atg := { State.reset.atg with
      counter := 5, timer := some { elapsed := elapsed, preset := 300, phase := 0, checkpointed := 0 },
      bko := { active := some { count := 5, elapsed := 0 }, pfwSeen := false } } }

/-- An erasure in its sweep, ordered. -/
def sweepDrive (retry : Nat) : State :=
  { inLock .erasing with
    ere := { journal := { phase := .sweep, next := none, cursor := some 0, sweepEnd := some 99999, incomplete := false },
             awaited := none, sweepState := some .ordered, order := some { start := 0, count := 32768 },
             retry := retry, sweepOwed := false },
    mpt := { State.reset.mpt with attached := true, capacity := some 100000 } }

/-- An erasure in a journal phase whose write to a cell is in progress and awaited. -/
def erasingWrite (j : Journal) (w : CellWrite) : State :=
  withWrite { inLock .erasing with ere := { State.reset.ere with journal := j, awaited := some w.cell } } w
    (some .erase) 2

/-- A sweep's journal record over the first 100000 sectors. -/
def sweepJournal : Journal :=
  { phase := .sweep, next := none, cursor := some 32768, sweepEnd := some 99999, incomplete := false }

/-- The open drive with context 1 in a given entry. -/
def withContext (e : ContextEntry) : State :=
  { openDrive with cxm := { openDrive.cxm with entries := openDrive.cxm.entries.set 1 e } }

/-- A parked query. -/
def parked (st : ParkedState) : Parked := { query := ask 10000 1 .read, range := 1, state := st }

/-- The open drive with a parked query. -/
def withParked (st : ParkedState) : State := { openDrive with dqq := [parked st] }

/-- Five waiting settings writes, none of CFG. -/
def fiveWrites : List QueueEntry :=
  [1, 2, 3, 4, 5].map (fun (k : RangeIx) => { write := .rng k .unused, awaiter := none })

/-- The open drive with a full queue. -/
def fullQueue : State := { openDrive with stc := { openDrive.stc with queue := fiveWrites } }

/-- A locked drive whose UNLOCK key ends an entry of the given digits. -/
def entryDrive (digits : List Digit) : State :=
  { lockedDrive with
    ksc := heldKey .unlock .pairing,
    enu := { State.reset.enu with
      state := .collecting, purpose := some .unlock, buffer := digits, entryTimer := .running 12000 } }

/-- A drive in BLANK whose first-enrollment build runs. -/
def firstBuild : State :=
  { inLock .blank with slt := { State.reset.slt with build := some (.firstBuilding code) } }

/-- A drive in BLANK whose first enrollment awaits a write, failed so far or not. -/
def firstWrites (failed : Bool) (w : CellWrite) : State :=
  withWrite { inLock .blank with slt := { State.reset.slt with
    slots := (Vector.replicate 5 SlotRecord.empty).set 0 adminSlot,
    build := some (.firstWriting [] failed (.code code 0) wrappedDrive) } } w (some .firstEnrollment) 2

/-- A check whose retirement write is in progress, at its second attempt. -/
def retiring : State :=
  withWrite { checkingDrive code .unlock (.retired onceInfo) 5 with
    atg := { counter := 5, check := some { purpose := .unlock, step := .verifying }, attFaulty := false, timer := none,
             bko := { active := some { count := 5, elapsed := 0 }, pfwSeen := false } } }
    (.slt 0 (.retired onceInfo)) (some .retirement) 2

/-- A drive with an erasure's sweep paused at a cursor. -/
def pausedSweep : State :=
  { inLock .erasing with ere := { State.reset.ere with journal := sweepJournal, sweepState := some .paused } }

/-- A drive in LOCKED whose LOCK key stands in its pairing window at its end. -/
def lockKeyDrive (s : State) : State := { s with ksc := heldKey .lock .pairing }

/-- The open drive with a restart pending. -/
def restartingDrive : State := { openDrive with ppt := { openDrive.ppt with restartPending := true } }

/-- An enrollment order for slot 1. -/
def order1 : EnrollOrder := { slot := 1, role := .user, mask := 1, once := false }

/-- The open drive with a build in flight. -/
def building (digits : List Digit) : State :=
  { openDrive with slt := { openDrive.slt with build := some (.enrolling digits order1 (.drive 1) false) } }

/-- A part before store-ready over given cells. -/
def startDrive (c : Cells) : State := { State.reset with stc := { State.reset.stc with cells := c } }

/-- The cells of manufacture with a counter, a back-off record and a journal. -/
def cellsWith (n : Nat) (r : BackoffRecord) (j : Journal) : Cells :=
  { Cells.manufacture with att := attFormat.image 1 n, bko := bkoFormat.image 1 r, ejr := ejrFormat.image 1 j }

/-- An active back-off record with the PFW-seen mark. -/
def backoffOf (count elapsed : Nat) : BackoffRecord :=
  { active := some { count := count, elapsed := elapsed }, pfwSeen := true }

/-- A public range with its key under the device key. -/
def publicRange : RangeDef :=
  { rangeOf 30000 100 .pub .deny with wrapped := some { key := .range 4, under := .device } }

/-- An identity. -/
def identity : Identity := { serial := 1, deviceKey := .device, product := 2 }

/-- The open drive with edits staged, range 1 dropped, range 3 made public and range 2 as it was, and range 1 in a
context. -/
def installDrive : State :=
  { withContext (.loaded 1 3) with
    rgt := { openDrive.rgt with staged := (table.set 1 .unused).set 3 (.defined publicRange), dirty := true },
    stc := { openDrive.stc with idn := some identity } }

/-- A locked, open or blank drive whose entry unit collects digits on a free keypad. -/
def collecting (s : State) (digits : List Digit) : State :=
  { s with enu := { State.reset.enu with
      state := .collecting, purpose := some .unlock, buffer := digits, entryTimer := .running 0 } }

/-- A drive whose UNLOCK key ends an ENROLL2 entry. -/
def confirming (s : State) (confirm : List Digit) : State :=
  { s with
    ksc := heldKey .unlock .pairing,
    enu := { State.reset.enu with
      state := .collecting, purpose := some .enroll2, buffer := code, confirm := confirm, order := some order1,
      entryTimer := .running 0 } }

/-- The open drive, in a session, with a back-off running. -/
def openHoldoff : State := { openDrive with enu := (holdoffDrive 100).enu, atg := (holdoffDrive 100).atg }

/-- The state after a command; the state itself where it answers none. -/
def after (c : Instr) (s : State) : State :=
  match exec c s with
  | .next t => t
  | _ => s

/-- A state with an outbound queue. -/
def withOutbound (s : State) (frames : List OutFrame) : State := { s with mpt := { s.mpt with outbound := frames } }

/-- A state in ERASING. -/
def inErasing (s : State) : State := { s with lkc := { s.lkc with lockState := some .erasing } }

/-- The locked drive, attached. -/
def attachedLocked : State := { lockedDrive with mpt := openDrive.mpt }

/-- The open drive of a READER. -/
def readerDrive : State := { openDrive with lkc := { openDrive.lkc with role := some .reader } }

/-- The open drive with every range in the mask. -/
def fullMaskDrive : State := { openDrive with lkc := { openDrive.lkc with mask := 0xFF } }

/-- The premises that the last steps of a decision share: no IDN fault, a count, attached media, an LBA below the
capacity, and range r alone holding it. -/
def isIn (s : State) (q : Query) (r : RangeIx) : Bool :=
  !s.lkc.idnFault && q.count != 0 && s.mpt.attached && q.lba.toNat < s.capacityNat &&
  allRanges.all (fun k => s.rgt.live[k].holdsLba s.capacityNat q.lba.toNat == (k == r))

/-- A sweep at its last chunk. -/
def lastChunk : State :=
  { sweepDrive 1 with ere := { (sweepDrive 1).ere with
      journal := { (sweepDrive 1).ere.journal with cursor := some 98304 },
      order := some { start := 98304, count := 1696 } } }

/-- A drive in BLANK whose first-enrollment build runs, with a public range 7 and its key held. -/
def staleBuild : State :=
  { firstBuild with
    rgt := { firstBuild.rgt with live := firstBuild.rgt.live.set 7 (.defined (rangeOf 30000 100 .pub .deny)) },
    lkc := { firstBuild.lkc with keyBuffer := firstBuild.lkc.keyBuffer.set 7 (some { key := .range 4, cls := .pub }) } }

/-- The open drive with an identity. -/
def keyedDrive : State := { openDrive with stc := { openDrive.stc with idn := some identity } }

/-- The open drive with the IDN fault mark. -/
def faultDrive : State := { openDrive with lkc := { openDrive.lkc with idnFault := true } }

/-! ### Premises of the statements, clause by clause -/

/-- StepRunsFrontCommand: a command that waits, an idle lock timer that is due, nothing due, and a part without supply. -/
theorem test_premises_step : { State.reset with pending := [.storeReady, .status] }.pending = .storeReady :: [.status] ∧
    (idleDrive.pending = [] ∧ idleDrive.powered = true ∧ idleDrive.isDue .idleTimerExpiry) ∧
    { State.reset with powered := false }.powered = false := by
  unfold State.isDue
  decide

/-- StepRunsFrontCommand: nothing is due in the open drive, whose timers run. -/
theorem test_premises_step_tick : openDrive.pending = [] ∧ openDrive.powered = true ∧ ∀ c, ¬ openDrive.isDue c := by
  refine ⟨by decide, by decide, fun c h => ?_⟩
  have contexts : ∀ i : CtxIx, openDrive.cxm.entries[i] = .empty ∨ openDrive.cxm.entries[i] = .loaded 0 0 := by decide
  cases c
  case keyloadReplyTimeout i =>
    obtain ⟨_, _, _, _, hx, -⟩ := h
    rcases contexts i with c | c <;> exact nomatch c.symm.trans hx
  case purgeReplyTimeout i =>
    obtain ⟨_, _, _, hx, -⟩ := h
    rcases contexts i with c | c <;> exact nomatch c.symm.trans hx
  case repeatTimerExpiry place =>
    obtain ⟨_, _, _, _, hx, -⟩ := h
    have none : openDrive.dqq[place]? = none := rfl
    exact nomatch none.symm.trans hx
  case backoffEnd => obtain ⟨_, hx, -⟩ := h; exact nomatch (show none = some _ from hx)
  all_goals unfold State.isDue at h
  all_goals first
    | exact h
    | exact absurd h.1 (by decide)
    | exact absurd h.2 (by decide)
    | exact absurd h (by decide)

/-- BridgeFramesReadBack, at the greatest tag. -/
theorem test_premises_bridge_frames :
    (bridgeBytes (.access true 15 4294967295 65535 .write)).isSome = true ∧
    Instr.wellFormed (.access true 15 4294967295 65535 .write) = true := by decide

/-- PanelRequestsReadBack, at the greatest number of fields. -/
theorem test_premises_panel_requests :
    (panelBytes (.setSettings [(1, 1), (2, 3), (3, 1), (4, 60), (5, 0), (6, 5), (7, 1)])).isSome = true ∧
    Instr.wellFormed (.setSettings [(1, 1), (2, 3), (3, 1), (4, 60), (5, 0), (6, 5), (7, 1)]) = true := by decide

/-- StepKeepsStoreLaw, with a full queue. -/
theorem test_premises_store_law : fullQueue.stc.lawful ∧ ∃ t, step fullQueue = .next t :=
  ⟨by unfold Stc.lawful; decide, _, rfl⟩

/-- StepKeepsQueryAndContextLaws. -/
theorem test_premises_query_context_laws : (withParked .waiting).dqqLawful ∧ (withParked .waiting).cxm.lawful ∧
    ∃ t, step (withParked .waiting) = .next t := by
  refine ⟨by unfold State.dqqLawful; decide, ⟨?_, by decide⟩, _, rfl⟩
  intro i j r
  revert i j r
  decide

/-- StepKeepsOutboundLaw, with an answer before a notice. -/
theorem test_premises_outbound_law :
    Mpt.lawful { openDrive.mpt with outbound := [.retry 1, .state .opened] } ∧ ∃ t, step openDrive = .next t :=
  ⟨by unfold Mpt.lawful; decide, _, rfl⟩

/-- StepKeepsJournalLaw, in an erasure. -/
theorem test_premises_journal_law : (sweepDrive 1).journalLawful ∧ (sweepDrive 1).slt.heldLawful ∧
    ∃ t, step (sweepDrive 1) = .next t :=
  ⟨by unfold State.journalLawful; decide, trivial, _, rfl⟩

/-- StepKeepsKeysClosed, in LOCKED with a public key held. -/
theorem test_premises_keys_closed : lockedDrive.journalLawful ∧ lockedDrive.buffersClosed ∧
    lockedDrive.contextsClosed ∧ ∃ t, step lockedDrive = .next t := by
  refine ⟨by unfold State.journalLawful; decide, ?_, ?_, _, rfl⟩
  · intro _ k b h
    have all : ∀ k : RangeIx, lockedDrive.lkc.keyBuffer[k].all (fun b => b.cls = .pub) = true := by decide
    have here := all k
    rw [h] at here
    simpa using here
  · unfold State.contextsClosed State.unlocked
    decide

/-- StepKeepsSessionAndTimerLaws, in a session. -/
theorem test_premises_session_timers : openDrive.journalLawful ∧ openDrive.slt.heldLawful ∧ openDrive.sessionLawful ∧
    openDrive.lockTimersLawful ∧ ∃ t, step openDrive = .next t :=
  ⟨by unfold State.journalLawful; decide, trivial, by unfold State.sessionLawful State.unlocked; decide,
    by unfold State.lockTimersLawful; decide, _, rfl⟩

/-- StepKeepsStandbyLaw and StepKeepsSettings. -/
theorem test_premises_standby_settings : openDrive.standbyLawful ∧ openDrive.countersLawful ∧
    openDrive.slt.heldLawful ∧ ∃ t, step openDrive = .next t :=
  ⟨by unfold State.standbyLawful; decide, by unfold State.countersLawful; decide, trivial, _, rfl⟩

/-- GrantedSpan and GrantNeedsReach, clamped to 4096 sectors, and at the last LBA of the range. -/
theorem test_premises_granted :
    openDrive.decideQuery (ask 0 65535 .write) = .answer (.grant 0 4096 true) ∧
    openDrive.decideQuery (ask 9999 1 .read) = .answer (.grant 0 1 false) ∧
    openDrive.decideQuery (ask 20099 2 .read) = .answer (.fill 1 true) := by decide

/-- DecisionOrder, its first seven steps, each clause. -/
theorem test_premises_decision_order :
    State.reset.lkc.lockState = none ∧
    { openDrive with lkc := { openDrive.lkc with idnFault := true } }.lkc.idnFault = true ∧
    (ask 0 0 .read).count = 0 ∧ (inLock .erasing).lkc.lockState = some .erasing ∧
    (inLock .blank).lkc.lockState = some .blank ∧ pendingDrive.mpt.attached = false ∧
    openDrive.capacityNat ≤ (ask 100000 1 .read).lba.toNat ∧
    (ask 99999 1 .read).lba.toNat < openDrive.capacityNat ∧
    (∀ k : RangeIx, openDrive.rgt.live[k].holdsLba openDrive.capacityNat (ask 99999 1 .read).lba.toNat = false) := by
  decide

/-- DecisionOrder, its other steps, in LOCKED and in OPEN: an unreachable range HIDDEN, with denial mode FILL and with
DENY; a WRITE not permitted by policy, by role and by the class in LOCKED; a position without a key; a LOADED context; a
hand-over. The spans reach to the last LBA of a range, and one query asks for more. -/
theorem test_premises_decision_ranges :
    (∀ x ∈ [(openDrive, ask 30099 2 .read, (3 : RangeIx)), (openDrive, ask 20000 200 .read, 2),
        (openDrive, ask 20099 1 .write, 2), (attachedLocked, ask 0 1 .read, 0), (openDrive, ask 40000 1 .write, 4),
        (readerDrive, ask 0 1 .write, 0), (attachedLocked, ask 10099 1 .write, 1), (fullMaskDrive, ask 20000 1 .read, 2),
        (openDrive, ask 9999 1 .write, 0), (openDrive, ask 10000 1 .write, 1)], isIn x.1 x.2.1 x.2.2 = true) ∧
    openDrive.lkc.lockState = some .opened ∧ attachedLocked.lkc.lockState = some .locked ∧
    readerDrive.lkc.role = some .reader ∧ maskHas openDrive.lkc.mask 3 = false ∧ maskHas openDrive.lkc.mask 2 = false ∧
    openDrive.rgt.live[3] = .defined (rangeOf 30000 100 .hidden .deny) ∧
    openDrive.rgt.live[2] = .defined (rangeOf 20000 100 .guarded .fill) ∧
    openDrive.rgt.live[0] = .defined (rangeOf 0 10000 .guarded .deny) ∧
    openDrive.rgt.live[4] = .defined { rangeOf 40000 100 .pub .deny with policy := .readOnly } ∧
    openDrive.rgt.live[1] = .defined (rangeOf 10000 100 .pub .deny) ∧ attachedLocked.rgt = openDrive.rgt ∧
    maskHas fullMaskDrive.lkc.mask 2 = true ∧ fullMaskDrive.lkc.keyBuffer[2] = none ∧
    maskHas openDrive.lkc.mask 0 = true ∧ openDrive.lkc.keyBuffer[0] = some { key := .range 2, cls := .guarded } ∧
    openDrive.cxm.entries[0] = .loaded 0 0 ∧ openDrive.lkc.role = some .admin ∧
    openDrive.lkc.keyBuffer[1] = some { key := .range 3, cls := .pub } ∧
    ∀ i : CtxIx, openDrive.cxm.entries[i] = .empty ∨ openDrive.cxm.entries[i] = .loaded 0 0 := by decide

/-- BackoffDuration, at the ends of its range and at the saturation. -/
theorem test_premises_backoff_duration :
    (Settings.factory.F < 4 ∧ 4 < Settings.factory.W ∧ 9 < Settings.factory.W ∧ Settings.factory.inRange = true) ∧
    (let c : Settings := { Settings.factory with F := 1, W := 20 }
     c.F < 14 ∧ 14 < c.W ∧ 12 ≤ 14 - c.F - 1 ∧ c.inRange = true) := by decide

/-- TablesStayValid. -/
theorem test_premises_tables : tableValid openDrive.rgt.staged ∧
    ∃ t, exec (.setRange 3 30000 10 1 0 0) openDrive = .next t :=
  ⟨by unfold tableValid; decide, _, rfl⟩

/-- AccessAnswered, AccessDecisionFrame: a GRANT, a FILL and a DENY. -/
theorem test_premises_access : openDrive.powered = true ∧ (ask 0 1 .read).tag.toNat ≤ 15 ∧ openDrive.mpt.lawful ∧
    (∀ p ∈ openDrive.dqq, p.query ≠ ask 0 1 .read) ∧
    openDrive.decideQuery (ask 0 1 .read) = .answer (.grant 0 1 false) ∧
    openDrive.decideQuery (ask 20000 1 .read) = .answer (.fill 1 false) ∧
    openDrive.decideQuery (ask 50000 1 .read) = .answer (.deny .outside) := by
  refine ⟨by decide, by decide, by unfold Mpt.lawful; decide, ?_, by decide, by decide, by decide⟩
  decide

/-- AccessStartsLoad, of the public range: a load that starts, one that is under way, a full queue, and no context to
choose. -/
theorem test_premises_load : (∀ p ∈ openDrive.dqq, p.query ≠ ask 10000 1 .read) ∧ openDrive.dqq.length < 4 ∧
    openDrive.mpt.outbound = [] ∧ openDrive.mpt.statePending = false ∧ openDrive.ere.sweepOwed = false ∧
    openDrive.decideQuery (ask 10000 1 .read) = .load 1 ∧ openDrive.cxm.lru = [0, 1, 2] ++ 3 :: [] ∧
    openDrive.cxm.entries[3] = .empty ∧ (∀ j ∈ ([] : List CtxIx), openDrive.cxm.entries[j] ≠ .empty) ∧
    openDrive.lkc.keyBuffer[1] = some { key := .range 3, cls := .pub } ∧
    (withContext (.loading 1 3 1 .onRead)).decideQuery (ask 10000 1 .read) = .load 1 ∧
    (withContext (.loading 1 3 1 .onRead)).cxm.entries[1] = .loading 1 3 1 .onRead ∧
    { openDrive with dqq := List.replicate 4 (parked .waiting) }.decideQuery (ask 10001 1 .read) = .load 1 ∧
    4 ≤ (List.replicate 4 (parked .waiting)).length ∧ ask 10000 1 .read ≠ ask 10001 1 .read ∧
    (let s : State := { openDrive with cxm := { openDrive.cxm with entries := Vector.replicate 4 (.purging 1 0 .onRead) } }
     s.decideQuery (ask 10000 1 .read) = .load 1 ∧ ∀ j : CtxIx, s.cxm.entries[j] = .purging 1 0 .onRead) := by
  decide

/-- AccessStartsLoad: the KEYLOAD behind 6 frames, behind 7 of which none is a STATE notice, and behind 8 of which one
is. -/
theorem test_premises_load_queue :
    ∀ x ∈ [(List.replicate 6 (OutFrame.purge 1 0), true), (List.replicate 7 (OutFrame.purge 1 0), false),
        (OutFrame.state .opened :: List.replicate 7 (OutFrame.purge 1 0), true)],
      (withOutbound openDrive x.1).decideQuery (ask 10000 1 .read) = .load 1 ∧
      (after (.mediaTransaction false) (withOutbound openDrive x.1)).mpt.outbound = x.1 ∧
      (takesOrder (.retry 15 :: x.1) ↔ x.2 = true) := by
  unfold takesOrder
  decide

/-- AccessStartsLoad: with none EMPTY, the LOADED context nearest the tail whose range no READY query references. -/
theorem test_premises_load_over :
    (let s : State := { openDrive with
       cxm := { openDrive.cxm with entries := #v[.loaded 0 0, .loaded 2 1, .purging 1 2 .onRead, .loaded 4 3] },
       dqq := [{ query := ask 40000 1 .read, range := 4, state := .ready (.deny .fault) false 0 }] }
     s.decideQuery (ask 10000 1 .read) = .load 1 ∧ s.cxm.lru = [0] ++ 1 :: [2, 3] ∧
     (∀ j ∈ s.cxm.lru, s.cxm.entries[j] ≠ .empty) ∧ s.cxm.entries[1] = .loaded 2 1 ∧
     readyReferences s.dqq 2 = false ∧ s.cxm.entries[3] = .loaded 4 3 ∧ readyReferences s.dqq 4 = true) := by
  decide

/-- RepeatAnswered: WAITING, READY with a GRANT that holds and with a FILL, both in OPEN, with a GRANT whose context is
EMPTY, and a stale entry. -/
theorem test_premises_repeat :
    ((withParked .waiting).dqqLawful ∧ parked .waiting ∈ (withParked .waiting).dqq ∧
      (parked .waiting).query.tag.toNat ≤ 15 ∧ (withParked .waiting).lkc.lockState = some .opened) ∧
    (let s : State := { withContext (.loaded 1 3) with dqq := [parked (.ready (.grant 1 1 false) false 49)] }
     s.dqqLawful ∧ parked (.ready (.grant 1 1 false) false 49) ∈ s.dqq ∧ s.cxm.entries[1] = .loaded 1 3) ∧
    (∀ p ∈ [parked (.ready (.grant 1 1 false) false 49), parked (.ready (.fill 1 false) false 0),
        parked (.ready (.deny .fault) true 0)],
      (withParked p.state).dqqLawful ∧ p ∈ (withParked p.state).dqq) ∧ openDrive.cxm.entries[1] = .empty ∧
    (withParked .waiting).mpt.statePending = false ∧ (withParked .waiting).ere.sweepOwed = false := by
  unfold State.dqqLawful
  decide

/-- TransactionsEnd: a KEYLOAD and a PURGE read, an answer behind which a notice waits, an empty queue with a notice
pending, and one with none. -/
theorem test_premises_transaction :
    (let s : State := { withContext (.loading 1 3 1 .onRead) with
       mpt := { openDrive.mpt with outbound := [.keyload 1 3 (.range 3), .state .opened] } }
     s.powered = true ∧ s.mpt.outbound = .keyload 1 3 (.range 3) :: [.state .opened] ∧ s.mpt.statePending = false ∧
     s.ere.sweepOwed = false ∧ OutFrame.keyload 1 3 (.range 3) ∉ [OutFrame.state .opened] ∧
     s.cxm.entries[1] = .loading 1 3 1 .onRead) ∧
    (let s : State := { withContext (.purging 1 3 .onRead) with mpt := { openDrive.mpt with outbound := [.purge 1 3] } }
     s.powered = true ∧ s.mpt.outbound = .purge 1 3 :: [] ∧ s.mpt.statePending = false ∧ s.ere.sweepOwed = false ∧
     OutFrame.purge 1 3 ∉ ([] : List OutFrame) ∧ s.cxm.entries[1] = .purging 1 3 .onRead ∧
     (OutFrame.purge 1 3).isAnswer = false) ∧
    (let s : State := { openDrive with mpt := { openDrive.mpt with outbound := [.retry 1, .state .opened] } }
     s.powered = true ∧ s.mpt.outbound = .retry 1 :: [.state .opened] ∧ (OutFrame.retry 1).isAnswer = true ∧
     s.mpt.statePending = false ∧ s.ere.sweepOwed = false) ∧
    (let s : State := { openDrive with mpt := { openDrive.mpt with statePending := true } }
     s.mpt.outbound = [] ∧ s.mpt.statePending = true ∧ s.lkc.lockState = some .opened) ∧
    openDrive.mpt.outbound = [] ∧ openDrive.mpt.statePending = false := by decide

/-- MalformedFrames: a first byte that is none's, a length of 41, with and without a tag, a check code that does not
match, a DETACH that is well-formed, an ACCESS whose tag is 16, one whose direction is 02h, and a KEYACK of four bytes.
-/
theorem test_premises_malformed :
    (List.replicate 44 (0x55 : Byte)).head? ≠ some 0xC3 ∧ [(0xC3 : Byte), 0x01].length < 3 ∧ 40 < (41 : Byte).toNat ∧
    ((15 : Byte).toNat ≤ 15 ∧ [(15 : Byte)].head? = some 15 ∧ 1 ≤ (41 : Byte).toNat) ∧
    [(0x40 : Byte)][(0 : Byte).toNat]? ≠ some (crc8 [0x03, 0x00]) ∧
    ([(0x3F : Byte)][(0 : Byte).toNat]? = some (crc8 [0x03, 0x00]) ∧ bridgeFields 0x03 []) ∧
    (∀ p ∈ ([[16, 0, 0, 0, 0, 0, 1, 0], [15, 0, 0, 0, 0, 0, 1, 2]] : List (List Byte)),
      (p ++ [crc8 (0x01 :: 0x08 :: p)])[(8 : Byte).toNat]? = some (crc8 (0x01 :: 0x08 :: p)) ∧
      (p ++ [crc8 (0x01 :: 0x08 :: p)]).take (8 : Byte).toNat = p ∧ ¬ bridgeFields 0x01 p) ∧
    bridgeFields 0x01 [15, 0, 0, 0, 0, 0, 0, 1] ∧ ¬ bridgeFields 0x05 [0, 0, 0, 0] ∧ bridgeFields 0x05 [4, 0, 1] ∧
    15 < (16 : Byte).toNat := by
  refine ⟨?_, ?_, ?_, ?_, ?_, ?_, ?_, ?_, ?_, ?_, ?_⟩ <;> (try unfold bridgeFields) <;> decide

/-- AttachEffects in OPEN_PENDING, and DETACH in OPEN, in ERASING with a sweep ordered and in LOCKED with none;
LinkResetEffects while closed, in a sweep that is ordered and in OPEN. -/
theorem test_premises_attach_link : pendingDrive.powered = true ∧ pendingDrive.lkc.lockState = some .openPending ∧
    openDrive.lkc.lockState = some .opened ∧
    (sweepDrive 1).lkc.lockState ≠ some .opened ∧ (sweepDrive 1).ere.journal.phase = .sweep ∧
    (sweepDrive 1).ere.sweepState = some .ordered ∧ lockedDrive.lkc.lockState ≠ some .opened ∧
    lockedDrive.ere.sweepState ≠ some .ordered ∧
    ¬ lockedDrive.unlocked ∧ lockedDrive.ere.order = none ∧ ¬ (sweepDrive 1).unlocked ∧
    (sweepDrive 1).ere.order ≠ none ∧ openDrive.unlocked ∧ openDrive.ere.order = none := by
  unfold State.unlocked
  decide

/-- KeyackCompletesLoad and KeyloadTimeout, at try 2 and at try 3; an entry that is EMPTY and one that is LOADED; an
outbound queue with room, a full one, and a full one with a STATE notice. -/
theorem test_premises_keyack :
    (withContext (.loading 1 3 2 (.running 20))).powered = true ∧
    (withContext (.loading 1 3 2 (.running 20))).cxm.entries[1] = .loading 1 3 2 (.running 20) ∧
    (withContext (.loading 1 3 3 (.running 20))).cxm.entries[1] = .loading 1 3 3 (.running 20) ∧
    (withContext (.loading 1 3 2 (.running 20))).lkc.keyBuffer[1] = some { key := .range 3, cls := .pub } ∧
    (withContext (.loading 1 3 2 (.running 20))).mpt.statePending = false ∧
    (withContext (.loading 1 3 2 (.running 20))).ere.sweepOwed = false ∧ (4 : Byte) ≠ 3 ∧ 4 ≤ (4 : Byte).toNat ∧
    openDrive.cxm.entries[1] = .empty ∧ openDrive.cxm.entries[0] = .loaded 0 0 ∧
    (∀ x ∈ [(List.replicate 7 (OutFrame.purge 1 0), true), (List.replicate 8 (OutFrame.purge 1 0), false),
        (OutFrame.state .opened :: List.replicate 7 (OutFrame.purge 1 0), true)],
      (withOutbound (withContext (.loading 1 3 2 (.running 20))) x.1).mpt.outbound = x.1 ∧
      (after (.mediaTransaction false) (withOutbound (withContext (.loading 1 3 2 (.running 20))) x.1)).mpt.outbound =
        x.1 ∧ (takesOrder x.1 ↔ x.2 = true)) := by
  unfold takesOrder
  decide

/-- PurgeReplies: the number of the order and another, an entry that is not PURGING, a context above 3, and the timer at
20 ms, with the queues of the witness of KeyloadTimeout. -/
theorem test_premises_purge :
    (withContext (.purging 1 3 (.running 20))).cxm.entries[1] = .purging 1 3 (.running 20) ∧ (4 : Byte) ≠ 3 ∧
    openDrive.cxm.entries[1] = .empty ∧ 4 ≤ (4 : Byte).toNat ∧
    takesOrder (withContext (.purging 1 3 (.running 20))).mpt.outbound ∧
    ¬ takesOrder (withOutbound (withContext (.purging 1 3 (.running 20))) (List.replicate 8 (.purge 1 3))).mpt.outbound := by
  unfold takesOrder
  decide

/-- RepeatTimerDiscards. -/
theorem test_premises_discard :
    (withParked (.ready (.deny .fault) false 50)).dqq[0]? = some (parked (.ready (.deny .fault) false 50)) ∧
    (parked (.ready (.deny .fault) false 50)).state = .ready (.deny .fault) false 50 := by decide

/-- SweptEffects, at the second FAIL and at the third, with room in the queue and with none, and at the last chunk. -/
theorem test_premises_swept : (sweepDrive 2).ere.journal.phase = .sweep ∧
    (sweepDrive 2).ere.sweepState = some .ordered ∧
    (sweepDrive 2).ere.order = some { start := 0, count := (32768 : BitVec 16).toNat } ∧
    (sweepDrive 2).ere.journal.cursor = some 0 ∧ (sweepDrive 2).ere.journal.sweepEnd = some 99999 ∧
    (sweepDrive 2).ere.retry < 3 ∧ 3 ≤ (sweepDrive 3).ere.retry ∧ (sweepDrive 2).mpt.statePending = false ∧
    (sweepDrive 2).ere.sweepOwed = false ∧ (after (.mediaTransaction false) (sweepDrive 2)).mpt.outbound = [] ∧
    (after (.mediaTransaction false) (withOutbound (sweepDrive 2) (List.replicate 8 (.purge 1 0)))).mpt.outbound =
      List.replicate 8 (.purge 1 0) ∧ ¬ takesOrder (List.replicate 8 (.purge 1 0)) ∧
    lastChunk.powered = true ∧ lastChunk.ere.journal.phase = .sweep ∧ lastChunk.ere.sweepState = some .ordered ∧
    lastChunk.ere.order = some { start := 98304, count := (1696 : BitVec 16).toNat } ∧
    lastChunk.ere.journal.cursor = some 98304 ∧ lastChunk.ere.journal.sweepEnd = some 99999 ∧
    (98304 : Lba).toNat + (1696 : BitVec 16).toNat = (99999 : Lba).toNat + 1 ∧ lastChunk.stc.lawful := by
  unfold takesOrder Stc.lawful
  decide

/-- SweptEffects: a SWEPT outside the phase, in PAUSED, in RECORDING, of another start and of another count. -/
theorem test_premises_swept_ignored : openDrive.ere.journal.phase ≠ .sweep ∧
    (∀ x ∈ [SweepState.paused, .recording],
      { (sweepDrive 1).ere with sweepState := some x }.sweepState ≠ some .ordered) ∧
    (∀ o, (sweepDrive 1).ere.order = some o → o.start ≠ 1 ∨ o.count ≠ (32768 : BitVec 16).toNat) ∧
    (∀ o, (sweepDrive 1).ere.order = some o → o.start ≠ 0 ∨ o.count ≠ (32767 : BitVec 16).toNat) := by
  refine ⟨by decide, by decide, ?_, ?_⟩ <;> rintro o ⟨⟩ <;> decide

/-- LockProcedureCloses: each source, with its state. LockInstallsStaged: a dirty table and one that is not. -/
theorem test_premises_lock :
    (∀ s ∈ [openDrive, idleDrive, pendingDrive, dirtyDrive, lockKeyDrive openDrive],
      s.powered = true ∧ s.unlocked ∧ s.ppt.restartPending = false) ∧
    idleDrive.stc.cfg.idle ≠ 0 ∧ idleDrive.lkc.idleTimer.reached (1000 * idleDrive.stc.cfg.idle) = true ∧
    pendingDrive.lkc.windowTimer.reached (1000 * pendingDrive.stc.cfg.window) = true ∧
    openDrive.stc.ready = true ∧ openDrive.ppt.pfwLow = false ∧ openDrive.lkc.lockState = some .opened ∧
    (lockKeyDrive openDrive).ksc.chord = .pairing ∧ (lockKeyDrive openDrive).ksc.held = some .lock ∧
    (lockKeyDrive openDrive).ksc.pairingTimer.reached 20 = true ∧ (lockKeyDrive openDrive).ksc.isDown .lock = true ∧
    dirtyDrive.rgt.dirty = true ∧ openDrive.rgt.dirty = false := by
  unfold State.unlocked
  decide

/-- LockInstallsStaged: a record that is dropped, one that becomes public, one that stands, and contexts of the first
and of a closed range. -/
theorem test_premises_install : installDrive.powered = true ∧ installDrive.unlocked ∧
    installDrive.ppt.restartPending = false ∧ installDrive.rgt.dirty = true ∧
    installDrive.rgt.staged[1] ≠ installDrive.rgt.live[1] ∧ installDrive.rgt.staged[1] = .unused ∧
    installDrive.rgt.staged[3] ≠ installDrive.rgt.live[3] ∧ installDrive.rgt.staged[3] = .defined publicRange ∧
    publicRange.cls = .pub ∧ publicRange.wrapped = some { key := .range 4, under := .device } ∧
    installDrive.lkc.idnFault = false ∧ installDrive.stc.idn = some identity ∧
    installDrive.rgt.staged[2] = installDrive.rgt.live[2] ∧ installDrive.cxm.entries[1].heldRange = some 1 ∧
    installDrive.cxm.entries[0].heldRange = some 0 ∧ installDrive.rgt.live[0].isClosed = true ∧
    installDrive.cxm.entries[2].heldRange = none ∧ (withContext (.loaded 1 3)).rgt.live[1].isClosed = false ∧
    (withContext (.loaded 1 3)).rgt.dirty = false ∧ installDrive.ere.sweepOwed = false ∧ installDrive.stc.lawful := by
  unfold State.unlocked Stc.lawful
  decide

/-- LockProcedureCloses, LockInstallsStaged: each command is a lock event of a drive with edits staged. -/
theorem test_premises_locks_by :
    (∀ c ∈ [Instr.hostlock true, .linkreset false, .lockRequest, .pfwEdge, .detach true], installDrive.locksBy c) ∧
    idleDrive.locksBy .idleTimerExpiry ∧ pendingDrive.locksBy .attachWindowExpiry ∧
    (∀ c ∈ [Instr.pairingTimerExpiry, .keyReleaseAccepted .lock], (lockKeyDrive installDrive).locksBy c) := by
  refine ⟨?_, ?_, ?_, ?_⟩ <;> simp [State.locksBy] <;> decide

/-- A HOSTLOCK installs the staged table (R7 step 7). -/
theorem test_hostlock_installs : (after (.hostlock true) installDrive).rgt.live[1] = .unused := by decide

/-- LockEventsWhileClosed: each source in LOCKED with a check, and in BLANK, in ERASING and before store-ready. -/
theorem test_premises_closed_events :
    (∀ s ∈ [lockKeyDrive (checkingDrive code .unlock adminSlot 1), lockKeyDrive (inLock .blank),
        lockKeyDrive (inLock .erasing)],
      s.powered = true ∧ ¬ s.unlocked ∧ s.ppt.restartPending = false ∧ s.ksc.chord = .pairing ∧
      s.ksc.held = some .lock ∧ s.ksc.pairingTimer.reached 20 = true ∧ s.stc.ready = true ∧ s.ppt.pfwLow = false) ∧
    (lockKeyDrive (checkingDrive code .unlock adminSlot 1)).lkc.lockState = some .locked ∧
    (lockKeyDrive (checkingDrive code .unlock adminSlot 1)).enu.state = .checking ∧
    (inLock .blank).lkc.lockState ≠ some .locked ∧ State.reset.powered = true ∧ ¬ State.reset.unlocked := by
  unfold State.unlocked
  decide

/-- DigitStartsEntry: IDLE in LOCKED, unlocked, in BLANK with each of its exceptions, in ERASING and before store-ready;
COLLECTING at 14 and at 15 digits; CHECKING and HOLDOFF. -/
theorem test_premises_digit :
    (∀ s ∈ [lockedDrive, openDrive, inLock .blank, firstBuild, inLock .erasing, State.reset,
        collecting lockedDrive (List.replicate 14 1), collecting lockedDrive (List.replicate 15 1),
        checkingDrive code .unlock adminSlot 1, holdoffDrive 100],
      s.powered = true ∧ s.ksc.scanMode = .full ∧ s.ksc.held = none ∧ s.ksc.allUp = true) ∧
    (∀ s ∈ [lockedDrive, openDrive, inLock .blank, firstBuild, inLock .erasing, State.reset], s.enu.state = .idle) ∧
    lockedDrive.lkc.lockState = some .locked ∧ openDrive.unlocked ∧ (inLock .blank).lkc.lockState = some .blank ∧
    (inLock .blank).lkc.idnFault = false ∧ (inLock .blank).slt.firstInFlight = false ∧
    firstBuild.lkc.lockState = some .blank ∧ firstBuild.slt.firstInFlight = true ∧
    { (inLock .blank).lkc with idnFault := true }.idnFault = true ∧
    (collecting lockedDrive (List.replicate 14 1)).enu.state = .collecting ∧
    (collecting lockedDrive (List.replicate 14 1)).enu.buffer.length < 15 ∧
    15 ≤ (collecting lockedDrive (List.replicate 15 1)).enu.buffer.length ∧
    (checkingDrive code .unlock adminSlot 1).enu.state = .checking ∧ (holdoffDrive 100).enu.state = .holdoff := by
  unfold State.unlocked
  decide

/-- ChordAndReleases, each clause, by the scanner of a locked drive, in both orders of the keys; and the states in which
CHORD is ignored. -/
theorem test_premises_chord :
    { lockedDrive with ksc := formingKsc }.lkc.lockState = some .locked ∧
    (∀ x ∈ [(PadKey.lock, PadKey.unlock), (.unlock, .lock)],
      (heldKey x.1 .pairing).scanMode = .full ∧ (heldKey x.1 .pairing).chord = .pairing ∧
      (heldKey x.1 .pairing).held = some x.1 ∧ (heldKey x.1 .pairing).isDown x.2 = false) ∧
    (formingKsc.chord = .forming ∧ formingKsc.isDown .lock = true ∧ formingKsc.isDown .unlock = true ∧
      formingKsc.chordTimer.reached 1000 = true) ∧
    ((heldKey (.digit 9) .none).chord = .none ∧ (heldKey (.digit 9) .none).held = some (.digit 9) ∧
      (heldKey (.digit 9) .none).isDown (.digit 9) = true) ∧
    lockedDrive.enu.state = .idle ∧ lockedDrive.powered = true ∧
    (∀ s ∈ [inLock .blank, inLock .erasing, State.reset], s.enu.state = .idle ∧ s.lkc.lockState ≠ some .locked) ∧
    (collecting lockedDrive code).enu.state ≠ .idle ∧ (checkingDrive code .unlock adminSlot 1).enu.state ≠ .idle ∧
    (holdoffDrive 100).enu.state ≠ .idle := by decide

/-- EntryUnitTimers, each clause: timers one tick before their presets, and at them. -/
theorem test_premises_entry_timers :
    (entryDrive code).powered = true ∧ (entryDrive code).enu.entryTimer.reached 12000 = true ∧
    { lockedDrive.enu with standbyTimer := Timer.running 30000 }.standbyTimer.reached 30000 = true ∧
    { lockedDrive.enu with entryTimer := Timer.running 11999 }.entryTimer.reached 12000 = false ∧
    { lockedDrive.enu with standbyTimer := Timer.running 29999 }.standbyTimer.reached 30000 = false ∧
    openDrive.lkc.idleTimer.reached (1000 * openDrive.stc.cfg.idle) = false ∧
    openDrive.lkc.windowTimer.reached (1000 * openDrive.stc.cfg.window) = false ∧
    openDrive.lkc.sessionTimer.reached 60000 = false := by
  decide

/-- EntryEndsInCharge: 5 digits, 6 digits; the ATT faulty mark, and a counter at W. -/
theorem test_premises_entry_ends :
    (entryDrive code).powered = true ∧ (entryDrive code).stc.lawful ∧ (entryDrive code).ksc.chord = .pairing ∧
    (entryDrive code).ksc.pairingTimer.reached 20 = true ∧
    (entryDrive code).ksc.held = some .unlock ∧ (entryDrive code).lkc.lockState = some .locked ∧
    LockState.locked ≠ .erasing ∧ (entryDrive code).enu.state = .collecting ∧
    (entryDrive code).enu.purpose = some .unlock ∧ (entryDrive [1, 2, 3, 4, 5]).enu.buffer.length < 6 ∧
    6 ≤ (entryDrive code).enu.buffer.length ∧ (entryDrive code).enu.overlong = false ∧
    (entryDrive code).atg.attFaulty = false ∧ (entryDrive code).atg.counter < (entryDrive code).stc.cfg.W ∧
    { (entryDrive code).atg with attFaulty := true }.attFaulty = true ∧
    (entryDrive code).stc.cfg.W ≤ { (entryDrive code).atg with counter := 10 }.counter := by
  unfold Stc.lawful
  decide

/-- EntryEndsInCharge: ENROLL1, and ENROLL2 whose digits differ, agree in BLANK, and agree in and out of a session. -/
theorem test_premises_entry_enrolls :
    (∀ s ∈ [confirming (inLock .blank) code, confirming openDrive code, confirming openDrive [1],
        confirming lockedDrive code],
      s.powered = true ∧ s.stc.lawful ∧ s.ksc.chord = .pairing ∧ s.ksc.pairingTimer.reached 20 = true ∧
      s.ksc.held = some .unlock ∧ s.enu.state = .collecting ∧ s.enu.purpose = some .enroll2 ∧
      6 ≤ s.enu.buffer.length ∧ s.enu.overlong = false ∧ s.enu.order = some order1) ∧
    (confirming (inLock .blank) code).lkc.lockState = some .blank ∧
    (confirming openDrive code).lkc.lockState = some .opened ∧ LockState.opened ≠ .blank ∧
    (confirming openDrive code).lkc.session = true ∧ (confirming openDrive code).slt.driveKey = some (.drive 1) ∧
    (confirming openDrive code).enu.buffer = (confirming openDrive code).enu.confirm ∧
    (confirming openDrive [1]).enu.buffer ≠ (confirming openDrive [1]).enu.confirm ∧
    (confirming lockedDrive code).lkc.session = false ∧
    { (confirming openDrive []).enu with purpose := some .enroll1 }.purpose = some .enroll1 := by
  unfold Stc.lawful
  decide

/-- ChargeCompletes, in LOCKED and in ERASING. -/
theorem test_premises_charge :
    (let s := withWrite (checkingDrive code .unlock adminSlot 1) (.att 1) (some .charge) 1
     s.ppt.restartPending = false ∧ s.stc.writing = some (writingOf (.att 1) (some .charge) 1) ∧
     s.atg.check = some { purpose := .unlock, step := .verifying } ∧ s.slt.verification.isSome = true ∧
     s.lkc.lockState ≠ some .erasing) ∧
    (inErasing (withWrite (checkingDrive code .unlock adminSlot 1) (.att 1) (some .charge) 1)).lkc.lockState =
      some .erasing := by decide

/-- A failed range write of an install leaves RNG0 damaged whatever its attempts left, and one of a first enrollment
leaves what they left (R112, R161). -/
theorem test_failed_range_write :
    ((Cells.manufacture.afterMismatch (.rng 0 .unused) 1 .oldImage).afterFailure ⟨.rng 0 .unused, none⟩ |>.rng) =
      Cells.manufacture.rng.set 0 .torn ∧
    ((Cells.manufacture.afterMismatch (.rng 0 .unused) 1 .oldImage).afterFailure
      ⟨.rng 0 .unused, some .firstEnrollment⟩ |>.rng) = Cells.manufacture.rng := by decide

/-- FailedWrites: a failed write of each kind whose rule says what it leaves. -/
theorem test_premises_failed_cells :
    ∀ e ∈ ([⟨.cfg Settings.factory, none⟩, ⟨.ejr .atRest, some .erase⟩, ⟨.rng 7 .unused, none⟩,
        ⟨.rng 0 .unused, some .erase⟩, ⟨.slt 4 .empty, some .retirement⟩, ⟨.slt 0 .empty, some .erase⟩,
        ⟨.att 0, some .refund⟩] : List QueueEntry),
      (withWrite lockedDrive e.write e.awaiter 2).powered = true ∧
      (withWrite lockedDrive e.write e.awaiter 2).stc.writing = some (writingOf e.write e.awaiter 2) ∧
      (writingOf e.write e.awaiter 2).entry = e ∧ (writingOf e.write e.awaiter 2).attempt ≠ 1 := by decide

/-- FailedWrites: the first attempt, the second, and a faulty cell. -/
theorem test_premises_failed_writes :
    (withWrite lockedDrive (.att 1) (some .charge) 1).stc.writing = some (writingOf (.att 1) (some .charge) 1) ∧
    (withWrite lockedDrive (.att 1) (some .charge) 1).stc.faulty[(Cell.att).index] = false ∧
    (writingOf (.att 1) (some .charge) 2).attempt ≠ 1 ∧
    (withWrite (checkingDrive code .unlock adminSlot 1) (.att 1) (some .charge) 2).atg.check.isSome = true := by decide

/-- StoreWriteCompletes. -/
theorem test_premises_write_completes :
    (let s := withWrite fullQueue (.rng 7 .unused) none 1
     s.stc.writing = some (writingOf (.rng 7 .unused) none 1) ∧ s.ppt.restartPending = false ∧
     s.slt.heldRetirement = none ∧ s.slt.build = none) := by decide

/-- VerificationFails: no back-off at n = F, a back-off at n = F + 1 and n = W - 1, a wipe at n = W. -/
theorem test_premises_verification_fails :
    (checkingDrive [9, 9, 9, 9, 9, 9] .unlock adminSlot 3).enu.state = .checking ∧
    (checkingDrive [9, 9, 9, 9, 9, 9] .unlock adminSlot 3).atg.counter ≤ Settings.factory.F ∧
    Settings.factory.F < (checkingDrive [9, 9, 9, 9, 9, 9] .unlock adminSlot 4).atg.counter ∧
    (checkingDrive [9, 9, 9, 9, 9, 9] .unlock adminSlot 9).atg.counter < Settings.factory.W ∧
    Settings.factory.W ≤ (checkingDrive [9, 9, 9, 9, 9, 9] .unlock adminSlot 10).atg.counter ∧
    (∀ n ∈ [3, 4, 9, 10],
      (checkingDrive [9, 9, 9, 9, 9, 9] .unlock adminSlot n).slt.verification = some (inFlight
        (checkingDrive [9, 9, 9, 9, 9, 9] .unlock adminSlot n).slt.slots [9, 9, 9, 9, 9, 9] .unlock) ∧
      (checkingDrive [9, 9, 9, 9, 9, 9] .unlock adminSlot n).lkc.lockState ≠ some .erasing ∧
      (checkingDrive [9, 9, 9, 9, 9, 9] .unlock adminSlot n).stc.lawful ∧
      (checkingDrive [9, 9, 9, 9, 9, 9] .unlock adminSlot n).stc.cfg = Settings.factory) ∧
    0 < Settings.factory.B ∧ 0 < Settings.factory.C := by
  unfold Stc.lawful
  decide

/-- VerificationFails: another code matches no slot, and the code of a user slot is no success of ADMIN purpose. -/
theorem test_premises_no_match :
    (∀ e : SnapSlot, ¬ slotMatches (checkingDrive [9, 9, 9, 9, 9, 9] .unlock adminSlot 3).slt.slots [9, 9, 9, 9, 9, 9]
      { e with verifier := verifier }) ∧
    snapshotOf (checkingDrive [9, 9, 9, 9, 9, 9] .unlock adminSlot 3).slt.slots =
      [{ slot := 0, codeLength := 6, verifier := verifier }] ∧
    (∀ (before after : List SnapSlot) (e : SnapSlot),
      [({ slot := 1, codeLength := 6, verifier := verifier } : SnapSlot)] = before ++ e :: after → e.slot ≠ 0) ∧
    slotMatches ((Vector.replicate 5 SlotRecord.empty).set 1 onceSlot) code
      { slot := 1, codeLength := 6, verifier := verifier } := by
  refine ⟨fun e h => absurd h.2.1 (show ¬ verifierAccepts verifier [9, 9, 9, 9, 9, 9] = true by decide), by decide, ?_,
    by decide, by decide, _, _, rfl⟩
  intro before after e h
  cases before with
  | nil => cases h; decide
  | cons _ l => cases l <;> exact nomatch h

/-- VerificationSucceeds: the admin slot, first of the snapshot, without and with an active back-off. -/
theorem test_premises_verification_succeeds :
    (checkingDrive code .admin adminSlot 1).powered = true ∧ (checkingDrive code .admin adminSlot 1).stc.lawful ∧
    slotMatches (checkingDrive code .admin adminSlot 1).slt.slots code
      { slot := 0, codeLength := 6, verifier := verifier } ∧
    snapshotOf (checkingDrive code .admin adminSlot 1).slt.slots =
      [] ++ { slot := 0, codeLength := 6, verifier := verifier } :: [] ∧
    (checkingDrive code .admin adminSlot 1).slt.slots[0] = adminSlot ∧
    (checkingDrive code .admin adminSlot 1).slt.verification = some (inFlight
      (checkingDrive code .admin adminSlot 1).slt.slots code .admin) ∧
    (checkingDrive code .admin adminSlot 1).lkc.lockState ≠ some .erasing ∧
    { checkingDrive code .admin adminSlot 5 with atg := (holdoffDrive 0).atg }.atg.bko.active.isSome = true :=
  ⟨by decide, by unfold Stc.lawful; decide, ⟨by decide, by decide, _, _, rfl⟩, by decide, by decide, by decide, by decide,
    by decide⟩

/-- VerificationSucceeds: a once slot, with room in the queue and with none. -/
theorem test_premises_retire :
    (checkingDrive code .unlock onceSlot 1).slt.verification = some (inFlight
      (checkingDrive code .unlock onceSlot 1).slt.slots code .unlock) ∧
    slotMatches (checkingDrive code .unlock onceSlot 1).slt.slots code
      { slot := 0, codeLength := 6, verifier := verifier } ∧
    snapshotOf (checkingDrive code .unlock onceSlot 1).slt.slots =
      [] ++ { slot := 0, codeLength := 6, verifier := verifier } :: [] ∧
    (checkingDrive code .unlock onceSlot 1).slt.slots[0] = onceSlot ∧ onceInfo.once = true ∧
    settingsCount (checkingDrive code .unlock onceSlot 1).stc.queue < 5 ∧
    (checkingDrive code .unlock onceSlot 1).stc.reserve = [] ∧
    (let s : State := { checkingDrive code .unlock onceSlot 1 with stc := fullQueue.stc }
     s.stc.lawful ∧ 5 ≤ settingsCount s.stc.queue ∧ holdsCell s.stc.queue (.slt 0) = false ∧
     holdsCell s.stc.reserve (.slt 0) = false) :=
  ⟨by decide, ⟨by decide, by decide, _, _, rfl⟩, by decide, by decide, by decide, by decide, by decide,
    by unfold Stc.lawful; decide⟩

/-- VerificationSucceeds: a retirement write that ends, agreeing and failed, a back-off being active, and one in
ERASING. -/
theorem test_premises_retirement_end : retiring.powered = true ∧ retiring.stc.lawful ∧
    retiring.ppt.restartPending = false ∧
    retiring.stc.writing = some (writingOf (.slt 0 (.retired onceInfo)) (some .retirement) 2) ∧
    (∀ r ∈ [ReadBack.agrees, .differs .newImage],
      retiring.stc.endsWrite (writingOf (.slt 0 (.retired onceInfo)) (some .retirement) 2) r) ∧
    retiring.atg.check = some { purpose := .unlock, step := .verifying } ∧ retiring.slt.build = none ∧
    retiring.slt.heldRetirement = none ∧ (inErasing retiring).lkc.lockState = some .erasing ∧
    (inErasing retiring).atg = retiring.atg ∧ (inErasing retiring).stc = retiring.stc := by
  refine ⟨by decide, by unfold Stc.lawful; decide, by decide, by decide, ?_, by decide, by decide, by decide, by decide,
    rfl, rfl⟩
  intro r hr
  simp only [List.mem_cons, List.not_mem_nil, or_false] at hr
  obtain rfl | rfl := hr
  · exact .inl rfl
  · exact .inr ⟨⟨_, rfl⟩, by decide⟩

/-- RefundCompletes: in LOCKED, with the cancel mark, with an unwrap in flight, in ERASING, in OPEN of either purpose;
and a write that fails. -/
theorem test_premises_refund :
    (refunding lockedDrive .unlock false).stc.writing = some (writingOf (.att 0) (some .refund) 2) ∧
    (refunding lockedDrive .unlock false).atg.check = some { purpose := .unlock, step := .refunding } ∧
    (refunding lockedDrive .unlock false).slt.matchHold = some hold ∧
    (refunding lockedDrive .unlock false).enu.state = .checking ∧
    (refunding lockedDrive .unlock false).slt.unwrap = none ∧
    (refunding lockedDrive .unlock true).enu.cancel = true ∧
    (refunding (unwrapping lockedDrive false) .unlock false).slt.unwrap = some (unwrapOf false) ∧
    (inErasing (refunding lockedDrive .unlock false)).lkc.lockState = some .erasing ∧
    (refunding openDrive .admin false).lkc.lockState = some .opened ∧ (Purpose.unlock : Purpose) ≠ .admin ∧
    (writingOf (.att 0) (some .refund) 2).attempt ≠ 1 ∧ ReadBack.differs .oldImage = .differs .oldImage := by decide

/-- RefundCompletes: a mask with a guarded range whose key the drive key recovers, a public range, and one UNUSED. -/
theorem test_premises_refund_keys :
    maskHas (refunding lockedDrive .unlock false).slt.slots[hold.slot].mask 0 = true ∧
    (refunding lockedDrive .unlock false).rgt.live[0] = .defined (rangeOf 0 10000 .guarded .deny) ∧
    (rangeOf 0 10000 .guarded .deny).wrapped = some { key := .range 2, under := .drive 1 } ∧
    unwrapKey hold.wrapped hold.codeKey = some (.drive 1) ∧
    (refunding lockedDrive .unlock false).rgt.live[1].isClosed = false ∧
    (refunding lockedDrive .unlock false).rgt.live[7].wrapped? = none := by decide

/-- UnlockCompletes: delivered to an attached and to an unattached drive, and discarded. -/
theorem test_premises_unlock :
    (unwrapping lockedDrive false).slt.unwrap = some (unwrapOf false) ∧ (unwrapOf false).discard = false ∧
    (unwrapping lockedDrive false).lkc.lockState = some .locked ∧
    (unwrapOf false).rangeKeys[0] = some (.range 2) ∧ lockedDrive.rgt.live[0] = .defined (rangeOf 0 10000 .guarded .deny) ∧
    maskHas (unwrapping lockedDrive false).slt.slots[0].mask 0 = true ∧ (unwrapOf false).rangeKeys[7] = none ∧
    (unwrapOf true).discard = true := by decide

/-- UnlockCompletes: an UNLOCK entry and an ADMIN entry in COLLECTING, a check, and BLANK. -/
theorem test_premises_unlock_entries :
    (collecting (unwrapping lockedDrive false) code).enu.state = .collecting ∧
    (collecting (unwrapping lockedDrive false) code).enu.purpose = some .unlock ∧
    (collecting (unwrapping lockedDrive false) code).lkc.lockState = some .locked ∧
    { (collecting lockedDrive code).enu with purpose := some .admin }.purpose ≠ some .unlock ∧
    (unwrapping (checkingDrive code .unlock adminSlot 1) false).enu.state = .checking ∧
    (unwrapping (inLock .blank) false).lkc.lockState = some .blank ∧ (holdoffDrive 1).enu.state = .holdoff := by decide

/-- EnrollBuildEnds: a code already held, and a new one. -/
theorem test_premises_enroll :
    (building code).slt.build = some (.enrolling code order1 (.drive 1) false) ∧
    (building code).lkc.lockState ≠ some .erasing ∧ holdsCode (building code).slt.slots 1 code = true ∧
    holdsCode (building [9, 9, 9, 9, 9, 9]).slt.slots 1 [9, 9, 9, 9, 9, 9] = false ∧
    settingsCount (building code).stc.queue < 5 ∧ (building code).stc.reserve = [] := by decide

/-- FirstEnrollBuildEnds: the build, over an empty queue and over a full one, with a range that was DEFINED and whose
key is held, and ones that were not. -/
theorem test_premises_first_build :
    (∀ s ∈ [firstBuild, staleBuild, { staleBuild with stc := fullQueue.stc }],
      s.powered = true ∧ s.slt.build = some (.firstBuilding code) ∧ s.stc.lawful) ∧
    staleBuild.stc.queue = [] ∧ staleBuild.stc.reserve = [] ∧ staleBuild.stc.writing = none ∧
    staleBuild.rgt.live[7] ≠ .unused ∧ staleBuild.rgt.live[1] = .unused ∧ staleBuild.lkc.keyBuffer[7] ≠ none ∧
    [1, 2, 3, 4, 5, 6, 7].filter (fun k : RangeIx => staleBuild.rgt.live[k] ≠ .unused) = [7] ∧
    settingsCount fullQueue.stc.queue = 5 := by
  unfold Stc.lawful
  decide

/-- FirstEnrollBuildEnds: the ends of the range write and of the SLT0 write, failed so far or not. -/
theorem test_premises_first_enroll :
    (∀ failed ∈ [true, false], ∀ w ∈ [CellWrite.rng 7 .unused, .slt 0 adminSlot],
      (firstWrites failed w).powered = true ∧ (firstWrites failed w).ppt.restartPending = false ∧
      (firstWrites failed w).stc.writing = some (writingOf w (some .firstEnrollment) 2) ∧
      (writingOf w (some .firstEnrollment) 2).attempt ≠ 1 ∧
      (firstWrites failed w).slt.build = some (.firstWriting [] failed (.code code 0) wrappedDrive) ∧
      (firstWrites failed w).slt.heldRetirement = none ∧ settingsCount (firstWrites failed w).stc.queue < 5 ∧
      (firstWrites failed w).stc.reserve = []) := by
  decide

/-- BackoffCourse: a checkpoint at 200 of 300 ticks, none at 50 and none at the preset, and the end. -/
theorem test_premises_backoff :
    (holdoffDrive 200).atg.timer = some { elapsed := 200, preset := 300, phase := 0, checkpointed := 0 } ∧
    (holdoffDrive 200).atg.bko.active = some { count := 5, elapsed := 0 } ∧ (holdoffDrive 200).stc.lawful ∧
    200 % 100 = 0 ∧ 0 < 200 ∧ 0 % 100 = 0 ∧ 200 < 300 ∧ 50 < 0 + 100 ∧ 300 ≤ 300 - 300 % 100 ∧
    (holdoffDrive 300).atg.timer = some { elapsed := 300, preset := 300, phase := 0, checkpointed := 0 } ∧
    (holdoffDrive 300).enu.state = .holdoff := by
  unfold Stc.lawful
  decide

/-- PfwEdgeRecorded: from high after store-ready with a back-off, from high before it, and from low. -/
theorem test_premises_pfw : (holdoffDrive 250).stc.ready = true ∧ (holdoffDrive 250).ppt.pfwLow = false ∧
    (holdoffDrive 250).atg.bko.active = some { count := 5, elapsed := 0 } ∧ State.reset.powered = true ∧
    State.reset.stc.ready = false ∧ State.reset.ppt.pfwLow = false ∧
    { State.reset.ppt with pfwLow := true }.pfwLow = true := by decide

/-- StartsAndLoss: a restart that is pending. -/
theorem test_premises_restart : restartingDrive.powered = true ∧ restartingDrive.ppt.restartPending = true ∧
    restartingDrive.stc.writing = none := by decide

/-- StartsAndLoss: a loss with no write in progress, and one with the write of a slot in progress. -/
theorem test_premises_loss : lockedDrive.powered = true ∧ lockedDrive.stc.writing = none ∧
    (withWrite lockedDrive (.slt 4 .empty) none 1).powered = true ∧
    (withWrite lockedDrive (.slt 4 .empty) none 1).stc.writing = some (writingOf (.slt 4 .empty) none 1) ∧
    Cell.slt 0 ≠ (writingOf (.slt 4 .empty) none 1).entry.cell := by decide

/-- A loss of supply in the program step leaves the cell of the write damaged, one in a read-back that agrees leaves the
new value (R168). -/
theorem test_loss_points :
    (after (.supplyLoss .inProgram) (withWrite lockedDrive (.att 7) none 1)).stc.cells.readAtt = none ∧
    (after (.supplyLoss .inReadBackAgreeing) (withWrite lockedDrive (.att 7) none 1)).stc.cells.readAtt = some 7 := by
  decide

/-- StoreReadyDetermines: each row of the evaluation, at its bounds (F = 3, W = 10), a back-off that resumes and one
that ends at once. -/
theorem test_premises_store_ready :
    (∀ c ∈ [cellsWith 3 .inactive .atRest, cellsWith 4 (backoffOf 4 20) .atRest, cellsWith 4 (backoffOf 4 150) .atRest,
        cellsWith 9 (backoffOf 4 20) .atRest, cellsWith 10 .inactive .atRest],
      (startDrive c).powered = true ∧ (startDrive c).stc.ready = false ∧ (startDrive c).lkc = State.reset.lkc ∧
      (startDrive c).stc.lawful ∧ c.readCfg = some .factory ∧ c.readEjr = some .atRest ∧
      settingsCount (startDrive c).stc.queue < 5 ∧ (startDrive c).stc.reserve = []) ∧
    (cellsWith 4 (backoffOf 4 20) .atRest).readAtt = some 4 ∧ (cellsWith 9 .inactive .atRest).readAtt = some 9 ∧
    (cellsWith 10 .inactive .atRest).readAtt = some 10 ∧ (cellsWith 3 .inactive .atRest).readAtt = some 3 ∧
    (cellsWith 4 (backoffOf 4 20) .atRest).readBko = some (backoffOf 4 20) ∧
    20 < backoffPreset .factory 4 ∧ backoffPreset .factory 4 ≤ 150 := by
  unfold Stc.lawful
  decide

/-- StoreReadyDetermines: damaged cells, and a journal in each phase, with the media attached and not. -/
theorem test_premises_store_ready_damaged :
    ({ Cells.manufacture with att := .torn }.readAtt = none ∧ { Cells.manufacture with bko := .erased }.readBko = none ∧
      { Cells.manufacture with cfg := .torn }.readCfg = none ∧ { Cells.manufacture with idn := .torn }.readIdn = none) ∧
    (∀ j ∈ [Journal.at .zeroise 4, .at .ranges 7, sweepJournal, { Journal.atRest with phase := .sweep }],
      (cellsWith 0 .inactive j).readEjr = some j ∧ j.phase ≠ .idle) ∧
    State.reset.mpt.attached = false ∧ (sweepDrive 1).mpt.attached = true ∧ (sweepDrive 1).mpt.capacity = some 100000 ∧
    sweepJournal.cursor = some 32768 ∧ sweepJournal.sweepEnd = some 99999 ∧ State.reset.mpt.outbound = [] := by
  decide

/-- StoreReadyDetermines: the sequence byte of an intact cell, of a damaged one, and of one with another check code. -/
theorem test_premises_store_ready_sequences :
    (cellsWith 3 .inactive .atRest).readsSequence 1 .att ∧ Cells.manufacture.readsSequence 0 (.slt 4) ∧
    { Cells.manufacture with cfg := .torn }.readsSequence 0 .cfg ∧
    { Cells.manufacture with att := .written 9 3 (crc8 [9, 3] + 1) }.readsSequence 0 .att := by
  refine ⟨⟨fun h => absurd h (by decide), ?_⟩, ⟨fun h => absurd h (by decide), ?_⟩, ⟨fun _ => rfl, ?_⟩,
    ⟨fun _ => rfl, ?_⟩⟩
  · rintro p c k ⟨⟩ _
    rfl
  · rintro p c k ⟨⟩ _
    rfl
  · rintro p c k ⟨⟩
  · rintro p c k ⟨⟩ h
    exact absurd h (by decide)

/-- StoreReadyDetermines: two ranges that share an LBA, the second set aside, and a public range with its key. -/
theorem test_premises_store_ready_ranges :
    (RangeRecord.factoryZero none).conflicts (.defined publicRange) = true ∧
    (∀ seq, ((rngFormat 3).image seq (.defined publicRange)).read (rngFormat 3) = some (.defined publicRange)) ∧
    (idnFormat.image 0 identity).read idnFormat = some identity ∧ publicRange.cls = .pub ∧
    publicRange.wrapped = some { key := .range 4, under := .device } :=
  ⟨by decide, fun seq => Image.read_image _ _ _ (by decide), Image.read_image _ _ _ rfl, rfl, rfl⟩

/-- GatesInOrder, StatusReports, FlagRequests: each gate, and a request that each refuses. -/
theorem test_premises_gates :
    restartingDrive.powered = true ∧ restartingDrive.ppt.restartPending = true ∧ openDrive.ppt.restartPending = false ∧
    State.reset.lkc.lockState = none ∧ (inLock .erasing).lkc.lockState = some .erasing ∧
    lockedDrive.lkc.session = false ∧ openDrive.lkc.session = true ∧ openDrive.lkc.lockState ≠ none ∧
    (4095 : BitVec 16).toNat < 4096 ∧
    (∀ s ∈ [restartingDrive, State.reset, inLock .erasing, inLock .blank], s.gate .admin true =
      some (if s.lkc.lockState = some .blank then .noSession else .busy)) ∧
    openDrive.gate .admin (enrollCoded 3 0) = some .format ∧ (requestGate (.enroll 1 3 0 0)).isSome = true ∧
    (inLock .erasing).ppt.restartPending = false ∧ State.reset.ppt.restartPending = false ∧
    (requestGate (.ack 0x1000)).any (fun g => (inLock .erasing).gate g.1 g.2.1 = some .format) = true := by decide

/-- StatusReports: before store-ready, and in OPEN with an identity and with the IDN fault mark. -/
theorem test_premises_status : State.reset.powered = true ∧ State.reset.ppt.restartPending = false ∧
    State.reset.lkc.lockState = none ∧ installDrive.lkc.lockState = some .opened ∧ installDrive.lkc.idnFault = false ∧
    installDrive.stc.idn = some identity ∧ { openDrive.lkc with idnFault := true }.idnFault = true := by decide

/-- SmallRequests, SlotRequests, RangeRequests, EraseStarts: a session admits them. -/
theorem test_premises_requests : openDrive.admits .openOther ∧ openDrive.admits .admin ∧
    idleDrive.lkc.sessionTimer.reached 60000 = true ∧ idleDrive.powered = true ∧
    openDrive.enu.state = .idle ∧ openDrive.slt.build = none ∧ settingsCount openDrive.stc.queue < 5 ∧
    openDrive.stc.reserve = [] ∧ openDrive.stc.lawful := by
  unfold State.admits Stc.lawful
  decide

/-- SmallRequests: writes of no byte, of two and of fewer than the length asks for, a check code that does not match, a
byte too many, a type that is none's, a SET SETTINGS of four bytes and one of 21, and a request that is well-formed. -/
theorem test_premises_bad_panel :
    [(0x16 : Byte), 0x00].length < 3 ∧ ([] : List Byte)[(0 : Byte).toNat]? ≠ some (crc8 [0x16, 0x00]) ∧
    [(0x28 : Byte)][(0 : Byte).toNat]? ≠ some (crc8 [0x16, 0x00]) ∧
    [(0x29 : Byte)][(0 : Byte).toNat]? = some (crc8 [0x16, 0x00]) ∧
    [(0x29 : Byte), 0x00][(0 : Byte).toNat]? = some (crc8 [0x16, 0x00]) ∧
    (0 : Byte).toNat + 1 < [(0x29 : Byte), 0x00].length ∧ [(0x29 : Byte)].length = (0 : Byte).toNat + 1 ∧
    requestLength 0x16 0 ∧ ¬ requestLength 0x06 0 ∧ ¬ requestLength 0x14 4 ∧ ¬ requestLength 0x14 0 ∧
    requestLength 0x14 21 ∧ ¬ requestLength 0x14 24 ∧
    [(crc8 [0x06, 0x00])][(0 : Byte).toNat]? = some (crc8 [0x06, 0x00]) := by
  refine ⟨?_, ?_, ?_, ?_, ?_, ?_, ?_, ?_, ?_, ?_, ?_, ?_, ?_, ?_⟩ <;> (try unfold requestLength) <;> decide

/-- SlotRequests: ENROLL of slot 0 and of slot 4, in IDLE, and with an entry or a build under way; what is no acceptable
slot, role, mask or once; REMOVE of slot 0, of slot 5, of an EMPTY slot, and of one that is not, with a full queue. -/
theorem test_premises_slot_requests :
    BitVec.allOnes 8 = (0xFF : Mask) ∧ (4 : SlotIx) ≠ 0 ∧ Role.reader ≠ .admin ∧
    (collecting openDrive code).admits .admin ∧ (collecting openDrive code).enu.state ≠ .idle ∧
    (building code).admits .admin ∧ (building code).slt.build ≠ none ∧ 3 ≤ (3 : Byte).toNat ∧ 2 ≤ (2 : Byte).toNat ∧
    5 ≤ (5 : Byte).toNat ∧ ¬ ((0x00 : Byte) = 0x00 ∧ (0xFE : Byte) = 0xFF ∧ (0x00 : Byte) = 0x00) ∧
    openDrive.slt.slots[4] = .empty ∧
    { openDrive.slt with slots := openDrive.slt.slots.set 4 onceSlot }.slots[4] ≠ .empty ∧
    fullQueue.admits .admin ∧ 5 ≤ settingsCount fullQueue.stc.queue ∧ holdsCell fullQueue.stc.queue (.slt 4) = false ∧
    holdsCell fullQueue.stc.reserve (.slt 4) = false := by
  unfold State.admits
  decide

/-- RangeRequests, refused: an index of 8, a class of 03h, HIDDEN with FILL, and one sector past the last LBA; an LBA
shared, up to the end and by its first; and a fresh PUBLIC key with the IDN fault mark. -/
theorem test_premises_range_refused :
    openDrive.rangeTest 8 0 1 1 0 0 .format ∧ openDrive.rangeTest 7 50000 1 3 0 0 .format ∧
    openDrive.rangeTest 7 50000 1 2 0 1 .format ∧ openDrive.rangeTest 7 4294967295 2 1 0 0 .format ∧
    openDrive.rangeTest 7 40099 0 1 0 0 .overlap ∧ openDrive.rangeTest 7 39999 2 1 0 0 .overlap ∧
    faultDrive.rangeTest 7 4294967295 1 0 0 0 .fault ∧ faultDrive.admits .admin := by
  refine ⟨.inl ⟨?_, rfl⟩, .inl ⟨?_, rfl⟩, .inl ⟨?_, rfl⟩, .inl ⟨?_, rfl⟩, .inr (.inl ⟨?_, ?_, rfl⟩),
    .inr (.inl ⟨?_, ?_, rfl⟩), .inr (.inr ⟨?_, ?_, ?_, rfl⟩), ?_⟩ <;>
    (first | unfold rangeForm | unfold State.rangeOverlaps | unfold State.rangeLacksKey | unfold State.admits) <;> decide

/-- RangeRequests, accepted: a new range at the last LBA, closed and public; one that stays closed, and one that becomes
public. -/
theorem test_premises_range_accepted :
    (∀ x ∈ [((7 : RangeIx), (4294967295 : Lba), (1 : Lba), RangeClass.hidden), (7, 4294967295, 0, .pub),
        (0, 0, 10000, .guarded), (0, 0, 10000, .pub)],
      ∀ r, ¬ keyedDrive.rangeTest (BitVec.ofNat 8 x.1.val) x.2.1 x.2.2.1 x.2.2.2.code 0 0 r) ∧
    keyedDrive.admits .admin ∧ keyedDrive.stc.idn = some identity ∧ keyedDrive.slt.driveKey = some (.drive 1) ∧
    keyedDrive.rgt.staged[7] = .unused ∧ keyedDrive.rgt.staged[0] = .defined (rangeOf 0 10000 .guarded .deny) ∧
    WritePolicy.readWrite.code = 0 ∧ DenialMode.deny.code = 0 := by
  refine ⟨?_, by unfold State.admits; decide, by decide, by decide, by decide, by decide, by decide, by decide⟩
  have form : ∀ x ∈ [((7 : RangeIx), (4294967295 : Lba), (1 : Lba), RangeClass.hidden), (7, 4294967295, 0, .pub),
      (0, 0, 10000, .guarded), (0, 0, 10000, .pub)],
      rangeForm (BitVec.ofNat 8 x.1.val) x.2.1 x.2.2.1 x.2.2.2.code 0 0 ∧
      ¬ keyedDrive.rangeOverlaps (BitVec.ofNat 8 x.1.val) x.2.1 x.2.2.1 ∧
      ¬ keyedDrive.rangeLacksKey (BitVec.ofNat 8 x.1.val) x.2.2.2.code := by
    unfold rangeForm State.rangeOverlaps State.rangeLacksKey
    decide
  rintro x hx r (h | h | h)
  · exact h.1 (form x hx).1
  · exact (form x hx).2.1 h.2.1
  · exact (form x hx).2.2 h.2.2.1

/-- SettingsTaken: room in the queue, and none; a pair that stands and one that breaks W ≥ F+2. -/
theorem test_premises_settings : fullQueue.powered = true ∧ fullQueue.admits .admin ∧
    5 ≤ settingsCount fullQueue.stc.queue ∧
    holdsCell fullQueue.stc.queue .cfg = false ∧ holdsCell fullQueue.stc.reserve .cfg = false ∧
    settingsCoded [(7, 1)] = true ∧ openDrive.admits .admin ∧ openDrive.stc.lawful ∧
    settingsCount openDrive.stc.queue < 5 ∧ openDrive.stc.reserve = [] ∧ (7 : Byte).toNat ≤ 7 ∧
    settingInRange 1 18 = true ∧ isPairField 1 = true ∧
    ¬ (openDrive.stc.cfg.setField 1 18).F + 2 ≤ (openDrive.stc.cfg.setField 1 18).W ∧
    (openDrive.stc.cfg.setField 1 8).F + 2 ≤ (openDrive.stc.cfg.setField 1 8).W ∧ 4 + 2 ≤ 6 ∧ 5 < 4 + 2 := by
  unfold State.admits Stc.lawful
  decide

/-- SettingsTaken, of a running back-off of count 5: an F at its count, a B whose preset it has not reached and one whose
preset it has. -/
theorem test_premises_settings_backoff : openHoldoff.powered = true ∧ openHoldoff.admits .admin ∧
    settingsCount openHoldoff.stc.queue < 5 ∧ openHoldoff.stc.reserve = [] ∧
    openHoldoff.atg.timer = some { elapsed := 100, preset := 300, phase := 0, checkpointed := 0 } ∧
    openHoldoff.atg.bko.active = some { count := 5, elapsed := 0 } ∧
    5 ≤ (openHoldoff.stc.cfg.setField 1 5).F ∧ 100 < backoffPreset (openHoldoff.stc.cfg.setField 3 10) 5 ∧
    backoffPreset (openHoldoff.stc.cfg.setField 3 5) 5 ≤ 100 := by
  unfold State.admits
  decide

/-- SettingsTaken, of the idle preset: to 0, from 0, and to one that the timer has reached; and of the attach window. -/
theorem test_premises_settings_presets : openDrive.lkc.lockState = some .opened ∧ openDrive.stc.cfg.idle ≠ 0 ∧
    { openDrive.stc.cfg with idle := 0 }.idle = 0 ∧ openDrive.gate .admin true = none ∧
    idleDrive.lkc.idleTimer = .running 900000 ∧ pendingDrive.lkc.windowTimer = .running 30000 ∧
    (Timer.running 30000).reached (1000 * 5) = true := by
  refine ⟨?_, ?_, ?_, ?_, ?_, ?_, ?_⟩ <;> decide

/-- SettingsTaken: an idle lock timer and an attach window that a new preset finds reached, in a session. -/
theorem test_premises_settings_reached : (Timer.running 900000).reached (1000 * 1) = true ∧
    idleDrive.gate .admin true = none ∧ pendingDrive.gate .admin true = none :=
  ⟨by decide, by decide, by decide⟩

/-- SettingsTaken: requests that make those changes have their codes and are held in nothing. -/
theorem test_premises_settings_codes :
    settingsCoded [(1, 5)] = true ∧ settingsCoded [(3, 5), (5, 0)] = true ∧ settingsCoded [(5, 1), (6, 5)] = true ∧
    heldList .factory [(1, 5)] = 0 ∧ heldList .factory [(3, 10)] = 0 ∧ heldList .factory [(3, 5), (5, 0)] = 0 ∧
    heldList .factory [(5, 1), (6, 5)] = 0 := by
  decide

/-- EraseSteps: the journal writes of the last slot, the last range, a sweep with and without a cursor, and the end; the
writes of the last slot, of two ranges and of BKO, at their second attempt. -/
theorem test_premises_erase_steps :
    (∀ j ∈ [Journal.at .zeroise 4, Journal.at .ranges 7, { Journal.atRest with phase := .sweep }, sweepJournal,
        Journal.atRest],
      (erasingWrite j (.ejr j)).powered = true ∧ (erasingWrite j (.ejr j)).ppt.restartPending = false ∧
      (erasingWrite j (.ejr j)).stc.writing = some (writingOf (.ejr j) (some .erase) 2) ∧
      (erasingWrite j (.ejr j)).ere.awaited = some .ejr ∧ (erasingWrite j (.ejr j)).ere.journal = j ∧
      (erasingWrite j (.ejr j)).slt.build = none ∧ (erasingWrite j (.ejr j)).slt.heldRetirement = none) ∧
    (erasingWrite (.at .zeroise 4) (.slt 4 .empty)).ere.awaited = some (.slt 4) ∧
    (erasingWrite (.at .ranges 6) (.rng 6 (.factory 6))).ere.awaited = some (.rng 6) ∧
    (erasingWrite (.at .ranges 7) (.rng 7 (.factory 7))).ere.awaited = some (.rng 7) ∧
    (erasingWrite (.at .ranges 7) (.bko .inactive)).ere.awaited = some .bko ∧
    (erasingWrite (.at .ranges 7) (.bko .inactive)).ere.journal.phase = .ranges := by decide

/-- EraseSteps: a sweep's record written with media attached of a capacity, of none, and an ATTACH that meets a pause. -/
theorem test_premises_sweep_steps :
    (let s : State := { erasingWrite sweepJournal (.ejr sweepJournal) with mpt := (sweepDrive 1).mpt }
     s.mpt.attached = true ∧ s.mpt.capacity = some 100000 ∧ (100000 : BitVec 64) ≠ 0 ∧ s.mpt.outbound.length < 8 ∧
     s.ere.journal.cursor = some 32768 ∧ s.ere.journal.sweepEnd = some 99999) ∧
    { State.reset.mpt with attached := true, capacity := some 0 }.capacity = some 0 ∧
    pausedSweep.powered = true ∧ pausedSweep.ere.journal.phase = .sweep ∧ pausedSweep.ere.sweepState = some .paused ∧
    pausedSweep.ere.journal.cursor = some 32768 ∧ pausedSweep.ere.journal.sweepEnd = some 99999 := by decide

/-- EraseSteps: the store's law holds where the awaited writes end. -/
theorem test_premises_erase_law : (erasingWrite (.at .zeroise 4) (.ejr (.at .zeroise 4))).stc.lawful := by
  unfold Stc.lawful
  decide

/-- EraseSteps: journals in their range, the last of each phase among them, and the ends of a slot's and of BKO's write,
which leave a journal write awaited. -/
theorem test_premises_erase_journal :
    (∀ j ∈ [Journal.at .zeroise 0, .at .zeroise 4, .at .ranges 0, .at .ranges 7, sweepJournal, .atRest],
      j.inRange = true) ∧
    (erasingWrite (.at .zeroise 4) (.slt 4 .empty)).stc.lawful ∧
    (after (.storeWriteEnd .agrees) (erasingWrite (.at .zeroise 4) (.slt 4 .empty))).ere.awaited = some .ejr ∧
    (after (.storeWriteEnd .agrees) (erasingWrite (.at .ranges 7) (.bko .inactive))).ere.awaited = some .ejr := by
  unfold Stc.lawful
  decide

/-! ### One step each, on small states -/

/-- The first digit in BLANK begins the enrollment of slot 0 (R30, R31). -/
theorem test_first_digit_in_blank :
    (after (.keyPressAccepted (.digit 7)) (inLock .blank)).enu.purpose = some .enroll1 ∧
    (after (.keyPressAccepted (.digit 7)) (inLock .blank)).enu.buffer = [7] := by decide

/-- A UNLOCK-purpose failure at n = W starts a wipe, at n = 4 a back-off of 150 ticks (R74, R77's table). -/
theorem test_failure_decision :
    (after .verificationComplete (checkingDrive [9, 9, 9, 9, 9, 9] .unlock adminSlot 10)).lkc.lockState =
      some .erasing ∧
    (after .verificationComplete (checkingDrive [9, 9, 9, 9, 9, 9] .unlock adminSlot 4)).atg.timer.map
      BackoffTimer.preset = some 150 := by decide

/-- A user code of ADMIN purpose is no success (R52), and the admin code is. -/
theorem test_admin_purpose :
    (after .verificationComplete (checkingDrive code .admin adminSlot 1)).atg.counter = 0 ∧
    (after .verificationComplete (checkingDrive [9, 9, 9, 9, 9, 9] .admin adminSlot 1)).atg.counter = 1 := by decide

/-- A once code is spent before its refund (R53). -/
theorem test_once_retires :
    (after .verificationComplete (checkingDrive code .unlock onceSlot 1)).slt.slots[0] = .retired onceInfo ∧
    (after .verificationComplete (checkingDrive code .unlock onceSlot 1)).atg.counter = 1 := by decide

/-- A HOSTLOCK closes the drive, purges the guarded context and notices LOCKED (R7). -/
theorem test_hostlock :
    (after (.hostlock false) openDrive).lkc.lockState = some .locked ∧
    (after (.hostlock false) openDrive).cxm.entries[0] = .purging 0 0 .onRead ∧
    (after (.hostlock false) openDrive).mpt.outbound = [.purge 0 0, .state .locked] := by decide

/-- A FILL range outside the mask answers a READ with FILL and a WRITE with DENY LOCKED (R119). -/
theorem test_fill :
    (after (.access false 2 20000 1 .read) openDrive).mpt.outbound = [.fill 2 1 false] ∧
    (after (.access false 2 20000 1 .write) openDrive).mpt.outbound = [.deny 2 .locked] := by decide

/-- An overlapping SET RANGE is answered OVERLAP and stages nothing (R107). -/
theorem test_overlap :
    (after (.setRange 3 9999 2 1 0 0) openDrive).ppt.reply.payload.head? = some 0x04 ∧
    (after (.setRange 3 9999 2 1 0 0) openDrive).rgt = openDrive.rgt := by decide

/-- STATUS before store-ready shows FFh as the lock state (R189). -/
theorem test_status_starting :
    (after .status State.reset).ppt.reply.payload.length = 74 ∧
    (after .status State.reset).ppt.reply.payload.head? = some 0xFF := by decide

/-- An event that restarts a timer is taken first, and the expiry behind it does not occur (R89, R99). -/
theorem test_restarted_first :
    (let s : State := lockKeyDrive { lockedDrive with enu := { lockedDrive.enu with standbyTimer := .running 30000 } }
     (after .standbyTimerExpiry (after .pairingTimerExpiry s)).enu.standby = false ∧
     (after .standbyTimerExpiry s).enu.standby = true) := by decide

/-- A PFW edge at a multiple of 100 ticks leaves that multiple's checkpoint due (R81, R82). -/
theorem test_edge_before_checkpoint :
    (after .pfwEdge (holdoffDrive 200)).atg.timer.map BackoffTimer.checkpointDue = some true ∧
    (after .backoffCheckpoint (after .pfwEdge (holdoffDrive 200))).atg.timer.map BackoffTimer.checkpointed =
      some 200 := by decide

/-- An image whose check code does not match reads damaged (R160). -/
theorem test_check_code : Image.read attFormat (.written 1 3 (crc8 [1, 3])) = some 3 ∧
    Image.read attFormat (.written 1 3 (crc8 [1, 3] + 1)) = none := by decide

/-- A line low through a start gives no active edge before it is accepted high (R183). -/
theorem test_low_through_a_start :
    (let s : State := { inLock .locked with ppt := { State.reset.ppt with pfwLow := true } }
     (after .pfwEdge s).ppt.flags = 0 ∧ (after .pfwEdge (after .pfwEdge s)).ppt.isPending .supply = true) := by decide

/-- The states of the witnesses are powered. -/
theorem test_premises_powered :
    ∀ s ∈ [openDrive, dirtyDrive, pendingDrive, lockedDrive, fullQueue, withParked .waiting,
      withContext (.loading 1 3 2 (.running 20)), sweepDrive 2, holdoffDrive 200, retiring,
      building code, refunding lockedDrive .unlock false, unwrapping lockedDrive false, inLock .blank,
      checkingDrive code .unlock adminSlot 1], s.powered = true := by decide

end Sys2Proof.Tests
end

section
/-! The back-off's duration: the two cases of R77, its ceilings, and the settings' ranges they rest on. -/

namespace Sys2Proof.Machine

/-! ### Settings in their ranges (R68, R90) -/

theorem Settings.inRange_iff (c : Settings) : c.inRange = true ↔
    (1 ≤ c.F ∧ c.F ≤ 18 ∧ c.F + 2 ≤ c.W ∧ c.W ≤ 20) ∧ (1 ≤ c.B ∧ c.B ≤ 60) ∧ (60 ≤ c.C ∧ c.C ≤ 3000) ∧
      c.idle ≤ 32767 ∧ 5 ≤ c.window ∧ c.window ≤ 120 := by
  simp only [Settings.inRange, Bool.and_eq_true, decide_eq_true_eq, and_assoc]

theorem Settings.C_le_of_inRange {c : Settings} (h : c.inRange = true) : c.C ≤ 3000 := by
  obtain ⟨-, -, ⟨-, hC⟩, -⟩ := c.inRange_iff.mp h
  exact hC

/-! ### The duration and the preset (R77) -/

variable {c : Settings} {n : Nat}

/-- From the twelfth doubling on the duration is the ceiling, without a product. -/
theorem backoffSeconds_saturated (he : 12 ≤ n - c.F - 1) : backoffSeconds c n = c.C := if_pos he

/-- Before that it is the doubled base, clamped to the ceiling. -/
theorem backoffSeconds_clamped (he : n - c.F - 1 < 12) :
    backoffSeconds c n = min (c.B * 2 ^ (n - c.F - 1)) c.C := if_neg (Nat.not_le.mpr he)

/-- The law of R77: in either case the ceiling in effect bounds the duration. -/
theorem backoffSeconds_le_ceiling (c : Settings) (n : Nat) : backoffSeconds c n ≤ c.C := by
  rcases Nat.lt_or_ge (n - c.F - 1) 12 with he | he
  · rw [backoffSeconds_clamped he]
    exact Nat.min_le_right _ _
  · exact (backoffSeconds_saturated he).le

theorem backoffPreset_eq (c : Settings) (n : Nat) : backoffPreset c n = 10 * backoffSeconds c n := rfl

/-- With the settings in their ranges, C itself is at most 3000 s, and with it every duration. -/
theorem backoffSeconds_le_of_inRange (h : c.inRange = true) (n : Nat) : backoffSeconds c n ≤ 3000 :=
  (backoffSeconds_le_ceiling c n).trans (Settings.C_le_of_inRange h)

theorem backoffPreset_le_of_inRange (h : c.inRange = true) (n : Nat) : backoffPreset c n ≤ 30000 := by
  have hD := backoffSeconds_le_of_inRange h n
  rw [backoffPreset_eq]
  omega

end Sys2Proof.Machine
end

namespace Sys2Proof.Machine

/-- Settles O17: the two cases of R77, with its clamp written as a choice, and the ceiling law in each. -/
theorem backoffDuration : Obligations.BackoffDuration := by
  intro c n _ _
  refine ⟨backoffSeconds_saturated, fun he => ?clamp, backoffPreset_eq c n, backoffSeconds_le_ceiling c n,
    fun h => ⟨backoffSeconds_le_of_inRange h n, backoffPreset_le_of_inRange h n⟩⟩
  case clamp =>
    rw [backoffSeconds_clamped he, Nat.min_comm]
    split
    · next hlt => exact Nat.min_eq_left hlt.le
    · next hge => exact Nat.min_eq_right (Nat.le_of_not_lt hge)

end Sys2Proof.Machine

section
/-! The granted span: which sectors a range and the media leave to a query (R104, R117), and which decisions carry a
span (R116 to R121). -/

namespace Sys2Proof.Machine

/-! ### The range that holds an LBA (R104, R116 step 7) -/

theorem RangeRecord.holdsLba_defined {d : RangeDef} {capacity lba : Nat} :
    (RangeRecord.defined d).holdsLba capacity lba = true ↔ d.start.toNat ≤ lba ∧ lba < d.stop capacity := by
  simp only [RangeRecord.holdsLba, Bool.and_eq_true, decide_eq_true_eq]

theorem State.rangeAt_eq_some {s : State} {lba : Nat} {r : RangeIx} {d : RangeDef} (h : s.rangeAt lba = some (r, d)) :
    s.rgt.live[r] = .defined d ∧ d.start.toNat ≤ lba ∧ lba < d.stop s.capacityNat := by
  obtain ⟨k, hfind, hk⟩ := Option.bind_eq_some_iff.mp h
  have hholds := List.find?_some hfind
  split at hk
  · next d' hlive =>
    cases hk
    rw [hlive] at hholds
    exact ⟨hlive, RangeRecord.holdsLba_defined.mp hholds⟩
  · cases hk

/-! ### The granted count (R117) -/

section
variable {d : RangeDef} {capacity lba count : Nat}

/-- The model counts to one past the last sector, R117 to the last sector E: the same where the LBA lies inside. -/
theorem grantedCount_eq_min_last (hrange : lba < d.stop capacity) (hmedia : lba < capacity) :
    grantedCount d capacity lba count =
      min count (min (d.stop capacity - 1) (min (capacity - 1) (lba + 4095)) - lba + 1) := by
  unfold grantedCount
  omega

theorem grantedCount_pos (hcount : 0 < count) (hrange : lba < d.stop capacity) (hmedia : lba < capacity) :
    1 ≤ grantedCount d capacity lba count := by
  unfold grantedCount
  omega

theorem grantedCount_le_4096 : grantedCount d capacity lba count ≤ 4096 := by
  unfold grantedCount
  omega

theorem add_grantedCount_le_stop (hrange : lba < d.stop capacity) :
    lba + grantedCount d capacity lba count ≤ d.stop capacity := by
  unfold grantedCount
  omega

theorem add_grantedCount_le_capacity (hmedia : lba < capacity) :
    lba + grantedCount d capacity lba count ≤ capacity := by
  unfold grantedCount
  omega

end

/-! ### The decisions that carry a span (R116 to R121) -/

/-- The granted count and the PARTIAL mark of a verdict, where it is a GRANT or a FILL (R115). -/
def Verdict.span : Verdict → Option (Nat × Bool)
  | .answer (.grant _ g part) => some (g, part)
  | .answer (.fill g part) => some (g, part)
  | .answer (.deny _) => none
  | .load _ => none

@[simp] theorem Verdict.span_grant (i : CtxIx) (g : Nat) (part : Bool) :
    (Verdict.answer (.grant i g part)).span = some (g, part) := rfl

@[simp] theorem Verdict.span_fill (g : Nat) (part : Bool) : (Verdict.answer (.fill g part)).span = some (g, part) := rfl

@[simp] theorem Verdict.span_deny (e : DenyReason) : (Verdict.answer (.deny e)).span = none := rfl

@[simp] theorem Verdict.span_load (r : RangeIx) : (Verdict.load r).span = none := rfl

/-- Steps 1 to 6 only deny: a query either ends there, or asks for a sector of the media and is decided by its range. -/
theorem State.decideQuery_cases (s : State) (q : Query) :
    (∃ e, s.decideQuery q = .answer (.deny e)) ∨
      (q.count ≠ 0 ∧ q.lba.toNat < s.capacityNat ∧ s.decideQuery q = s.decideSpan q) := by
  unfold State.decideQuery
  cases s.lkc.lockState with
  | none => exact .inl ⟨_, rfl⟩
  | some l =>
    dsimp only
    split_ifs with hfault hcount herasing hblank hattached hbounds
    case neg => exact .inr ⟨hcount, Nat.lt_of_not_le hbounds, rfl⟩
    all_goals exact .inl ⟨_, rfl⟩

theorem unreachable_span {d : RangeDef} {dir : Direction} {g : Nat} {part : Bool} {x : Nat × Bool}
    (h : (Verdict.answer (unreachable d dir g part)).span = some x) : x = (g, part) := by
  unfold unreachable at h
  split_ifs at h
  · cases h
  · exact (Option.some.inj h).symm
  · cases h

theorem State.grantOrLoad_span {s : State} {r : RangeIx} {g : Nat} {part : Bool} {x : Nat × Bool}
    (h : (s.grantOrLoad r g part).span = some x) : x = (g, part) := by
  unfold State.grantOrLoad at h
  split_ifs at h
  · cases h
  · cases hloaded : s.cxm.loadedFor r <;> rw [hloaded] at h <;> cases h
    rfl

/-- A span that the range's steps answer is the one R117 computes from the range that holds the LBA. -/
theorem State.decideSpan_span {s : State} {q : Query} {g : Nat} {part : Bool}
    (h : (s.decideSpan q).span = some (g, part)) :
    ∃ r d, s.rangeAt q.lba.toNat = some (r, d) ∧
      g = grantedCount d s.capacityNat q.lba.toNat q.count.toNat ∧ part = decide (g < q.count.toNat) := by
  unfold State.decideSpan at h
  cases hrange : s.rangeAt q.lba.toNat with
  | none => simp [hrange] at h
  | some rd =>
    obtain ⟨r, d⟩ := rd
    simp only [hrange] at h
    have hspan : (g, part) = (grantedCount d s.capacityNat q.lba.toNat q.count.toNat,
        decide (grantedCount d s.capacityNat q.lba.toNat q.count.toNat < q.count.toNat)) := by
      split_ifs at h
      · exact unreachable_span h
      · cases h
      · exact State.grantOrLoad_span h
    cases hspan
    exact ⟨r, d, rfl, rfl, rfl⟩

/-- The same of the whole decision, with what its first six steps leave: a count above 0 and an LBA of the media. -/
theorem State.decideQuery_span {s : State} {q : Query} {g : Nat} {part : Bool}
    (h : (s.decideQuery q).span = some (g, part)) :
    q.count ≠ 0 ∧ q.lba.toNat < s.capacityNat ∧ ∃ r d, s.rangeAt q.lba.toNat = some (r, d) ∧
      g = grantedCount d s.capacityNat q.lba.toNat q.count.toNat ∧ part = decide (g < q.count.toNat) := by
  obtain ⟨e, hdeny⟩ | ⟨hcount, hmedia, hspan⟩ := s.decideQuery_cases q
  · simp [hdeny] at h
  · exact ⟨hcount, hmedia, State.decideSpan_span (hspan ▸ h)⟩

end Sys2Proof.Machine
end

namespace Sys2Proof.Machine

/-- Settles O14: a GRANT or FILL carries the count of R117 for the range that holds the LBA, and the bounds are those of
that count. -/
theorem grantedSpan : Obligations.GrantedSpan := by
  intro s q g part hanswer
  have hspan : (s.decideQuery q).span = some (g, part) := by
    obtain ⟨i, hgrant⟩ | hfill := hanswer
    · rw [hgrant, Verdict.span_grant]
    · rw [hfill, Verdict.span_fill]
  obtain ⟨hcount, hmedia, r, d, hat, rfl, rfl⟩ := State.decideQuery_span hspan
  obtain ⟨hlive, hstart, hrange⟩ := State.rangeAt_eq_some hat
  have hpos : 0 < q.count.toNat := Nat.pos_of_ne_zero fun h => hcount (BitVec.eq_of_toNat_eq h)
  exact ⟨r, d, hlive, hstart, grantedCount_eq_min_last hrange hmedia, grantedCount_pos hpos hrange hmedia,
    grantedCount_le_4096, add_grantedCount_le_stop hrange, add_grantedCount_le_capacity hmedia, decide_eq_true_iff⟩

end Sys2Proof.Machine

section
/-! The law of the store write queue and the reserve list (R162 to R165): it speaks of the cells of the waiting writes
alone, and admission and taking keep it. -/

namespace Sys2Proof.Machine

set_option Elab.async false

/-- The law of the queue and the reserve list but for the last clause, that entries wait in reserve only behind a full
queue: what holds in the middle of a taking, before the reserve list fills the room (R162, R164). -/
def roomLawful (queue reserve : List QueueEntry) : Prop :=
  settingsCount queue ≤ settingsLimit ∧ ((queue ++ reserve).map QueueEntry.cell).Nodup ∧
  ∀ e ∈ reserve, e.cell.isGuard = false

theorem Stc.lawful_iff (q : Stc) : q.lawful ↔
    roomLawful q.queue q.reserve ∧ (q.reserve ≠ [] → settingsCount q.queue = settingsLimit) := by
  constructor
  · rintro ⟨_, hcount, hnodup, hreserve, hfull⟩
    exact ⟨⟨hcount, hnodup, hreserve⟩, hfull⟩
  · rintro ⟨⟨hcount, hnodup, hreserve⟩, hfull⟩
    refine ⟨?_, hcount, hnodup, hreserve, hfull⟩
    rw [List.map_append] at hnodup
    exact hnodup.of_append_left

theorem settingsCount_eq (l : List QueueEntry) :
    settingsCount l = (l.map QueueEntry.cell).countP (fun c => !c.isGuard) := by
  rw [List.countP_map]; rfl

theorem settingsCount_append (l : List QueueEntry) (e : QueueEntry) :
    settingsCount (l ++ [e]) = settingsCount l + if e.cell.isGuard then 0 else 1 := by
  simp only [settingsCount, List.countP_append, List.countP_singleton]
  cases e.cell.isGuard <;> rfl

theorem settingsCount_replaceIn (l : List QueueEntry) (e : QueueEntry) :
    settingsCount (replaceIn l e) = settingsCount l := by
  rw [settingsCount_eq, replaceIn_cells, ← settingsCount_eq]

theorem replaceIn_eq_nil {l : List QueueEntry} {e : QueueEntry} : replaceIn l e = [] ↔ l = [] := List.map_eq_nil_iff

theorem replaceIn_isGuard {l : List QueueEntry} {e : QueueEntry} (h : ∀ x ∈ l, x.cell.isGuard = false) :
    ∀ x ∈ replaceIn l e, x.cell.isGuard = false := by
  intro x hx
  have hc : x.cell ∈ (replaceIn l e).map QueueEntry.cell := List.mem_map_of_mem hx
  rw [replaceIn_cells] at hc
  obtain ⟨y, hy, hyx⟩ := List.mem_map.mp hc
  rw [← hyx]
  exact h y hy

theorem holdsCell_eq_false {l : List QueueEntry} {c : Cell} : holdsCell l c = false ↔ c ∉ l.map QueueEntry.cell := by
  simp [holdsCell]

/-- A write of a cell that has none waiting joins queue or reserve list without a second entry for a cell (R162). -/
theorem cells_nodup_insert {front back : List QueueEntry} {e : QueueEntry}
    (h : ((front ++ back).map QueueEntry.cell).Nodup) (hf : holdsCell front e.cell = false)
    (hb : holdsCell back e.cell = false) : ((front ++ e :: back).map QueueEntry.cell).Nodup := by
  rw [holdsCell_eq_false] at hf hb
  rw [List.map_append] at h
  rw [List.map_append, List.map_cons, List.nodup_middle, List.nodup_cons]
  exact ⟨by simpa using ⟨by simpa using hf, by simpa using hb⟩, h⟩

theorem Stc.admission_lawful {q r : Stc} {k : OfferKind} {e : QueueEntry} (hq : q.lawful)
    (h : q.admission k e = some r) : r.lawful := by
  obtain ⟨⟨hcount, hnodup, hreserve⟩, hfull⟩ := q.lawful_iff.mp hq
  rw [Stc.lawful_iff]
  unfold Stc.admission at h
  split at h
  · cases h
    refine ⟨⟨by rwa [settingsCount_replaceIn], ?_, hreserve⟩, by rwa [settingsCount_replaceIn]⟩
    rwa [List.map_append, replaceIn_cells, ← List.map_append]
  next hnq =>
  split at h
  · cases h
    refine ⟨⟨hcount, ?_, replaceIn_isGuard hreserve⟩, by simpa [replaceIn_eq_nil] using hfull⟩
    rwa [List.map_append, replaceIn_cells, ← List.map_append]
  next hnr =>
  have hnq' : holdsCell q.queue e.cell = false := by simpa using hnq
  have hnr' : holdsCell q.reserve e.cell = false := by simpa using hnr
  have hinsert : ((q.queue ++ e :: q.reserve).map QueueEntry.cell).Nodup := cells_nodup_insert hnodup hnq' hnr'
  split at h
  · next hguard =>
    cases h
    have hsame : settingsCount (q.queue ++ [e]) = settingsCount q.queue := by
      rw [settingsCount_append, if_pos hguard, Nat.add_zero]
    exact ⟨⟨hsame ▸ hcount, by simpa using hinsert, hreserve⟩, by simpa [hsame] using hfull⟩
  next hguard =>
  split at h
  · next hroom =>
    cases h
    obtain ⟨hlt, hempty⟩ : settingsCount q.queue < settingsLimit ∧ q.reserve = [] := by simpa using hroom
    have hone : settingsCount (q.queue ++ [e]) = settingsCount q.queue + 1 := by
      rw [settingsCount_append, if_neg hguard]
    exact ⟨⟨by simpa [hone] using hlt, by simpa using hinsert, hreserve⟩, by simp [hempty]⟩
  next hroom =>
  split at h
  · cases h
    refine ⟨⟨hcount, ?_, ?_⟩, fun _ => ?_⟩
    · have := cells_nodup_insert (back := []) (e := e) (front := q.queue ++ q.reserve) (by simpa using hnodup)
        (by simpa [holdsCell_eq_false] using
          ⟨by simpa using holdsCell_eq_false.mp hnq', by simpa using holdsCell_eq_false.mp hnr'⟩) rfl
      simpa using this
    · intro x hx
      rcases List.mem_append.mp hx with hx | hx
      · exact hreserve x hx
      · obtain rfl : x = e := by simpa using hx
        simpa using hguard
    · by_cases hempty : q.reserve = []
      · have : settingsLimit ≤ settingsCount q.queue := by simpa [hempty] using hroom
        exact Nat.le_antisymm hcount this
      · exact hfull hempty
  · cases h

/-- The reserve list fills the room in the queue, and stops at a full queue or at its own end (R164). -/
theorem refill_lawful (reserve : List QueueEntry) : ∀ queue : List QueueEntry, roomLawful queue reserve →
    roomLawful (refill queue reserve).1 (refill queue reserve).2 ∧
      ((refill queue reserve).2 ≠ [] → settingsCount (refill queue reserve).1 = settingsLimit) := by
  induction reserve with
  | nil => exact fun queue h => ⟨h, fun hne => absurd rfl hne⟩
  | cons e rest ih =>
    rintro queue ⟨hcount, hnodup, hreserve⟩
    unfold refill
    split
    · next hlt =>
      refine ih _ ⟨?_, by simpa using hnodup, fun x hx => hreserve x (List.mem_cons_of_mem _ hx)⟩
      rw [settingsCount_append, if_neg (by simp [hreserve e])]
      exact hlt
    · next hge => exact ⟨⟨hcount, hnodup, hreserve⟩, fun _ => Nat.le_antisymm hcount (Nat.le_of_not_lt hge)⟩

theorem Stc.take_lawful {q : Stc} (hq : q.lawful) : q.take.lawful := by
  obtain ⟨⟨hcount, hnodup, hreserve⟩, -⟩ := q.lawful_iff.mp hq
  unfold Stc.take
  split
  · next e _ _ =>
    rw [Stc.lawful_iff]
    have hsub : (q.queue.eraseP (fun x => x.cell = e.cell)).Sublist q.queue := List.eraseP_sublist
    refine refill_lawful q.reserve _ ⟨(hsub.countP_le).trans hcount, ?_, hreserve⟩
    exact hnodup.sublist ((hsub.append (List.Sublist.refl _)).map _)
  · exact hq

end Sys2Proof.Machine
end

section
/-! The outbound queue's law under its operations: an order frame offered, frames withdrawn, an answer placed. -/

namespace Sys2Proof.Machine

set_option Elab.async false

/-- The outbound queue holds order frames alone, at most 8 of them: what the reading out of a transaction leaves, and
what an answer may be placed on (R174, R177). -/
def Mpt.ordersOnly (m : Mpt) : Prop := (∀ f ∈ m.outbound, f.isAnswer = false) ∧ m.outbound.length ≤ outboundLimit

/-- The law of the outbound queue, of a list of frames (R177). -/
def framesLawful (l : List OutFrame) : Prop :=
  (∀ f ∈ l.tail, f.isAnswer = false) ∧ (l.filter (fun f => !f.isAnswer)).length ≤ outboundLimit

theorem Mpt.lawful_iff (m : Mpt) : m.lawful ↔ framesLawful m.outbound := Iff.rfl

theorem framesLawful.sublist {l k : List OutFrame} (h : framesLawful l) (hk : k.Sublist l) : framesLawful k :=
  ⟨fun f hf => h.1 f (hk.tail.subset hf), (hk.filter _).length_le.trans h.2⟩

theorem framesLawful.append {l : List OutFrame} {f : OutFrame} (h : framesLawful l) (hf : f.isAnswer = false)
    (hroom : (l.filter (fun g => !g.isAnswer)).length < outboundLimit) : framesLawful (l ++ [f]) := by
  refine ⟨fun g hg => ?_, by simpa [hf] using hroom⟩
  cases l with
  | nil => simp at hg
  | cons x rest =>
    rcases List.mem_append.mp hg with hg | hg
    · exact h.1 g hg
    · obtain rfl : g = f := by simpa using hg
      exact hf

theorem OutFrame.isAnswer_of_isState {f : OutFrame} (h : f.isState = true) : f.isAnswer = false := by
  cases f <;> first | rfl | cases h

/-- Where a STATE notice gives way, the queue holds one order frame fewer (R178). -/
theorem orders_length_eraseState {l : List OutFrame} (h : l.any OutFrame.isState = true) :
    ((l.eraseP OutFrame.isState).filter (fun g => !g.isAnswer)).length + 1 =
      (l.filter (fun g => !g.isAnswer)).length := by
  induction l with
  | nil => simp at h
  | cons x rest ih =>
    by_cases hx : x.isState = true
    · simp [hx, OutFrame.isAnswer_of_isState hx]
    · have hrest : rest.any OutFrame.isState = true := by simpa [hx] using h
      have := ih hrest
      cases ha : x.isAnswer <;> simp [hx, ha] at this ⊢ <;> omega

theorem Mpt.offerOrder_lawful {m : Mpt} {f : OutFrame} (h : m.lawful) (hf : f.isAnswer = false) :
    (m.offerOrder f).1.lawful := by
  rw [Mpt.lawful_iff] at h ⊢
  unfold Mpt.offerOrder
  split
  · next hroom => exact h.append hf ((List.length_filter_le _ _).trans_lt hroom)
  split
  · next hstate =>
    have hone := orders_length_eraseState hstate
    exact (h.sublist List.eraseP_sublist).append hf (by have := h.2; omega)
  split <;> exact h

theorem Mpt.withdraw_lawful {m : Mpt} (h : m.lawful) (p : OutFrame → Bool) : (m.withdraw p).lawful :=
  framesLawful.sublist h List.filter_sublist

theorem Mpt.placeAnswer_lawful {m : Mpt} {f : OutFrame} (h : m.ordersOnly) (hf : f.isAnswer = true) :
    (m.placeAnswer f).lawful := by
  have hle := (List.length_filter_le (fun g : OutFrame => !g.isAnswer) m.outbound).trans h.2
  exact ⟨h.1, by simpa [Mpt.placeAnswer, hf] using hle⟩

/-- A queue whose head answer has gone holds order frames alone (R174, R177). -/
theorem framesLawful.ordersOnly_tail {f : OutFrame} {rest : List OutFrame} (h : framesLawful (f :: rest)) :
    (∀ g ∈ rest, g.isAnswer = false) ∧ rest.length ≤ outboundLimit := by
  obtain ⟨htail, hcount⟩ := h
  refine ⟨htail, ?_⟩
  have hrest : rest.filter (fun g => !g.isAnswer) = rest :=
    List.filter_eq_self.mpr fun g hg => by simp [htail g hg]
  rw [List.filter_cons] at hcount
  split at hcount
  · rw [List.length_cons, hrest] at hcount
    omega
  · rwa [hrest] at hcount

end Sys2Proof.Machine
end

section
/-! What every operation keeps: the laws of the device, gathered so that each operation is looked at once. A step's
part of each law follows by composing the operations it is made of. -/

namespace Sys2Proof.Machine

set_option Elab.async false

/-- From `s` to `t` the laws of the device are kept, but for that of the lock timers. `J` stands for the journal's law,
where a statement grants it for the event as a whole, and `P` for the outbound law: a law of the lock needs the first at
an erase end, the outbound law is kept where the second admits an answer. What SLT holds for re-offer matters to the laws
that a write's working copy can touch. -/
structure State.KeepsBut (J P : Prop) (s t : State) : Prop where
  store : s.stc.lawful → t.stc.lawful := by exact fun h => h
  queue : s.dqqLawful → t.dqqLawful := by exact fun h => h
  contexts : s.cxm.lawful → t.cxm.lawful := by exact fun h => h
  port : P → s.mpt.lawful → t.mpt.lawful := by exact fun _ h => h
  held : s.slt.heldLawful → t.slt.heldLawful := by exact fun h => h
  counters : s.slt.heldLawful → s.countersLawful → t.countersLawful := by exact fun _ h => h
  journal : s.slt.heldLawful → s.journalLawful → t.journalLawful := by exact fun _ h => h
  buffers : J → s.buffersClosed → t.buffersClosed := by exact fun _ h => h
  closed : J → s.contextsClosed → t.contextsClosed := by exact fun _ h => h
  session : J → s.sessionLawful → t.sessionLawful := by exact fun _ h => h

/-- From `s` to `t` all the laws of the device are kept. -/
structure State.Keeps (J P : Prop) (s t : State) : Prop extends s.KeepsBut J P t where
  timers : J → s.slt.heldLawful → s.lockTimersLawful → t.lockTimersLawful := by exact fun _ _ h => h

theorem State.KeepsBut.trans {J P : Prop} {s t u : State} (h : s.KeepsBut J P t) (k : t.KeepsBut J P u) :
    s.KeepsBut J P u where
  store hs := k.store (h.store hs)
  queue hs := k.queue (h.queue hs)
  contexts hs := k.contexts (h.contexts hs)
  port p hs := k.port p (h.port p hs)
  held hs := k.held (h.held hs)
  counters hh hs := k.counters (h.held hh) (h.counters hh hs)
  journal hh hs := k.journal (h.held hh) (h.journal hh hs)
  buffers j hs := k.buffers j (h.buffers j hs)
  closed j hs := k.closed j (h.closed j hs)
  session j hs := k.session j (h.session j hs)

namespace State.Keeps

variable {J P : Prop} {s t u : State}

theorem refl (s : State) : s.Keeps J P s := {}

theorem trans (h : s.Keeps J P t) (k : t.Keeps J P u) : s.Keeps J P u :=
  { h.toKeepsBut.trans k.toKeepsBut with timers := fun j hh hs => k.timers j (h.held hh) (h.timers j hh hs) }

/-- A fold of steps that each keep the laws keeps them. -/
theorem foldl {α : Type} {f : State → α → State} (l : List α) (h : ∀ s : State, ∀ a ∈ l, s.Keeps J P (f s a)) (s : State) :
    s.Keeps J P (l.foldl f s) := by
  induction l generalizing s with
  | nil => exact refl s
  | cons a l ih =>
    exact (h s a List.mem_cons_self).trans (ih (fun s b hb => h s b (List.mem_cons_of_mem _ hb)) _)

end State.Keeps

section
variable {J P : Prop} (s : State)

/-! ### Flags, frames, the session, the reply, STANDBY -/

theorem State.setFlag_keeps (f : Flag) : s.Keeps J P (s.setFlag f) := {}

theorem State.setFlagIf_keeps (c : Bool) (f : Flag) : s.Keeps J P (s.setFlagIf c f) := {}

theorem State.sendOrder_keeps {f : OutFrame} (hf : f.isAnswer = false) : s.Keeps J P (s.sendOrder f).1 :=
  { port := fun _ h => Mpt.offerOrder_lawful h hf }

theorem State.sendState_keeps (l : LockState) : s.Keeps J P (s.sendState l) := s.sendOrder_keeps rfl

theorem State.sendAnswer_keeps {f : OutFrame} (hf : f.isAnswer = true) (hp : P → s.mpt.ordersOnly) :
    s.Keeps J P (s.sendAnswer f) :=
  { port := fun p _ => Mpt.placeAnswer_lawful (hp p) hf }

theorem State.withdraw_keeps (p : OutFrame → Bool) : s.Keeps J P { s with mpt := s.mpt.withdraw p } :=
  { port := fun _ h => Mpt.withdraw_lawful h p }

theorem Timer.restarted_isRunning (t : Timer) : t.restarted.isRunning = t.isRunning := by cases t <;> rfl

theorem Timer.restarted_held {t : Timer} (h : t.isRunning = false → t = .held) :
    t.restarted.isRunning = false → t.restarted = .held := by
  cases t with
  | running e => exact nofun
  | stopped => exact fun _ => h rfl
  | held => exact fun _ => rfl

theorem State.openSession_keeps (hu : s.unlocked) : s.Keeps J P s.openSession :=
  { session := fun _ _ => ⟨fun _ => hu, rfl⟩ }

theorem State.closeSession_keeps : s.Keeps J P s.closeSession :=
  { session := fun _ _ => ⟨nofun, rfl⟩ }

theorem State.touchSession_keeps : s.Keeps J P s.touchSession :=
  { session := fun _ h => ⟨h.1, (Timer.restarted_isRunning _).trans h.2⟩ }

theorem State.restartIdle_keeps : s.Keeps J P s.restartIdle := by
  unfold State.restartIdle
  split
  · exact { timers := fun _ _ ⟨hw, hi, hh⟩ =>
      ⟨hw, by rw [← hi]; exact iff_of_eq (congrArg (· = true) (Timer.restarted_isRunning _)), Timer.restarted_held hh⟩ }
  · exact .refl s

theorem State.setReply_keeps (r : Reply) : s.Keeps J P (s.setReply r) := {}

theorem State.settleStandby_keeps : s.Keeps J P s.settleStandby := {}

theorem State.wake_keeps : s.Keeps J P s.wake := by
  unfold State.wake
  split
  · exact {}
  · exact .refl s

theorem State.requestTaken_keeps : s.Keeps J P s.requestTaken := s.wake_keeps.trans {}

/-! ### Offered writes -/

/-- The value a write carries lies in its range, where it is the counter's or the settings' (R68, R159). -/
def CellWrite.valueInRange : CellWrite → Prop
  | .att n => n ≤ 20
  | .cfg c => c.inRange = true
  | _ => True

/-- A journal write of a phase other than IDLE. -/
def CellWrite.erases : CellWrite → Prop
  | .ejr j => j.phase ≠ .idle
  | _ => False

/-- A settings write that leaves the idle preset as it is, or any other write. -/
def CellWrite.keepsIdle (idle : Nat) : CellWrite → Prop
  | .cfg c => c.idle = idle
  | _ => True

/-- A change of the store that leaves the settings keeps the laws but the store's own. -/
theorem State.setStc_keeps (q : Stc) (hq : s.stc.lawful → q.lawful) (hcfg : q.cfg = s.stc.cfg) :
    s.Keeps J P { s with stc := q } :=
  { store := hq
    counters := fun _ h => ⟨hcfg ▸ h.1, h.2⟩
    timers := fun _ _ ⟨hw, hi, hh⟩ => ⟨hw, by simpa only [hcfg] using hi, hh⟩ }

theorem State.takeNext_keeps : s.Keeps J P s.takeNext := by
  unfold State.takeNext
  split
  · exact .refl s
  · exact s.setStc_keeps _ Stc.take_lawful (Stc.take_frame _).2.2.2.1

theorem State.setWorking_keeps (w : CellWrite) (hvalue : s.slt.heldLawful → s.countersLawful → w.valueInRange)
    (hjournal : s.slt.heldLawful → s.journalLawful → w.erases → s.lkc.lockState = some .erasing)
    (hidle : J → s.slt.heldLawful → w.keepsIdle s.stc.cfg.idle) : s.Keeps J P (s.setWorking w) := by
  cases w with
  | att n => exact { counters := fun hh h => ⟨h.1, hvalue hh h⟩ }
  | bko r => exact {}
  | ejr j => exact { journal := fun hh h hj => hj.elim (hjournal hh h) (fun ha => h (.inr ha)) }
  | slt k r => exact {}
  | rng k r => exact {}
  | cfg c =>
    exact { counters := fun hh h => ⟨hvalue hh h, h.2⟩
            timers := fun j hh ⟨hw, hi, hl⟩ => ⟨hw, by
              have : c.idle = s.stc.cfg.idle := hidle j hh
              simpa only [State.setWorking, this] using hi, hl⟩ }

theorem State.offer_keeps (k : OfferKind) (w : CellWrite) (a : Option Awaiter)
    (hvalue : s.slt.heldLawful → s.countersLawful → w.valueInRange := by exact fun _ _ => trivial)
    (hjournal : s.slt.heldLawful → s.journalLawful → w.erases → s.lkc.lockState = some .erasing := by
      exact fun _ _ h => h.elim)
    (hidle : J → s.slt.heldLawful → w.keepsIdle s.stc.cfg.idle := by exact fun _ _ => trivial) :
    s.Keeps J P (s.offer k w a).1 := by
  unfold State.offer
  split
  · next q h =>
    have hcfg : q.cfg = s.stc.cfg := (Stc.admission_frame h).2.2.2.2.2.1
    have hq : s.Keeps J P { s with stc := q } := s.setStc_keeps q (fun hs => Stc.admission_lawful hs h) hcfg
    refine hq.trans (.trans ?_ (State.takeNext_keeps _))
    refine State.setWorking_keeps { s with stc := q } w (fun hh hs => hvalue hh ⟨?_, hs.2⟩) hjournal ?_
    · exact hcfg ▸ hs.1
    · simpa only [hcfg] using hidle
  · exact .refl s

theorem State.offerGuard_keeps (w : CellWrite) (a : Option Awaiter)
    (hvalue : s.slt.heldLawful → s.countersLawful → w.valueInRange := by exact fun _ _ => trivial)
    (hjournal : s.slt.heldLawful → s.journalLawful → w.erases → s.lkc.lockState = some .erasing := by
      exact fun _ _ h => h.elim)
    (hidle : J → s.slt.heldLawful → w.keepsIdle s.stc.cfg.idle := by exact fun _ _ => trivial) :
    s.Keeps J P (s.offerGuard w a) := s.offer_keeps .ordinary w a hvalue hjournal hidle

theorem State.offerReserved_keeps (w : CellWrite) (a : Option Awaiter)
    (hvalue : s.slt.heldLawful → s.countersLawful → w.valueInRange := by exact fun _ _ => trivial)
    (hjournal : s.slt.heldLawful → s.journalLawful → w.erases → s.lkc.lockState = some .erasing := by
      exact fun _ _ h => h.elim)
    (hidle : J → s.slt.heldLawful → w.keepsIdle s.stc.cfg.idle := by exact fun _ _ => trivial) :
    s.Keeps J P (s.offerReserved w a) := s.offer_keeps .reserved w a hvalue hjournal hidle

end

end Sys2Proof.Machine
end

section
/-! The operations of the context map, the deferred query queue and the lock, and what they keep. -/

namespace Sys2Proof.Machine

set_option Elab.async false

theorem getElem_set_fin {α : Type} {n : Nat} (v : Vector α n) (i j : Fin n) (x : α) :
    (v.set i x)[j] = if i = j then x else v[j] := by
  simp only [Fin.getElem_fin, Vector.getElem_set, Fin.val_inj]

section
variable {J P : Prop} (s : State)

/-! ### The context map -/

/-- A context entry may be given a value that holds no range, the range it held already, or a range that no entry holds,
the drive being LOCKED or unlocked (R116, R128). -/
theorem State.setEntry_keeps (i : CtxIx) (e : ContextEntry)
    (h : ∀ r, e.heldRange = some r → s.cxm.entries[i].heldRange = some r ∨
      ((∀ j : CtxIx, s.cxm.entries[j].heldRange ≠ some r) ∧ (s.unlocked ∨ s.lkc.lockState = some .locked))) :
    s.Keeps J P (s.setEntry i e) := by
  have held {j : CtxIx} {r : RangeIx} (hj : (s.setEntry i e).cxm.entries[j].heldRange = some r) :
      s.cxm.entries[j].heldRange = some r ∨ (j = i ∧ (∀ k : CtxIx, s.cxm.entries[k].heldRange ≠ some r) ∧
        (s.unlocked ∨ s.lkc.lockState = some .locked)) := by
    simp only [State.setEntry, getElem_set_fin] at hj
    split at hj
    · next hij =>
      subst hij
      exact (h r hj).imp id fun hfree => ⟨rfl, hfree⟩
    · exact .inl hj
  refine { contexts := fun ⟨hone, hlru⟩ => ⟨fun a b r ha hb => ?_, hlru⟩, closed := fun _ hs hu hl k => ?_ }
  · rcases held ha with ha' | ⟨rfl, hfree, -⟩ <;> rcases held hb with hb' | ⟨rfl, hfree', -⟩
    · exact hone a b r ha' hb'
    · exact absurd ha' (hfree' a)
    · exact absurd hb' (hfree b)
    · rfl
  · cases hk : (s.setEntry i e).cxm.entries[k].heldRange with
    | none => rfl
    | some r =>
      rcases held hk with hk' | ⟨-, -, hunlocked | hlocked⟩
      · exact absurd (hk'.symm.trans (hs hu hl k)) nofun
      · exact absurd hunlocked hu
      · exact absurd hlocked hl

theorem State.setEntry_keeps_of_same (i : CtxIx) (e : ContextEntry)
    (h : e.heldRange = none ∨ e.heldRange = s.cxm.entries[i].heldRange) : s.Keeps J P (s.setEntry i e) :=
  s.setEntry_keeps i e fun r hr => .inl (by
    rcases h with h | h
    · simp [h] at hr
    · exact h ▸ hr)

theorem State.advanceOrder_keeps : s.Keeps J P s.advanceOrder := {}

/-- A context moved to the head leaves the LRU list the four context numbers, each once (R127). -/
theorem lru_perm_touch {l : List CtxIx} (h : l.Perm [0, 1, 2, 3]) (i : CtxIx) :
    (i :: l.filter (fun c => c ≠ i)).Perm [0, 1, 2, 3] := by
  have hp : (i :: l.filter (fun c => c ≠ i)).Perm (i :: [0, 1, 2, 3].filter (fun c => c ≠ i)) :=
    (h.filter _).cons i
  refine hp.trans ?_
  clear hp h
  revert i
  decide

theorem State.touchContext_keeps (i : CtxIx) : s.Keeps J P (s.touchContext i) :=
  { contexts := fun ⟨hone, hlru⟩ => ⟨hone, lru_perm_touch hlru i⟩ }

/-- A KEYLOAD sent for an entry that holds the range, or may come to hold it. -/
theorem State.sendKeyload_keeps (i : CtxIx) (r : RangeIx) (o : Byte) (n : Nat)
    (h : s.cxm.entries[i].heldRange = some r ∨
      ((∀ j : CtxIx, s.cxm.entries[j].heldRange ≠ some r) ∧ (s.unlocked ∨ s.lkc.lockState = some .locked))) :
    s.Keeps J P (s.sendKeyload i r o n) := by
  have hset (timer : ReplyTimer) (q : RangeIx) (hq : (ContextEntry.loading r o n timer).heldRange = some q) :
      s.cxm.entries[i].heldRange = some q ∨ ((∀ j : CtxIx, s.cxm.entries[j].heldRange ≠ some q) ∧
        (s.unlocked ∨ s.lkc.lockState = some .locked)) := by
    cases hq; exact h
  unfold State.sendKeyload
  split
  · exact (s.sendOrder_keeps rfl).trans (State.setEntry_keeps _ i _ (hset _))
  · exact s.setEntry_keeps i _ (hset _)

theorem State.sendPurge_keeps (i : CtxIx) (r : RangeIx) (o : Byte) : s.Keeps J P (s.sendPurge i r o) :=
  (s.sendOrder_keeps rfl).trans (State.setEntry_keeps_of_same _ i _ (.inl rfl))

theorem State.startPurge_keeps (i : CtxIx) (r : RangeIx) : s.Keeps J P (s.startPurge i r) :=
  (s.advanceOrder_keeps.trans (State.withdraw_keeps _ _)).trans (State.sendPurge_keeps _ i r _)

theorem State.purgeWhere_keeps (p : RangeIx → Bool) : s.Keeps J P (s.purgeWhere p) := by
  refine State.Keeps.foldl _ (fun s i _ => ?_) s
  split
  · split
    · exact s.startPurge_keeps _ _
    · exact .refl s
  · exact .refl s

theorem resolveWaiting_queries (dqq : List Parked) (r : RangeIx) (decide : Query → Option Decision) :
    (resolveWaiting dqq r decide).map Parked.query = dqq.map Parked.query := by
  unfold resolveWaiting
  rw [List.map_map]
  refine List.map_congr_left fun p _ => ?_
  simp only [Function.comp_apply]
  split
  · split
    · split <;> rfl
    · rfl
  · rfl

/-- Parked queries with the match keys they had keep the queue's law (R137). -/
theorem State.setDqq_keeps (l : List Parked) (h : l.map Parked.query = s.dqq.map Parked.query) :
    s.Keeps J P { s with dqq := l } :=
  { queue := fun ⟨hlen, hnodup⟩ =>
      ⟨(by simpa only [List.length_map] using congrArg List.length h : l.length = s.dqq.length).trans_le hlen, h ▸ hnodup⟩ }

/-- Fewer parked queries keep the queue's law (R137). -/
theorem State.setDqq_keeps_of_sublist (l : List Parked) (h : l.Sublist s.dqq) : s.Keeps J P { s with dqq := l } :=
  { queue := fun ⟨hlen, hnodup⟩ => ⟨h.length_le.trans hlen, hnodup.sublist (h.map _)⟩ }

theorem State.resolveWaiting_keeps (r : RangeIx) (decide : Query → Option Decision) :
    s.Keeps J P { s with dqq := resolveWaiting s.dqq r decide } :=
  s.setDqq_keeps _ (resolveWaiting_queries _ _ _)

theorem State.loadTryFailed_keeps (i : CtxIx) : s.Keeps J P (s.loadTryFailed i) := by
  unfold State.loadTryFailed
  split
  · next r o n timer hentry =>
    split
    · exact s.sendKeyload_keeps i r o _ (.inl (by rw [hentry]; rfl))
    · exact ((s.setEntry_keeps_of_same i .empty (.inl rfl)).trans (State.setFlag_keeps _ _)).trans
        (State.resolveWaiting_keeps _ r _)
  · exact .refl s

theorem State.markStale_keeps : s.Keeps J P s.markStale := by
  refine s.setDqq_keeps _ ?_
  rw [List.map_map]
  refine List.map_congr_left fun p _ => ?_
  simp only [Function.comp_apply]
  split <;> rfl

theorem State.frameRead_keeps (f : OutFrame) : s.Keeps J P (s.frameRead f) := by
  unfold State.frameRead
  split
  · exact .refl s
  split
  · split
    · next hentry =>
      split
      · exact s.setEntry_keeps_of_same _ _ (.inr (by rw [hentry]; rfl))
      · exact .refl s
    · exact .refl s
  · split
    · split
      · exact s.setEntry_keeps_of_same _ _ (.inl rfl)
      · exact .refl s
    · exact .refl s
  · exact .refl s

/-! ### The install and the lock procedure -/

theorem State.publicKey_pub {s : State} {r : RangeRecord} {b : BufferKey} (h : s.publicKey r = some b) :
    b.cls = .pub := by
  unfold State.publicKey at h
  split at h
  · split at h
    · obtain ⟨k, -, rfl⟩ := Option.map_eq_some_iff.mp h
      rfl
    · cases h
  · cases h

/-- A key buffer position may take a public key, or be zeroised, in any lock state (R20). -/
theorem State.setPosition_keeps (k : RangeIx) (b : Option BufferKey) (h : ∀ x, b = some x → x.cls = .pub) :
    s.Keeps J P (s.setPosition k b) :=
  { buffers := fun _ hs hu j x hx => by
      simp only [State.setPosition, getElem_set_fin] at hx
      split at hx
      · exact h x hx
      · exact hs hu j x hx }

theorem State.alignRange_keeps (k : RangeIx) (old new : RangeRecord) : s.Keeps J P (s.alignRange k old new) := by
  have hset : s.Keeps J P (s.setPosition k (s.publicKey new)) :=
    s.setPosition_keeps k _ fun _ hx => State.publicKey_pub hx
  unfold State.alignRange
  split
  · exact hset.trans (State.purgeWhere_keeps _ _)
  · exact hset

theorem State.install_keeps : s.Keeps J P s.install := by
  refine State.Keeps.trans ?_ (State.Keeps.foldl _ (fun s k _ => s.alignRange_keeps k _ _) _)
  exact (State.Keeps.foldl _ (fun s k _ => s.offerReserved_keeps (.rng k _) none) s).trans {}

theorem State.cancelCheck_keeps : s.Keeps J P s.cancelCheck := by
  unfold State.cancelCheck
  split
  · exact {}
  · exact .refl s

/-- Steps 1 to 4 of the lock procedure: LOCKED, the session ended, no role, no mask, the closed keys zeroised (R7). -/
def State.lockKeys (s : State) : State :=
  { s with lkc := { s.lkc with
      lockState := some .locked, session := false, sessionTimer := .held, role := none, mask := 0,
      keyBuffer := s.lkc.zeroiseClosed.keyBuffer } }

/-- Steps 5 to 8: the contexts of closed ranges purged, no parked query, a dirty staged table installed (R7, R8). -/
def State.lockTables (s : State) (reason : LockReason) : State :=
  let p := { s.purgeWhere (fun r => s.rgt.live[r].isClosed) with dqq := [] }
  if p.rgt.dirty && reason != .erase then p.install else p

/-- LKC's two lock timers at rest. -/
def State.stopLockTimers (s : State) : State :=
  { s with lkc := { s.lkc with idleTimer := .held, windowTimer := .stopped } }

/-- Steps 9 to 12: the lock timers at rest, the notice, the flag, a check cancelled, no drive key (R7). -/
def State.lockNotice (s : State) : State :=
  let c := ((s.stopLockTimers.sendState .locked).setFlag .locked).cancelCheck
  { c with slt := { c.slt with driveKey := none } }

theorem State.lockProcedure_eq (reason : LockReason) :
    s.lockProcedure reason = (s.lockKeys.lockTables reason).lockNotice := by
  unfold State.lockProcedure
  rfl

theorem State.lockTables_spec (reason : LockReason) :
    ∃ b c m q g, s.lockTables reason =
      { s with dqq := [], rgt := g, stc := q, lkc := { s.lkc with keyBuffer := b }, cxm := c, mpt := m } ∧
      q.cells = s.stc.cells ∧ q.cfg = s.stc.cfg ∧ c.lru = s.cxm.lru ∧ m.attached = s.mpt.attached ∧
      m.capacity = s.mpt.capacity := by
  obtain ⟨c, m, hp, hl, ha, hc, -, -⟩ := s.purgeWhere_spec (fun r => s.rgt.live[r].isClosed)
  unfold State.lockTables
  rw [hp]
  dsimp only
  split
  · obtain ⟨b, c', m', q, hi, hq, hg, hl', ha', hc'⟩ := State.install_spec { s with cxm := c, mpt := m, dqq := [] }
    exact ⟨b, c', m', q, _, hi, hq, hg, hl'.trans hl, ha'.trans ha, hc'.trans hc⟩
  · exact ⟨s.lkc.keyBuffer, c, m, s.stc, s.rgt, rfl, rfl, rfl, hl, ha, hc⟩

theorem State.lockTables_keeps (reason : LockReason) : s.Keeps J P (s.lockTables reason) := by
  unfold State.lockTables
  have hp : s.Keeps J P { s.purgeWhere (fun r => s.rgt.live[r].isClosed) with dqq := [] } :=
    (s.purgeWhere_keeps _).trans (State.setDqq_keeps_of_sublist _ [] (List.nil_sublist _))
  dsimp only
  split
  · exact hp.trans (State.install_keeps _)
  · exact hp

/-- Where the drive is not unlocked the lock timers are at rest already (R92, R94). -/
theorem State.stopLockTimers_keeps (hu : ¬ s.unlocked) : s.Keeps J P s.stopLockTimers :=
  { timers := fun _ _ _ =>
      ⟨⟨nofun, fun h => absurd (.inl h) hu⟩, ⟨nofun, fun h => absurd (.inr h.1) hu⟩, fun _ => rfl⟩ }

theorem State.lockNotice_keeps (hu : ¬ s.unlocked) : s.Keeps J P s.lockNotice :=
  (((s.stopLockTimers_keeps hu).trans (State.sendState_keeps _ _)).trans
    ((State.setFlag_keeps _ _).trans (State.cancelCheck_keeps _))).trans {}

theorem Lkc.zeroiseClosed_buffersClosed {t : State} (l : Lkc) (h : t.lkc.keyBuffer = l.zeroiseClosed.keyBuffer) :
    t.buffersClosed := fun _ k b hb => l.zeroiseClosed_pub k b (by rwa [h] at hb)

/-- The lock procedure keeps every law, from whatever values LKC has in an unlocked drive: of the lock's own laws the
drive it leaves meets each outright (R7). -/
theorem State.lockProcedure_keeps (l : Lkc) (reason : LockReason) (hu : s.unlocked) :
    s.Keeps J P ({ s with lkc := l }.lockProcedure reason) := by
  have hnot (u : State) (h : u.lkc.lockState = some .locked) : ¬ u.unlocked := by
    rintro (h' | h') <;> cases h.symm.trans h'
  obtain ⟨hlocked, hsession, htimer, -, -, hidle, hwindow, -⟩ :=
    State.lockProcedure_lkc { s with lkc := l } reason
  have hall (J P : Prop) : ({ s with lkc := l } : State).lockKeys.Keeps J P ({ s with lkc := l }.lockProcedure reason) := by
    obtain ⟨b, c, m, q, g, htables, -⟩ := ({ s with lkc := l } : State).lockKeys.lockTables_spec reason
    rw [State.lockProcedure_eq]
    exact (State.lockTables_keeps _ reason).trans (State.lockNotice_keeps _ (hnot _ (by rw [htables]; rfl)))
  have hbuffers := (hall True P).buffers trivial (Lkc.zeroiseClosed_buffersClosed l rfl)
  have hothers := hall J P
  generalize ({ s with lkc := l } : State).lockProcedure reason = t at *
  exact
    { store := hothers.store
      queue := hothers.queue
      contexts := hothers.contexts
      port := hothers.port
      held := hothers.held
      counters := hothers.counters
      journal := fun hh h => hothers.journal hh fun hj => by
        rcases hu with hu | hu <;> cases hu.symm.trans (h hj)
      buffers := fun _ _ => hbuffers
      closed := fun _ _ _ hne => absurd hlocked hne
      session := fun _ _ => ⟨fun h => by simp [hsession] at h, by simp [hsession, htimer, Timer.isRunning]⟩
      timers := fun _ _ _ => ⟨by simp [hlocked, hwindow, Timer.isRunning],
        by simp [hlocked, hidle, Timer.isRunning], fun _ => hidle⟩ }

theorem State.lockedEvent_keeps (reason : LockReason) : s.Keeps J P (s.lockedEvent reason) := by
  have hcancel : s.Keeps J P (if reason = .key || reason = .panel then s.cancelCheck else s) := by
    split
    · exact s.cancelCheck_keeps
    · exact .refl s
  unfold State.lockedEvent
  dsimp only
  split
  · exact hcancel.trans {}
  · exact hcancel

theorem State.lockEvent_keeps (reason : LockReason) : s.Keeps J P (s.lockEvent reason) := by
  unfold State.lockEvent
  split
  · next h => exact s.lockProcedure_keeps s.lkc reason (.inr h)
  · next h => exact s.lockProcedure_keeps s.lkc reason (.inl h)
  · exact s.lockedEvent_keeps reason
  all_goals exact .refl s

end

end Sys2Proof.Machine
end

section
/-! Unlock completion, the lock timers' expiries, the erase engine and the attempt guard, and what they keep. -/

namespace Sys2Proof.Machine

set_option Elab.async false

section
variable {J P : Prop} (s : State)

/-! ### Unlock completion (R10, R63) -/

/-- LKC after a delivered unlock completion (R10, R11, R63). -/
def State.unlockLkc (s : State) (u : Unwrap) : Lkc :=
  { (s.deliverKeys u.rangeKeys s.slt.slots[u.slot].mask).lkc with
    role := s.slt.slots[u.slot].info?.map SlotInfo.role
    mask := s.slt.slots[u.slot].mask
    lockState := some (if s.mpt.attached then .opened else .openPending)
    windowTimer := if s.mpt.attached then s.lkc.windowTimer else .running 0
    idleTimer := if s.mpt.attached then (if s.stc.cfg.idle = 0 then .held else .running 0) else s.lkc.idleTimer
    session := u.opensSession || s.lkc.session
    sessionTimer := if u.opensSession then .running 0 else s.lkc.sessionTimer }

/-- What a delivered unlock completion leaves before the entry unit follows: LKC, the drive key, the notice, OPENED. -/
def State.unlockedBy (s : State) (u : Unwrap) : State :=
  ({ s with lkc := s.unlockLkc u, slt := { s.slt with unwrap := none, driveKey := u.driveKey } }.sendState
    (if s.mpt.attached then .opened else .openPending)).setFlag .opened

theorem State.deliverUnlock_eq (u : Unwrap) : s.deliverUnlock u =
    if s.lkc.lockState = some .locked then (s.unlockedBy u).enuAtUnlock else s.unlockedBy u := by
  unfold State.deliverUnlock State.unlockedBy State.unlockLkc
  cases hatt : s.mpt.attached <;> cases hsess : u.opensSession <;>
    simp [hatt, State.deliverKeys, State.setLockState, State.startIdle, State.openSession, Lkc.openSession]

@[simp] theorem Timer.isRunning_held : Timer.held.isRunning = false := rfl

@[simp] theorem Timer.isRunning_stopped : Timer.stopped.isRunning = false := rfl

@[simp] theorem Timer.isRunning_running (e : Nat) : (Timer.running e).isRunning = true := rfl

theorem State.enuAtUnlock_keeps : s.Keeps J P s.enuAtUnlock := by
  unfold State.enuAtUnlock
  split
  · exact {}
  · exact s.cancelCheck_keeps
  · exact .refl s

/-- A value of LKC that is unlocked: the laws of buffers and contexts ask nothing, and the journal is at rest where the
drive was not in ERASING. -/
theorem State.setLkc_unlocked_keeps (l : Lkc) (hl : l.lockState = some .opened ∨ l.lockState = some .openPending)
    (hs : s.lkc.lockState ≠ some .erasing)
    (hsession : s.sessionLawful → l.sessionTimer.isRunning = l.session)
    (htimers : s.lockTimersLawful → State.lockTimersLawful { s with lkc := l }) :
    s.Keeps J P { s with lkc := l } where
  journal _ h hj := absurd (h hj) hs
  buffers _ _ hu := absurd hl.symm hu
  closed _ _ hu := absurd hl.symm hu
  session _ h := ⟨fun _ => hl.symm, hsession h⟩
  timers _ _ := htimers

theorem State.unlockedBy_keeps (u : Unwrap) (hl : s.lkc.lockState = some .locked ∨ s.lkc.lockState = some .blank) :
    s.Keeps J P (s.unlockedBy u) := by
  have hlkc : s.Keeps J P { s with lkc := s.unlockLkc u } := by
    refine s.setLkc_unlocked_keeps _ ?_ ?_ (fun hs => ?_) (fun ⟨hw, hi, hh⟩ => ?_)
    · unfold State.unlockLkc
      cases s.mpt.attached <;> simp
    · rcases hl with hl | hl <;> simp [hl]
    · have hclosed : s.lkc.session = false := by
        refine Bool.eq_false_iff.mpr fun h => ?_
        rcases hs.1 h with h' | h' <;> rcases hl with hl | hl <;> cases hl.symm.trans h'
      unfold State.unlockLkc
      cases u.opensSession
      · simpa using hs.2
      · simp [Timer.isRunning]
    · have hwindow : s.lkc.windowTimer.isRunning = false := by
        refine Bool.eq_false_iff.mpr fun h => ?_
        rcases hl with hl | hl <;> cases hl.symm.trans (hw.mp h)
      have hidle : s.lkc.idleTimer = .held := by
        refine hh (Bool.eq_false_iff.mpr fun h => ?_)
        rcases hl with hl | hl <;> cases hl.symm.trans (hi.mp h).1
      unfold State.lockTimersLawful State.unlockLkc
      cases s.mpt.attached
      · simp [hidle, Timer.isRunning_held, Timer.isRunning_running]
      · by_cases hpreset : s.stc.cfg.idle = 0 <;> simp [hwindow, hpreset, Timer.isRunning_held, Timer.isRunning_running]
  exact hlkc.trans (.trans (t := { s with lkc := s.unlockLkc u, slt := { s.slt with unwrap := none, driveKey := u.driveKey } })
    {} ((State.sendState_keeps _ _).trans (State.setFlag_keeps _ _)))

theorem State.completeUnlock_keeps : s.Keeps J P s.completeUnlock := by
  unfold State.completeUnlock
  split
  · exact .refl s
  · next u _ =>
    split
    · next h =>
      have hl : s.lkc.lockState = some .locked ∨ s.lkc.lockState = some .blank := by
        simp only [Bool.and_eq_true, Bool.or_eq_true, decide_eq_true_eq] at h
        exact h.2
      rw [State.deliverUnlock_eq]
      split
      · exact (s.unlockedBy_keeps u hl).trans (State.enuAtUnlock_keeps _)
      · exact s.unlockedBy_keeps u hl
    · exact {}

/-! ### The expiries of the lock timers (R93, R95) -/

theorem Timer.isRunning_of_reached {t : Timer} {preset : Nat} (h : t.reached preset = true) : t.isRunning = true := by
  cases t <;> first | rfl | cases h

/-- A lock event after one of LKC's lock timers was put at rest: it keeps the laws where that timer ran in an unlocked
drive alone. -/
theorem State.lockEvent_atRest_keeps (reason : LockReason) (idle window : Timer)
    (hrun : s.lockTimersLawful → s.unlocked) :
    s.Keeps J P ({ s with lkc := { s.lkc with idleTimer := idle, windowTimer := window } }.lockEvent reason) := by
  by_cases hu : s.unlocked
  · rw [show ({ s with lkc := { s.lkc with idleTimer := idle, windowTimer := window } } : State).lockEvent reason =
      ({ s with lkc := { s.lkc with idleTimer := idle, windowTimer := window } } : State).lockProcedure reason by
        rcases hu with hu | hu <;> simp [State.lockEvent, hu]]
    exact s.lockProcedure_keeps _ reason hu
  · have h : State.Keeps J P { s with lkc := { s.lkc with idleTimer := idle, windowTimer := window } }
        ({ s with lkc := { s.lkc with idleTimer := idle, windowTimer := window } }.lockEvent reason) :=
      State.lockEvent_keeps _ reason
    exact { h with timers := fun _ _ ht => absurd (hrun ht) hu }

theorem State.idleExpiry_keeps : s.Keeps J P s.idleExpiry := by
  unfold State.idleExpiry
  split
  · next h =>
    refine s.lockEvent_atRest_keeps .idle .held s.lkc.windowTimer fun ⟨_, hi, _⟩ => .inr ?_
    simp only [State.idleDue, Bool.and_eq_true] at h
    exact (hi.mp (Timer.isRunning_of_reached h.2)).1
  · exact .refl s

theorem State.windowExpiry_keeps : s.Keeps J P s.windowExpiry := by
  unfold State.windowExpiry
  split
  · next h =>
    exact s.lockEvent_atRest_keeps .window s.lkc.idleTimer .stopped fun ⟨hw, _, _⟩ =>
      .inl (hw.mp (Timer.isRunning_of_reached h))
  · exact .refl s

/-! ### Journal writes and sweep orders (R146, R147, R150 to R153) -/

/-- A change of the erase engine's fields keeps the laws where it keeps the journal's. -/
theorem State.Keeps.setEre {s t : State} (h : s.Keeps J P t) (e : Ere)
    (hj : s.slt.heldLawful → s.journalLawful → State.journalLawful { t with ere := e }) :
    s.Keeps J P { t with ere := e } :=
  { store := h.store, queue := h.queue, contexts := h.contexts, port := h.port, held := h.held
    counters := h.counters, journal := hj, buffers := h.buffers, closed := h.closed, session := h.session
    timers := h.timers }

theorem State.putJournal_keeps (j : Journal) (h : s.journalLawful → s.lkc.lockState = some .erasing) :
    s.Keeps J P (s.putJournal j) := by
  have hoffer : s.Keeps J P (s.offerGuard (.ejr j) (some .erase)) :=
    s.offerGuard_keeps _ _ (fun _ _ => trivial) (fun _ hs _ => h hs)
  refine hoffer.setEre _ fun _ hs _ => ?_
  have hlkc : (s.offerGuard (.ejr j) (some .erase)).lkc = s.lkc := (s.offer_frame _ _ _).2.2.1
  exact (congrArg Lkc.lockState hlkc).trans (h hs)

theorem State.sendSweep_keeps (o : SweepOrder) : s.Keeps J P (s.sendSweep o) :=
  (s.sendOrder_keeps rfl).trans {}

theorem State.giveOrder_keeps (cursor sweepEnd : Lba) : s.Keeps J P (s.giveOrder cursor sweepEnd) :=
  .trans (t := { s with ere := { s.ere with order := _, retry := 1, sweepState := some .ordered } }) {}
    (State.sendSweep_keeps _ _)

theorem State.eraseFinish_keeps (cursor : Option Lba) (incomplete : Bool)
    (h : s.journalLawful → s.lkc.lockState = some .erasing) : s.Keeps J P (s.eraseFinish cursor incomplete) :=
  .trans (t := { s with ere := { s.ere with order := none, sweepOwed := false } }) {}
    (State.putJournal_keeps _ _ h)

theorem State.leavePaused_keeps (h : s.journalLawful → s.lkc.lockState = some .erasing) :
    s.Keeps J P s.leavePaused := by
  unfold State.leavePaused
  split
  · exact s.giveOrder_keeps _ _
  · dsimp only
    split
    · exact s.eraseFinish_keeps _ _ h
    · exact .trans (t := { s with ere := { s.ere with sweepState := some .recording } }) {}
        (State.putJournal_keeps _ _ h)

theorem State.pausedOrOn_keeps (h : s.journalLawful → s.lkc.lockState = some .erasing) :
    s.Keeps J P s.pausedOrOn := by
  have hpaused : s.Keeps J P { s with ere := { s.ere with sweepState := some .paused } } := {}
  unfold State.pausedOrOn
  dsimp only
  split
  · exact hpaused.trans (State.leavePaused_keeps _ h)
  · exact hpaused

theorem State.pauseSweep_keeps : s.Keeps J P s.pauseSweep := by
  unfold State.pauseSweep
  split
  · exact (s.withdraw_keeps OutFrame.isSweep).trans {}
  · exact .refl s

theorem State.resumeSweep_keeps : s.Keeps J P s.resumeSweep := by
  unfold State.resumeSweep
  split
  · next h =>
    refine s.leavePaused_keeps fun hs => hs (.inl ?_)
    simp only [Bool.and_eq_true, decide_eq_true_eq] at h
    simp [h.1]
  · exact .refl s

theorem State.sweptTaken_keeps (start : Lba) (count : Nat) (ok : Bool) : s.Keeps J P (s.sweptTaken start count ok) := by
  unfold State.sweptTaken
  split
  · split
    · next h =>
      have herasing : s.journalLawful → s.lkc.lockState = some .erasing := fun hs => hs (.inl (by
        simp only [Bool.and_eq_true, decide_eq_true_eq] at h
        simp [h.1.1.1]))
      split
      · have hdone : s.Keeps J P { s with ere := { s.ere with order := none, sweepOwed := false } } := {}
        dsimp only
        split
        · exact hdone.trans (State.eraseFinish_keeps _ _ _ herasing)
        · exact hdone.trans (.trans (t := { s with ere := { s.ere with
              order := none, sweepOwed := false, sweepState := some .recording } }) {}
            (State.putJournal_keeps _ _ herasing))
      · split
        · exact .trans (t := { s with ere := { s.ere with retry := s.ere.retry + 1 } }) {} (State.sendSweep_keeps _ _)
        · exact s.eraseFinish_keeps _ _ herasing
    · exact .refl s
  · exact .refl s

theorem State.reofferSweep_keeps : s.Keeps J P s.reofferSweep := by
  unfold State.reofferSweep
  split
  · split
    · exact s.sendSweep_keeps _
    · exact .refl s
  · exact .refl s

/-! ### The erase start (R145) -/

/-- LKC's values at the erase start (R22, R145). -/
def Lkc.erased (l : Lkc) : Lkc :=
  { l with lockState := some .erasing, session := false, sessionTimer := .held, windowTimer := .stopped,
           idleTimer := .held, keyBuffer := Vector.replicate 8 none, role := none, mask := 0 }

/-- The lock procedure that an erase start runs in an unlocked drive (R22). -/
def State.lockForErase (s : State) : State :=
  if s.lkc.lockState = some .opened || s.lkc.lockState = some .openPending then s.lockProcedure .erase else s

theorem State.lkcEraseStart_eq :
    s.lkcEraseStart = { s.lockForErase with lkc := s.lockForErase.lkc.erased }.sendState .erasing := rfl

theorem State.lockForErase_keeps : s.Keeps J P s.lockForErase := by
  unfold State.lockForErase
  split
  · next h =>
    simp only [Bool.or_eq_true, decide_eq_true_eq] at h
    exact s.lockProcedure_keeps s.lkc .erase h.symm
  · exact .refl s

theorem State.abandonEntry_keeps : s.Keeps J P s.abandonEntry := (s.setFlagIf_keeps (isEnrollment s.enu.purpose) .enrollFailed).trans {}

theorem State.enuEraseStart_keeps : s.Keeps J P s.enuEraseStart := by
  unfold State.enuEraseStart
  split
  · exact s.abandonEntry_keeps
  · exact {}

theorem State.atgEraseStart_keeps : s.Keeps J P s.atgEraseStart := {}

/-- The build workspace may take any value whose held writes are in order (R56, R59). -/
theorem State.setBuild_keeps (b : Option Build)
    (h : s.slt.heldLawful → Slt.heldLawful { s.slt with build := b } := by exact fun _ => trivial) :
    s.Keeps J P (s.setBuild b) := { held := h }

/-- SLT's part of the erase start, in its three steps: the build, the held retirement, and what is zeroised or marked
(R65). -/
def State.eraseBuild (s : State) : State :=
  match s.slt.build with
  | some (.enrolling code order key _) =>
    { s with slt := { s.slt with build := some (.enrolling code order key true) } }
  | some (.enrollHeld _ _) => { s with slt := { s.slt with build := none } }.setFlag .enrollFailed
  | _ => s

/-- A held retirement is dropped with its check (R65). -/
def State.eraseRetirement (s : State) : State :=
  if s.slt.heldRetirement.isSome then
    { s with slt := { s.slt with heldRetirement := none }, atg := { s.atg with check := none } } else s

/-- Drive key and match hold are zeroised, a verification is voided and an unwrap marked (R65). -/
def State.eraseHolds (s : State) : State :=
  { s with slt := { s.slt with
      driveKey := none, matchHold := none,
      verification := s.slt.verification.map (fun v => { v with voided := v.snapshot.isSome }),
      unwrap := s.slt.unwrap.map (fun u => { u with discard := true }) } }

theorem State.sltEraseStart_eq : s.sltEraseStart = s.eraseBuild.eraseRetirement.eraseHolds := rfl

theorem State.sltEraseStart_keeps : s.Keeps J P s.sltEraseStart := by
  have hbuild : s.Keeps J P s.eraseBuild := by
    unfold State.eraseBuild
    split
    · exact s.setBuild_keeps _
    · exact (s.setBuild_keeps none).trans (State.setFlag_keeps _ _)
    · exact .refl s
  have hretire : s.eraseBuild.Keeps J P s.eraseBuild.eraseRetirement := by
    unfold State.eraseRetirement
    split
    · exact {}
    · exact .refl _
  exact (hbuild.trans hretire).trans {}

theorem State.enuEraseStart_lkc : s.enuEraseStart.lkc = s.lkc := by
  unfold State.enuEraseStart
  split <;> simp

theorem State.sltEraseStart_lkc : s.sltEraseStart.lkc = s.lkc := by
  have hretire (u : State) : u.eraseRetirement.lkc = u.lkc := by
    unfold State.eraseRetirement
    split <;> rfl
  have hbuild : s.eraseBuild.lkc = s.lkc := by
    unfold State.eraseBuild
    split <;> rfl
  rw [State.sltEraseStart_eq]
  exact (hretire _).trans hbuild

/-- The erase start after LKC's part and the purge, up to the first journal write: parked queries, staged table, entry
unit, back-off, SLT, and the engine's volatile fields (R145). -/
def State.eraseRest (s : State) : State :=
  let s := { s with dqq := [] }
  let s := { s with rgt := { s.rgt with staged := s.rgt.live, dirty := false } }
  let s := s.enuEraseStart.atgEraseStart
  let s := s.sltEraseStart
  { s with ere := { s.ere with sweepState := none, order := none, retry := 0, sweepOwed := false } }

theorem State.eraseStart_eq : s.eraseStart =
    ((s.lkcEraseStart.purgeWhere (fun _ => true)).eraseRest.putJournal (.at .zeroise 0)).setFlag .eraseStarted := rfl

theorem State.eraseRest_lkc : s.eraseRest.lkc = s.lkc :=
  (State.sltEraseStart_lkc _).trans (State.enuEraseStart_lkc _)

theorem State.eraseRest_keeps : s.Keeps J P s.eraseRest := by
  have hclear : s.Keeps J P { s with dqq := [] } := s.setDqq_keeps_of_sublist [] (List.nil_sublist _)
  have htables : s.Keeps J P { s with dqq := [], rgt := { s.rgt with staged := s.rgt.live, dirty := false } } :=
    hclear.trans {}
  exact (((htables.trans (State.enuEraseStart_keeps _)).trans (State.atgEraseStart_keeps _)).trans
    (State.sltEraseStart_keeps _)).trans {}

/-- The erase start keeps every law: what it makes of LKC and of the contexts meets the lock's own laws outright
(R22, R145). -/
theorem State.eraseStart_keeps : s.Keeps J P s.eraseStart := by
  have hlock : s.Keeps J P s.lockForErase := s.lockForErase_keeps
  rw [State.eraseStart_eq, State.lkcEraseStart_eq]
  generalize s.lockForErase = s1 at hlock ⊢
  set e : State := { s1 with lkc := s1.lkc.erased } with he
  obtain ⟨c, m, hpurge, -, -, -, -, hnone⟩ := (e.sendState .erasing).purgeWhere_spec (fun _ => true)
  have herasing : ((e.sendState .erasing).purgeWhere (fun _ => true)).lkc.lockState = some .erasing := by
    rw [hpurge]; rfl
  have hrest {J P : Prop} : ((e.sendState .erasing).purgeWhere (fun _ => true)).Keeps J P
      ((((e.sendState .erasing).purgeWhere (fun _ => true)).eraseRest.putJournal (.at .zeroise 0)).setFlag
        .eraseStarted) :=
    (State.eraseRest_keeps _).trans ((State.putJournal_keeps _ _ fun _ => by
      rw [State.eraseRest_lkc, herasing]).trans (State.setFlag_keeps _ _))
  have hall {J P : Prop} : e.Keeps J P
      ((((e.sendState .erasing).purgeWhere (fun _ => true)).eraseRest.putJournal (.at .zeroise 0)).setFlag
        .eraseStarted) :=
    ((e.sendState_keeps .erasing).trans (State.purgeWhere_keeps _ _)).trans hrest
  have hclosed : ((e.sendState .erasing).purgeWhere (fun _ => true)).contextsClosed := fun _ _ i => by
    rw [hpurge]
    cases hi : c.entries[i].heldRange with
    | none => rfl
    | some r => exact absurd (hnone i r hi).1 nofun
  exact
    { store := fun h => (hall (J := J) (P := P)).store (hlock.store h)
      queue := fun h => (hall (J := J) (P := P)).queue (hlock.queue h)
      contexts := fun h => (hall (J := J) (P := P)).contexts (hlock.contexts h)
      port := fun p h => hall (J := J).port p (hlock.port p h)
      held := fun h => (hall (J := J) (P := P)).held (hlock.held h)
      counters := fun hh h => (hall (J := J) (P := P)).counters (hlock.held hh) (hlock.counters hh h)
      journal := fun hh _ => (hall (J := J) (P := P)).journal (hlock.held hh) fun _ => rfl
      buffers := fun j _ => hall (P := P).buffers j fun _ k b hb => by simp [he, Lkc.erased] at hb
      closed := fun j _ => hrest (P := P).closed j hclosed
      session := fun j _ => hall (P := P).session j ⟨nofun, rfl⟩
      timers := fun j hh _ => hall (P := P).timers j (hlock.held hh) ⟨⟨nofun, nofun⟩, ⟨nofun, nofun⟩, fun _ => rfl⟩ }

/-! ### The phases (R148, R149, R154) -/

theorem State.zeroiseSlot_keeps (k : SlotIx) (h : s.journalLawful → s.lkc.lockState = some .erasing) :
    s.Keeps J P (s.zeroiseSlot k) :=
  (s.offerReserved_keeps (.slt k .empty) (some .erase)).setEre _ fun _ hs _ =>
    (congrArg Lkc.lockState (s.offer_frame _ _ _).2.2.1).trans (h hs)

theorem State.factoryRange_keeps (k : RangeIx) (h : s.journalLawful → s.lkc.lockState = some .erasing) :
    s.Keeps J P (s.factoryRange k) := by
  have hset : s.Keeps J P { s.offerReserved (.rng k (.factory k)) (some .erase) with
      rgt := { (s.offerReserved (.rng k (.factory k)) (some .erase)).rgt with
        staged := (s.offerReserved (.rng k (.factory k)) (some .erase)).rgt.staged.set k (.factory k) } } :=
    (s.offerReserved_keeps (.rng k (.factory k)) (some .erase)).trans {}
  exact hset.setEre _ fun _ hs _ => (congrArg Lkc.lockState (s.offer_frame _ _ _).2.2.1).trans (h hs)

theorem State.clearGuard_keeps (h : s.journalLawful → s.lkc.lockState = some .erasing) :
    s.Keeps J P s.clearGuard := by
  have hatt : s.Keeps J P (s.offerGuard (.att 0) none) := s.offerGuard_keeps _ _ (fun _ _ => Nat.zero_le _)
  refine (hatt.trans (State.offerGuard_keeps _ (.bko { (s.offerGuard (.att 0) none).atg.bko with active := none })
    (some .erase))).setEre _ fun _ hs _ => ?_
  exact (congrArg Lkc.lockState ((State.offer_frame _ _ _ _).2.2.1.trans (s.offer_frame _ _ _).2.2.1)).trans (h hs)

theorem State.journalStep_keeps : s.Keeps J P s.journalStep := by
  have herasing (h : s.ere.journal.phase ≠ .idle) (hs : s.journalLawful) : s.lkc.lockState = some .erasing := hs (.inl h)
  unfold State.journalStep
  split
  · next hphase _ =>
    have h := herasing (by rw [hphase]; nofun)
    split
    · exact s.zeroiseSlot_keeps _ h
    · exact s.putJournal_keeps _ h
  · next hphase _ =>
    have h := herasing (by rw [hphase]; nofun)
    split
    · exact s.factoryRange_keeps _ h
    · exact s.clearGuard_keeps h
  · exact .refl s

/-- The end of an erasure takes the drive from ERASING to BLANK, with the journal IDLE (R23, R154). -/
theorem State.eraseEnd_keeps (hphase : s.ere.journal.phase = .idle) (hl : J → s.lkc.lockState = some .erasing) :
    s.Keeps J P s.eraseEnd := by
  have hnot (j : J) : ¬ s.unlocked := by rintro (h | h) <;> cases (hl j).symm.trans h
  refine .trans (t := { s with ere := _, lkc := { s.lkc with lockState := some .blank } }) ?_ ((State.setFlag_keeps _ .eraseDone).trans
    (State.sendState_keeps _ .blank))
  exact
    { journal := fun _ _ hj => hj.elim (fun hp => absurd hphase hp) nofun
      buffers := fun j hs _ => hs (hnot j)
      closed := fun j hs _ _ => hs (hnot j) (by rw [hl j]; nofun)
      session := fun j hs => ⟨fun h => absurd (hs.1 h) (hnot j), hs.2⟩
      timers := fun j _ ⟨hw, hi, hh⟩ =>
        ⟨⟨fun h => (hnot j (.inl (hw.mp h))).elim, nofun⟩, ⟨fun h => (hnot j (.inr (hi.mp h).1)).elim, fun h => by cases h.1⟩, hh⟩ }

theorem State.ereWriteEnd_keeps (cell : Cell) (hJ : J → s.journalLawful) : s.Keeps J P (s.ereWriteEnd cell) := by
  unfold State.ereWriteEnd
  split
  · next hawaited =>
    have herasing (hs : s.journalLawful) : s.lkc.lockState = some .erasing := hs (.inr (by simp [hawaited]))
    split
    · exact s.journalStep_keeps
    · exact s.putJournal_keeps _ herasing
    · exact s.journalStep_keeps
    · split
      · exact s.clearGuard_keeps herasing
      · exact s.putJournal_keeps _ herasing
    · split
      · exact s.putJournal_keeps _ herasing
      · exact s.eraseFinish_keeps _ _ herasing
    · next hphase =>
      have hnone : s.Keeps J P { s with ere := { s.ere with awaited := none } } :=
        { journal := fun _ hs hj => hs (hj.imp id nofun) }
      exact hnone.trans (State.pausedOrOn_keeps _ fun hs => hs (.inl (by simp [hphase])))
    · next hphase => exact s.eraseEnd_keeps hphase fun j => herasing (hJ j)
    · exact .refl s
  · exact .refl s

end

end Sys2Proof.Machine
end

section
/-! The attempt guard, the slot table's protocols and the entry unit, and what they keep. -/

namespace Sys2Proof.Machine

set_option Elab.async false

section
variable {J P : Prop} (s : State)

/-! ### The back-off (R78 to R84) -/

theorem State.setAtg_keeps (a : Atg) (h : a.counter = s.atg.counter := by rfl) : s.Keeps J P { s with atg := a } :=
  { counters := fun _ hs => ⟨hs.1, h.trans_le hs.2⟩ }

theorem State.setEnu_keeps (e : Enu) : s.Keeps J P { s with enu := e } := {}

theorem State.setPpt_keeps (p : Ppt) : s.Keeps J P { s with ppt := p } := {}

/-- Of SLT the laws read the build workspace alone. -/
theorem State.setSlt_keeps (t : Slt) (h : t.build = s.slt.build := by rfl) : s.Keeps J P { s with slt := t } :=
  { held := fun hs => by
      unfold Slt.heldLawful at hs ⊢
      rwa [show ({ s with slt := t } : State).slt.build = s.slt.build from h] }

theorem State.endBackoff_keeps : s.Keeps J P s.endBackoff := by
  have htimer : s.Keeps J P { s with atg := { s.atg with timer := none } } := s.setAtg_keeps _
  have hrest := (htimer.trans (State.offerGuard_keeps _ (.bko { s.atg.bko with active := none }) none)).trans
    (State.setFlag_keeps _ .holdoffEnded)
  unfold State.endBackoff
  dsimp only
  split
  · exact hrest.trans (State.setEnu_keeps _ _)
  · exact hrest

theorem State.startBackoff_keeps (n elapsed : Nat) : s.Keeps J P (s.startBackoff n elapsed) := by
  have hstart : ∀ t, s.Keeps J P { s with atg := { s.atg with timer := some t } } := fun _ => s.setAtg_keeps _
  have hoffer := fun t => (hstart t).trans (State.offerGuard_keeps _
    (.bko { s.atg.bko with active := some { count := n, elapsed := elapsed } }) none)
  unfold State.startBackoff
  dsimp only
  split
  · exact (hoffer _).trans ((State.setEnu_keeps _ _).trans (State.endBackoff_keeps _))
  · exact (hoffer _).trans (State.setEnu_keeps _ _)

theorem State.checkpoint_keeps : s.Keeps J P s.checkpoint := by
  unfold State.checkpoint
  split
  · split
    · exact (s.setAtg_keeps _).trans (State.offerGuard_keeps _ (.bko _) none)
    · exact .refl s
  · exact .refl s

theorem State.pfwRecord_keeps : s.Keeps J P s.pfwRecord := s.offerGuard_keeps (.bko _) none

theorem State.pfwEffects_keeps : s.Keeps J P s.pfwEffects :=
  ((s.setFlag_keeps .supply).trans (State.lockEvent_keeps _ .supply)).trans (State.pfwRecord_keeps _)

theorem State.recomputeBackoff_keeps : s.Keeps J P s.recomputeBackoff := by
  unfold State.recomputeBackoff
  split
  · dsimp only
    split
    · exact s.endBackoff_keeps
    · exact s.setAtg_keeps _
  · exact .refl s

/-! ### The check (R69 to R74) -/

theorem State.endCheck_keeps : s.Keeps J P s.endCheck := s.setAtg_keeps _

theorem State.dropVerification_keeps : s.Keeps J P s.dropVerification := s.setSlt_keeps _

theorem State.leaveChecking_keeps : s.Keeps J P s.leaveChecking := by
  unfold State.leaveChecking
  split
  · exact s.setEnu_keeps _
  · exact .refl s

theorem State.chargeFails_keeps : s.Keeps J P s.chargeFails :=
  (s.endCheck_keeps.trans (State.dropVerification_keeps _)).trans (State.leaveChecking_keeps _)

theorem State.failureDecision_keeps : s.Keeps J P s.failureDecision := by
  have h := (s.endCheck_keeps (J := J) (P := P)).trans ((State.dropVerification_keeps _).trans
    (State.setFlag_keeps _ .attemptFailed))
  unfold State.failureDecision
  dsimp only
  split
  · exact h.trans (State.eraseStart_keeps _)
  split
  · exact h.trans (State.startBackoff_keeps _ _ _)
  · exact h.trans (State.leaveChecking_keeps _)

/-- The charge raises the counter only below W, which is at most 20 (R68, R69). -/
theorem State.charge_keeps (purpose : Purpose) : s.Keeps J P (s.charge purpose) := by
  unfold State.charge
  split
  · exact (s.setFlag_keeps .storeFault).trans (State.chargeFails_keeps _)
  split
  · exact s.failureDecision_keeps
  · next hlt =>
    refine (s.setAtg_keeps _).trans (State.offerGuard_keeps _ _ _ fun _ hs => ?_)
    obtain ⟨⟨-, -, -, hW⟩, -⟩ := (Settings.inRange_iff _).mp hs.1
    exact Nat.succ_le_of_lt ((Nat.lt_of_not_le hlt).trans_le hW)

theorem State.refund_keeps : s.Keeps J P s.refund := by
  have h := (s.setAtg_keeps (J := J) (P := P) { s.atg with check := s.atg.check.map CheckInProgress.toRefunding }).trans
    (State.offerGuard_keeps _ (.att 0) (some .refund) fun _ _ => Nat.zero_le _)
  unfold State.refund
  dsimp only
  split
  · exact h.trans ((State.setAtg_keeps _ _).trans (State.offerGuard_keeps _ (.bko _) none))
  · exact h

/-! ### Verification (R50 to R53) -/

theorem State.fillHold_keeps (e : SnapSlot) (digits : List Digit) : s.Keeps J P (s.fillHold e digits) := by
  unfold State.fillHold
  split
  · exact s.setSlt_keeps _
  · exact .refl s

theorem State.setSlot_keeps (k : SlotIx) (r : SlotRecord) : s.Keeps J P (s.setWorking (.slt k r)) := s.setSlt_keeps _

theorem State.retire_keeps (k : SlotIx) (i : SlotInfo) : s.Keeps J P (s.retire k i) := by
  unfold State.retire
  dsimp only
  split
  · exact s.offer_keeps _ (.slt k _) _
  · exact (s.setSlot_keeps k _).trans (State.setSlt_keeps _ _)

theorem State.verificationEnds_keeps : s.Keeps J P s.verificationEnds := by
  unfold State.verificationEnds
  split
  · have hdrop : s.Keeps J P s.dropVerification := s.dropVerification_keeps
    dsimp only
    split
    · exact hdrop.trans (State.endCheck_keeps _)
    split
    · exact hdrop.trans (State.failureDecision_keeps _)
    · have hfill := fun e digits => hdrop.trans (State.fillHold_keeps _ e digits)
      split
      · split
        · exact (hfill _ _).trans (State.retire_keeps _ _ _)
        · exact (hfill _ _).trans (State.refund_keeps _)
      · exact (hfill _ _).trans (State.refund_keeps _)
  · exact .refl s

theorem State.retirementEnds_keeps : s.Keeps J P s.retirementEnds := by
  unfold State.retirementEnds
  split
  · exact s.refund_keeps
  · exact .refl s

/-! ### The unwrap's start and the ends of charge and refund (R62, R70 to R73) -/

theorem State.startUnwrap_keeps (opens first : Bool) : s.Keeps J P (s.startUnwrap opens first) := by
  unfold State.startUnwrap
  split
  · exact s.setSlt_keeps _
  · exact .refl s

theorem State.dropHold_keeps : s.Keeps J P s.dropHold := s.setSlt_keeps _

theorem State.markAttFaulty_keeps (completed : Bool) : s.Keeps J P (s.markAttFaulty completed) := by
  unfold State.markAttFaulty
  split
  · exact .refl s
  · exact s.setAtg_keeps _

theorem State.startVerification_keeps : s.Keeps J P s.startVerification := s.setSlt_keeps _

theorem State.chargeEnds_keeps (completed : Bool) : s.Keeps J P (s.chargeEnds completed) := by
  unfold State.chargeEnds
  split
  · exact s.markAttFaulty_keeps _
  split
  · exact (s.markAttFaulty_keeps _).trans (State.chargeFails_keeps _)
  split
  · exact s.endCheck_keeps.trans (State.dropVerification_keeps _)
  · exact (s.setAtg_keeps _).trans (State.startVerification_keeps _)

theorem State.refundEffect_keeps (cancel : Bool) (purpose : Purpose) : s.Keeps J P (s.refundEffect cancel purpose) := by
  have hopen (hu : s.unlocked) :
      s.Keeps J P (if !cancel && purpose = .admin then s.dropHold.openSession else s.dropHold) := by
    split
    · exact s.dropHold_keeps.trans (State.openSession_keeps _ hu)
    · exact s.dropHold_keeps
  unfold State.refundEffect
  split
  · split
    · exact s.dropHold_keeps
    · exact s.startUnwrap_keeps _ _
  · next h => exact hopen (.inr h)
  · next h => exact hopen (.inl h)
  · exact s.dropHold_keeps

theorem State.refundEnds_keeps (completed : Bool) : s.Keeps J P (s.refundEnds completed) := by
  have hmark : s.Keeps J P (s.markAttFaulty completed) := s.markAttFaulty_keeps _
  unfold State.refundEnds
  dsimp only
  split
  · exact hmark
  · exact hmark.trans ((State.endCheck_keeps _).trans ((State.leaveChecking_keeps _).trans
      (State.refundEffect_keeps _ _ _)))

/-! ### Builds (R56 to R60) -/

theorem State.startEnrollment_keeps (code : List Digit) (order : EnrollOrder) :
    s.Keeps J P (s.startEnrollment code order) := by
  unfold State.startEnrollment
  split
  · exact s.setBuild_keeps _
  · exact s.setFlag_keeps _

theorem State.startFirstEnrollment_keeps (code : List Digit) : s.Keeps J P (s.startFirstEnrollment code) :=
  s.setBuild_keeps _

theorem State.spendFresh_keeps : s.Keeps J P s.spendFresh := {}

theorem State.enrollBuildEnds_keeps : s.Keeps J P s.enrollBuildEnds := by
  unfold State.enrollBuildEnds
  split
  · split
    · exact (s.setBuild_keeps none).trans (State.setFlag_keeps _ _)
    · dsimp only
      have hoffer := fun k w => (s.spendFresh_keeps (J := J) (P := P)).trans
        (State.offer_keeps _ .ordinary (.slt k w) none)
      split
      · exact (hoffer _ _).trans ((State.setBuild_keeps _ none).trans (State.setFlag_keeps _ _))
      · exact (hoffer _ _).trans (State.setBuild_keeps _ _)
  · exact .refl s

/-- An offered write leaves the build workspace. -/
theorem State.offer_build (k : OfferKind) (w : CellWrite) (a : Option Awaiter) :
    (s.offer k w a).1.slt.build = s.slt.build := by
  unfold State.offer
  split
  · next q _ =>
    rcases State.takeNext_eq (State.setWorking { s with stc := q } w) with e | e <;> simp only [e] <;> cases w <;> rfl
  · rfl

theorem Slt.heldLawful_congr {t u : Slt} (h : t.build = u.build) : t.heldLawful ↔ u.heldLawful := by
  unfold Slt.heldLawful
  rw [h]

/-- Writes of slot and range cells alone, which no law but the store's can read a value of. -/
def slotOrRange (w : CellWrite) : Prop := w.cell.isGuard = false ∧ w.cell ≠ .cfg

theorem State.offer_keeps_of_slotOrRange (k : OfferKind) (w : CellWrite) (a : Option Awaiter)
    (h : s.slt.heldLawful → slotOrRange w) : s.Keeps J P (s.offer k w a).1 := by
  cases w with
  | slt k r => exact s.offer_keeps _ _ _
  | rng k r => exact s.offer_keeps _ _ _
  | cfg c =>
    exact s.offer_keeps _ _ _ (fun hh _ => absurd rfl (h hh).2) (fun _ _ he => he.elim) (fun _ hh => absurd rfl (h hh).2)
  | att n => exact s.offer_keeps _ _ _ (fun hh _ => absurd (h hh).1 nofun)
  | bko r => exact s.offer_keeps _ _ _
  | ejr j => exact s.offer_keeps _ _ _ (fun _ _ => trivial) (fun hh _ _ => absurd (h hh).1 nofun)

theorem State.offerFirst_build (l : List CellWrite) : ∀ s : State, (s.offerFirst l).1.slt.build = s.slt.build := by
  induction l with
  | nil => exact fun _ => rfl
  | cons w rest ih => exact fun s => (ih _).trans (s.offer_build _ _ _)

theorem State.offerFirst_keeps (l : List CellWrite) : ∀ s : State, (s.slt.heldLawful → ∀ w ∈ l, slotOrRange w) →
    s.Keeps J P (s.offerFirst l).1 := by
  induction l with
  | nil => exact fun s _ => .refl s
  | cons w rest ih =>
    intro s h
    refine (s.offer_keeps_of_slotOrRange .ordinary w (some .firstEnrollment) fun hh => h hh w List.mem_cons_self).trans
      (ih _ fun hh x hx => h ?_ x (List.mem_cons_of_mem _ hx))
    exact (Slt.heldLawful_congr (s.offer_build _ _ _)).mp hh

/-- The writes that a first enrollment has refused are among those offered (R59). -/
theorem State.offerFirst_held (l : List CellWrite) : ∀ (s : State) (w : CellWrite), w ∈ (s.offerFirst l).2 → w ∈ l := by
  induction l with
  | nil => exact fun _ _ h => h
  | cons x rest ih =>
    intro s w h
    simp only [State.offerFirst] at h
    split at h
    · exact List.mem_cons_of_mem _ (ih _ w h)
    · rcases List.mem_cons.mp h with rfl | h
      · exact List.mem_cons_self
      · exact List.mem_cons_of_mem _ (ih _ w h)

theorem State.setBoth_keeps (k : RangeIx) (r : RangeRecord) : s.Keeps J P (s.setBoth k r) := {}

theorem State.firstRanges_keeps (w : Wrapped) : s.Keeps J P (s.firstRanges w) := by
  unfold State.firstRanges
  refine ((s.setBoth_keeps 0 _).trans (State.Keeps.foldl _ (fun s k _ => ?_) _)).trans {}
  exact (s.setBoth_keeps k .unused).trans (State.setPosition_keeps _ k none nofun)

theorem State.firstBuildEnds_keeps : s.Keeps J P s.firstBuildEnds := by
  unfold State.firstBuildEnds
  split
  · next code _ =>
    dsimp only
    set l : List CellWrite := [.rng 0 (.factoryZero (some { key := .range (s.freshCount + 2), under := .drive (s.freshCount + 1) }))] ++
      (staleRanges s.rgt.live).map (fun k => .rng k .unused) ++
      [.slt 0 (enrolledRecord code firstOrder (.drive (s.freshCount + 1)) s.freshCount)] with hl
    have hwrites : ∀ w ∈ l, slotOrRange w := by
      intro w hw
      simp only [hl, List.mem_append, List.mem_singleton, List.mem_map] at hw
      rcases hw with (rfl | ⟨k, -, rfl⟩) | rfl <;> exact ⟨rfl, nofun⟩
    have hfresh : s.Keeps J P s.spendFresh.spendFresh.spendFresh := {}
    refine ((hfresh.trans ((State.firstRanges_keeps _ _).trans (State.setSlot_keeps _ 0 _))).trans
      (State.offerFirst_keeps l _ fun _ => hwrites)).trans (State.setBuild_keeps _ _ fun _ w hw => ?_)
    exact hwrites w (State.offerFirst_held l _ w hw)
  · exact .refl s

theorem State.offerEmptyZero_keeps : s.Keeps J P s.offerEmptyZero := by
  have hoffer : s.Keeps J P (s.offer .ordinary (.slt 0 .empty) none).1 := s.offer_keeps _ _ _
  unfold State.offerEmptyZero
  dsimp only
  split
  · exact hoffer.trans (State.setBuild_keeps _ _)
  · exact hoffer.trans (State.setBuild_keeps _ _)

theorem State.firstWriteEnds_keeps (cell : Cell) (completed : Bool) : s.Keeps J P (s.firstWriteEnds cell completed) := by
  unfold State.firstWriteEnds
  split
  · next held failed codeKey wrapped hbuild =>
    dsimp only
    split
    · split
      · split
        · exact (s.setFlag_keeps .enrollFailed).trans (State.offerEmptyZero_keeps _)
        · exact (s.setFlag_keeps .enrollFailed).trans ((State.setSlot_keeps _ 0 .empty).trans (State.setBuild_keeps _ none))
      · exact (s.setBuild_keeps none).trans ((State.setFlag_keeps _ .enrollDone).trans ((State.setSlt_keeps _ _).trans
          (State.startUnwrap_keeps _ _ _)))
    · refine s.setBuild_keeps _ fun hh => ?_
      unfold Slt.heldLawful at hh ⊢
      rwa [hbuild] at hh
  · exact .refl s

/-! ### Re-offers (R53, R56, R59, R60) -/

/-- The held retirement offered again (R53). -/
def State.reofferRetirement (s : State) : State :=
  match s.slt.heldRetirement with
  | some k =>
    let offered := s.offer .ordinary (.slt k s.slt.slots[k]) (some .retirement)
    if offered.2 then { offered.1 with slt := { offered.1.slt with heldRetirement := none } } else offered.1
  | none => s

/-- The writes of the build workspace offered again (R56, R59, R60). -/
def State.reofferBuild (s : State) : State :=
  match s.slt.build with
  | some (.enrollHeld k record) =>
    let offered := s.offer .ordinary (.slt k record) none
    if offered.2 then (offered.1.setBuild none).setFlag .enrollDone else offered.1
  | some (.firstWriting held failed codeKey wrapped) =>
    let offered := s.offerFirst held
    offered.1.setBuild (some (.firstWriting offered.2 failed codeKey wrapped))
  | some .firstRefused => s.offerEmptyZero
  | _ => s

theorem State.reofferSlots_eq : s.reofferSlots = s.reofferRetirement.reofferBuild := rfl

theorem State.reofferRetirement_keeps : s.Keeps J P s.reofferRetirement := by
  unfold State.reofferRetirement
  split
  · next k _ =>
    have hoffer : s.Keeps J P (s.offer .ordinary (.slt k s.slt.slots[k]) (some .retirement)).1 := s.offer_keeps _ _ _
    dsimp only
    split
    · exact hoffer.trans (State.setSlt_keeps _ _)
    · exact hoffer
  · exact .refl s

theorem State.reofferBuild_keeps : s.Keeps J P s.reofferBuild := by
  unfold State.reofferBuild
  split
  · dsimp only
    split
    · exact (s.offer_keeps _ (.slt _ _) none).trans ((State.setBuild_keeps _ none).trans (State.setFlag_keeps _ _))
    · exact s.offer_keeps _ (.slt _ _) none
  · next held failed codeKey wrapped hbuild =>
    have hheld (hh : s.slt.heldLawful) : ∀ w ∈ held, slotOrRange w := by
      unfold Slt.heldLawful at hh
      rwa [hbuild] at hh
    refine (State.offerFirst_keeps held s hheld).trans (State.setBuild_keeps _ _ fun hh w hw => ?_)
    refine hheld ((Slt.heldLawful_congr (State.offerFirst_build held s)).mp hh) w ?_
    exact State.offerFirst_held held s w hw
  · exact s.offerEmptyZero_keeps
  · exact .refl s

theorem State.reofferSlots_keeps : s.Keeps J P s.reofferSlots :=
  s.reofferRetirement_keeps.trans (State.reofferBuild_keeps _)

/-! ### The Entry Unit (R30 to R39) -/

theorem State.startEntry_keeps (p : Purpose) (b : List Digit) (o : Option EnrollOrder) :
    s.Keeps J P (s.startEntry p b o) := {}

theorem State.idleKey_keeps (l : LockState) (e : KeyEvent) : s.Keeps J P (s.idleKey l e) := by
  unfold State.idleKey
  split
  · split
    · exact .refl s
    · exact s.startEntry_keeps _ _ _
  · exact s.startEntry_keeps _ _ _
  · exact s.startEntry_keeps _ _ _
  · exact s.startEntry_keeps _ _ _
  · exact s.startEntry_keeps _ _ _
  · exact s.lockEvent_keeps .key
  · exact .refl s

theorem State.enterChecking_keeps (p : Purpose) : s.Keeps J P (s.enterChecking p) :=
  ((s.setSlt_keeps _).trans (State.setEnu_keeps _ _)).trans (State.charge_keeps _ p)

theorem State.endEnroll_keeps : s.Keeps J P s.endEnroll := by
  unfold State.endEnroll
  dsimp only
  split
  · split
    · split
      · exact (s.setEnu_keeps _).trans (State.startFirstEnrollment_keeps _ _)
      · exact (s.setEnu_keeps _).trans (State.startEnrollment_keeps _ _ _)
    · exact s.abandonEntry_keeps
  · exact s.abandonEntry_keeps

theorem State.endEntry_keeps : s.Keeps J P s.endEntry := by
  unfold State.endEntry
  split
  · exact s.abandonEntry_keeps
  split
  · exact s.enterChecking_keeps _
  · exact s.enterChecking_keeps _
  · exact s.setEnu_keeps _
  · exact s.endEnroll_keeps
  · exact s.abandonEntry_keeps

theorem State.collectingKey_keeps (e : KeyEvent) : s.Keeps J P (s.collectingKey e) := by
  unfold State.collectingKey
  split
  · exact s.setEnu_keeps _
  · exact .refl s
  · exact s.endEntry_keeps
  · exact s.abandonEntry_keeps.trans (State.lockEvent_keeps _ .key)

theorem State.keyEvent_keeps (e : KeyEvent) : s.Keeps J P (s.keyEvent e) := by
  have hstandby : s.Keeps J P s.restartStandby := s.setEnu_keeps _
  unfold State.keyEvent
  dsimp only
  split
  · exact hstandby
  · exact hstandby
  split
  · exact hstandby.trans (State.idleKey_keeps _ _ e)
  · exact hstandby.trans (State.collectingKey_keeps _ e)
  all_goals
    split
    · exact hstandby.trans (State.lockEvent_keeps _ .key)
    · exact hstandby

theorem State.entryExpiry_keeps : s.Keeps J P s.entryExpiry := by
  unfold State.entryExpiry
  split
  · exact s.abandonEntry_keeps
  · exact .refl s

/-! ### The Keypad Scanner (R26 to R29, R45) -/

theorem State.setKsc_keeps (k : Ksc) : s.Keeps J P (s.setKsc k) := {}

theorem State.press_keeps (key : PadKey) : s.Keeps J P (s.press key) := by
  unfold State.press
  split
  · exact .refl s
  split
  · unfold State.wakePress
    dsimp only
    split <;> exact s.wake_keeps.trans (State.setKsc_keeps _ _)
  · unfold State.fullPress
    dsimp only
    split
    · split
      · exact (s.setKsc_keeps _).trans (State.keyEvent_keeps _ _)
      · exact s.setKsc_keeps _
      · exact s.setKsc_keeps _
    · split <;> exact s.setKsc_keeps _

theorem State.release_keeps (key : PadKey) : s.Keeps J P (s.release key) := by
  unfold State.release
  split
  · exact .refl s
  dsimp only
  split
  · split
    · exact (s.setKsc_keeps _).trans (State.keyEvent_keeps _ _)
    · exact s.setKsc_keeps _
  · split <;> exact s.setKsc_keeps _
  all_goals exact s.setKsc_keeps _

theorem State.pairingExpiry_keeps : s.Keeps J P s.pairingExpiry := by
  unfold State.pairingExpiry
  split
  · dsimp only
    split
    · exact (s.setKsc_keeps _).trans (State.keyEvent_keeps _ _)
    · exact s.setKsc_keeps _
  · exact .refl s

theorem State.chordExpiry_keeps : s.Keeps J P s.chordExpiry := by
  unfold State.chordExpiry
  split
  · exact (s.setKsc_keeps _).trans (State.keyEvent_keeps _ _)
  · exact .refl s

theorem State.standbyExpiry_keeps : s.Keeps J P s.standbyExpiry := by
  unfold State.standbyExpiry
  split
  · exact {}
  · exact .refl s

end

end Sys2Proof.Machine
end

section
/-! The media port's commands, and what they keep: queries, answers, loads, replies of the bridge, transactions. -/

namespace Sys2Proof.Machine

set_option Elab.async false

/-! ### Facts about the context map's searches -/

theorem mem_allCtx (i : CtxIx) : i ∈ allCtx := by
  revert i
  decide

theorem Cxm.loadedFor_eq_none {c : Cxm} {r : RangeIx} (h : c.loadedFor r = none) (i : CtxIx) (o : Byte) :
    c.entries[i] ≠ .loaded r o := fun he => by
  have := List.find?_eq_none.mp h i (mem_allCtx i)
  simp [he] at this

theorem Cxm.loadingFor_eq_false {c : Cxm} {r : RangeIx} (h : c.loadingFor r = false) (i : CtxIx) (o : Byte) (n : Nat)
    (t : ReplyTimer) : c.entries[i] ≠ .loading r o n t := fun he => by
  have := List.any_eq_false.mp h i (mem_allCtx i)
  simp [he] at this

/-- A range that is neither LOADED nor LOADING is held by no entry (R128). -/
theorem Cxm.heldRange_ne {c : Cxm} {r : RangeIx} (hloaded : c.loadedFor r = none) (hloading : c.loadingFor r = false)
    (i : CtxIx) : c.entries[i].heldRange ≠ some r := by
  intro h
  cases he : c.entries[i] with
  | empty => rw [he] at h; cases h
  | loading q o n t =>
    rw [he] at h
    cases h
    exact Cxm.loadingFor_eq_false hloading i o n t he
  | loaded q o =>
    rw [he] at h
    cases h
    exact Cxm.loadedFor_eq_none hloaded i o he
  | purging q o t => rw [he] at h; cases h

/-- A hand-over: the drive is LOCKED or unlocked, the range has a key, and no context is LOADED for it (R116, R121). -/
theorem State.decideQuery_eq_load {s : State} {q : Query} {r : RangeIx} (h : s.decideQuery q = .load r) :
    (s.unlocked ∨ s.lkc.lockState = some .locked) ∧ (∃ b, s.lkc.keyBuffer[r] = some b) ∧ s.cxm.loadedFor r = none := by
  have hspan : (∃ l, s.lkc.lockState = some l ∧ l ≠ .erasing ∧ l ≠ .blank) ∧ s.decideSpan q = .load r := by
    unfold State.decideQuery at h
    cases hl : s.lkc.lockState with
    | none => rw [hl] at h; cases h
    | some l =>
      rw [hl] at h
      dsimp only at h
      split_ifs at h with _ _ herasing hblank
      exact ⟨⟨l, rfl, herasing, hblank⟩, h⟩
  obtain ⟨⟨l, hl, herasing, hblank⟩, hspan⟩ := hspan
  have hgrant : ∃ x g p, s.grantOrLoad x g p = .load r := by
    unfold State.decideSpan at hspan
    split at hspan
    · cases hspan
    · dsimp only at hspan
      split_ifs at hspan
      exact ⟨_, _, _, hspan⟩
  obtain ⟨x, g, p, hgrant⟩ := hgrant
  unfold State.grantOrLoad at hgrant
  split_ifs at hgrant with hkey
  split at hgrant
  · cases hgrant
  · next hloaded =>
    cases hgrant
    refine ⟨?_, Option.ne_none_iff_exists'.mp (by simpa using hkey), hloaded⟩
    unfold State.unlocked
    rw [hl]
    cases l <;> simp_all

section
variable {J P : Prop} (s : State)

/-! ### Queries (R115, R128, R138 to R140) -/

theorem State.giveAnswer_keeps (tag : Byte) (d : Decision) (hp : P → s.mpt.ordersOnly) :
    s.Keeps J P (s.giveAnswer tag d) := by
  have hsend : s.Keeps J P (s.sendAnswer (d.frame tag)) := s.sendAnswer_keeps (by cases d <;> rfl) hp
  unfold State.giveAnswer
  dsimp only
  split
  · exact hsend.trans ((State.touchContext_keeps _ _).trans (State.restartIdle_keeps _))
  · exact hsend.trans (State.restartIdle_keeps _)
  · exact hsend

theorem State.park_keeps (q : Query) (r : RangeIx) (hroom : s.dqq.length < parkLimit) (hq : ∀ p ∈ s.dqq, p.query ≠ q) :
    s.Keeps J P (s.park q r) :=
  { queue := fun ⟨_, hnodup⟩ => by
      refine ⟨by simp only [State.park, List.length_append, List.length_singleton]; exact hroom, ?_⟩
      have hnot : q ∉ s.dqq.map Parked.query := fun h => by
        obtain ⟨p, hp, hpq⟩ := List.mem_map.mp h
        exact hq p hp hpq
      simpa [State.park, List.nodup_append] using ⟨hnodup, fun p hp hpq => hq p hp hpq⟩ }

theorem State.beginLoad_keeps (i : CtxIx) (r : RangeIx)
    (h : (∀ j : CtxIx, s.cxm.entries[j].heldRange ≠ some r) ∧ (s.unlocked ∨ s.lkc.lockState = some .locked)) :
    s.Keeps J P (s.beginLoad i r) :=
  s.advanceOrder_keeps.trans (State.sendKeyload_keeps _ i r _ 1 (.inr h))

theorem State.handOver_keeps (q : Query) (r : RangeIx) (hp : P → s.mpt.ordersOnly) (hload : s.decideQuery q = .load r)
    (hq : ∀ p ∈ s.dqq, p.query ≠ q) : s.Keeps J P (s.handOver q r) := by
  obtain ⟨hlock, -, hloaded⟩ := State.decideQuery_eq_load hload
  have hsend : s.Keeps J P (s.sendAnswer (.retry q.tag)) := s.sendAnswer_keeps rfl hp
  unfold State.handOver
  dsimp only
  split
  · exact hsend
  next hroom =>
  have hpark : s.Keeps J P ((s.sendAnswer (.retry q.tag)).park q r) :=
    hsend.trans (State.park_keeps _ q r (Nat.lt_of_not_le hroom) hq)
  split
  · exact hpark
  next hloading =>
  split
  · exact hpark.trans (State.beginLoad_keeps _ _ r ⟨Cxm.heldRange_ne hloaded (by simpa using hloading), hlock⟩)
  · exact hsend

theorem State.answerFresh_keeps (q : Query) (hp : P → s.mpt.ordersOnly) (hq : ∀ p ∈ s.dqq, p.query ≠ q) :
    s.Keeps J P (s.answerFresh q) := by
  unfold State.answerFresh
  split
  · exact s.giveAnswer_keeps _ _ hp
  · next hload => exact s.handOver_keeps q _ hp hload hq

theorem State.unpark_keeps (q : Query) : s.Keeps J P (s.unpark q) := s.setDqq_keeps_of_sublist _ List.filter_sublist

theorem State.query_ne_of_mem_unpark (q : Query) : ∀ p ∈ (s.unpark q).dqq, p.query ≠ q := by
  intro p hp
  have := (List.mem_filter.mp hp).2
  simpa using this

theorem State.takeQuery_keeps (q : Query) (hp : P → s.mpt.ordersOnly) : s.Keeps J P (s.takeQuery q) := by
  unfold State.takeQuery
  split
  · next hfind => exact s.answerFresh_keeps q hp fun p hmem => by simpa using List.find?_eq_none.mp hfind p hmem
  · split
    · exact s.sendAnswer_keeps rfl hp
    · split
      · exact (s.unpark_keeps q).trans (State.giveAnswer_keeps _ _ _ hp)
      · exact (s.unpark_keeps q).trans (State.answerFresh_keeps _ q hp (s.query_ne_of_mem_unpark q))

theorem State.accessFrame_keeps (q : Query) (hp : P → s.mpt.ordersOnly) : s.Keeps J P (s.accessFrame q) := by
  unfold State.accessFrame
  split
  · exact s.takeQuery_keeps q hp
  · exact s.sendAnswer_keeps rfl hp

theorem State.discardParked_keeps (place : Nat) : s.Keeps J P (s.discardParked place) := by
  unfold State.discardParked
  split
  · exact (s.setDqq_keeps_of_sublist _ (List.eraseIdx_sublist _ _)).trans (State.setFlag_keeps _ _)
  · exact .refl s

/-! ### Replies of the bridge (R131 to R135) -/

theorem State.keyAck_keeps (i : CtxIx) (order : Byte) (ok : Bool) : s.Keeps J P (s.keyAck i order ok) := by
  unfold State.keyAck
  split
  · next r o n t hentry =>
    split
    · split
      · refine ((s.setEntry_keeps_of_same i (.loaded r o) (.inr (by rw [hentry]; rfl))).trans
          (State.touchContext_keeps _ i)).trans (State.resolveWaiting_keeps _ r _)
      · exact s.loadTryFailed_keeps i
    · exact .refl s
  · exact .refl s

theorem State.keyloadTimeout_keeps (i : CtxIx) : s.Keeps J P (s.keyloadTimeout i) := by
  unfold State.keyloadTimeout
  split
  · split
    · exact s.loadTryFailed_keeps i
    · exact .refl s
  · exact .refl s

theorem State.purgeAck_keeps (i : CtxIx) (order : Byte) : s.Keeps J P (s.purgeAck i order) := by
  unfold State.purgeAck
  split
  · split
    · exact s.setEntry_keeps_of_same i .empty (.inl rfl)
    · exact .refl s
  · exact .refl s

theorem State.purgeTimeout_keeps (i : CtxIx) : s.Keeps J P (s.purgeTimeout i) := by
  unfold State.purgeTimeout
  split
  · split
    · exact s.sendPurge_keeps i _ _
    · exact .refl s
  · exact .refl s

/-! ### Transactions (R174) -/

theorem State.frameRead_mpt (f : OutFrame) : (s.frameRead f).mpt = s.mpt := by
  unfold State.frameRead
  split
  · rfl
  split
  · split
    · split <;> simp
    · rfl
  · split
    · split <;> simp
    · rfl
  · rfl

theorem State.readOut_keeps (sent : Bool) : s.Keeps J P (s.readOut sent).1 := by
  unfold State.readOut
  dsimp only
  split
  · next f rest hout =>
    split
    · have hrest : s.Keeps J P { s with mpt := { s.mpt with transaction := none, outbound := rest } } :=
        { port := fun _ h => framesLawful.sublist h (by rw [hout]; exact List.sublist_cons_self _ _) }
      exact hrest.trans (State.frameRead_keeps _ f)
    · exact {}
  · exact {}

/-- After the reading out, the queue holds order frames alone: an answer at its head has always left (R174, R177). -/
theorem State.readOut_ordersOnly (sent : Bool) (h : s.mpt.lawful) : (s.readOut sent).1.mpt.ordersOnly := by
  unfold State.readOut
  dsimp only
  split
  · next f rest hout =>
    rw [Mpt.lawful_iff, hout] at h
    split
    · rw [State.frameRead_mpt]
      exact h.ordersOnly_tail
    · next hf =>
      have hhead : f.isAnswer = false := by
        cases hf' : f.isAnswer
        · rfl
        · simp [hf'] at hf
      have hall : ∀ g ∈ f :: rest, g.isAnswer = false := fun g hg => by
        rcases List.mem_cons.mp hg with rfl | hg
        · exact hhead
        · exact h.1 g hg
      refine ⟨by simpa [hout] using hall, ?_⟩
      have hlen := h.2
      rwa [List.filter_eq_self.mpr fun g hg => by simp [hall g hg], ← hout] at hlen
  · next hout => exact ⟨by simp [hout], by simp [hout]⟩

theorem State.placePending_keeps : s.Keeps J P s.placePending := by
  unfold State.placePending
  split
  · split
    · next h =>
      simp only [Bool.and_eq_true, decide_eq_true_eq] at h
      exact { port := fun _ hs => framesLawful.append hs rfl ((List.length_filter_le _ _).trans_lt h.2) }
    · exact .refl s
  · exact .refl s

theorem State.transaction_keeps (sent : Bool) (handle : State → State) (hP : P → s.mpt.lawful)
    (h : ∀ u : State, (P → u.mpt.ordersOnly) → u.Keeps J P (handle u)) : s.Keeps J P (s.transaction sent handle) := by
  have hhandled := (s.readOut_keeps sent).trans (h _ fun p => s.readOut_ordersOnly sent (hP p))
  unfold State.transaction
  dsimp only
  split
  · exact hhandled.trans ((State.reofferSweep_keeps _).trans (State.placePending_keeps _))
  · exact hhandled.trans (State.placePending_keeps _)

theorem State.rejectFrame_keeps (mosi : List Byte) (hp : P → s.mpt.ordersOnly) : s.Keeps J P (s.rejectFrame mosi) := by
  unfold State.rejectFrame
  split
  · exact s.sendAnswer_keeps rfl hp
  · exact .refl s

theorem State.attachLock_keeps : s.Keeps J P s.attachLock := by
  unfold State.attachLock
  split
  · next hl =>
    refine .trans (t := { s with lkc := { s.lkc with
      windowTimer := .stopped, lockState := some .opened, idleTimer := if s.stc.cfg.idle = 0 then .held else .running 0 } })
      (s.setLkc_unlocked_keeps _ (.inl rfl) (by rw [hl]; nofun) (fun hs => hs.2) fun _ => ?_) (State.sendState_keeps _ _)
    unfold State.lockTimersLawful
    by_cases hidle : s.stc.cfg.idle = 0 <;> simp [hidle]
  · exact .refl s

theorem State.attachFrame_keeps (capacity : BitVec 64) : s.Keeps J P (s.attachFrame capacity) := by
  have hport : s.Keeps J P { s with mpt := { s.mpt with attached := true, capacity := some capacity } } := {}
  exact hport.trans ((State.wake_keeps _).trans ((State.attachLock_keeps _).trans
    ((State.markStale_keeps _).trans (State.resumeSweep_keeps _))))

theorem State.detachFrame_keeps : s.Keeps J P s.detachFrame := by
  have hport : s.Keeps J P { s with mpt := { s.mpt with attached := false } } := {}
  unfold State.detachFrame
  dsimp only
  split
  · exact hport.trans ((State.lockEvent_keeps _ .detach).trans ((State.markStale_keeps _).trans (State.pauseSweep_keeps _)))
  · exact hport.trans ((State.markStale_keeps _).trans (State.pauseSweep_keeps _))

/-- Steps 1 to 4 of a LINKRESET: the queues and the context map emptied, the flag cleared (R15, R136, R180). -/
def State.linkEmptied (s : State) : State :=
  { s with mpt := { s.mpt with outbound := [], statePending := false, attached := false }, dqq := [],
           cxm := { s.cxm with entries := Vector.replicate 4 .empty } }

/-- The sweep's retry count cleared (R153). -/
def State.clearRetry (s : State) : State := { s with ere := { s.ere with retry := 0 } }

theorem State.linkResetFrame_eq : s.linkResetFrame = s.linkEmptied.pauseSweep.clearRetry.lockEvent .link := rfl

theorem State.linkEmptied_keeps : s.Keeps J P s.linkEmptied := by
  have hempty (j : CtxIx) : s.linkEmptied.cxm.entries[j].heldRange = none := by
    simp [State.linkEmptied, ContextEntry.heldRange]
  exact
    { queue := fun _ => ⟨Nat.zero_le _, List.nodup_nil⟩
      contexts := fun ⟨_, hlru⟩ => ⟨fun i j r hi _ => absurd (hi.symm.trans (hempty i)) nofun, hlru⟩
      port := fun _ _ => ⟨nofun, Nat.zero_le _⟩
      closed := fun _ _ _ _ => hempty }

theorem State.linkResetFrame_keeps : s.Keeps J P s.linkResetFrame := by
  rw [State.linkResetFrame_eq]
  have hretry (u : State) : u.Keeps J P u.clearRetry := {}
  exact s.linkEmptied_keeps.trans ((State.pauseSweep_keeps _).trans ((hretry _).trans (State.lockEvent_keeps _ .link)))

end

end Sys2Proof.Machine
end

section
/-! The panel's requests, store-ready, starts and write ends, and what they keep; the laws of a started part. -/

namespace Sys2Proof.Machine

set_option Elab.async false

/-! ### The settings a request leaves (R68, R90, R188) -/

/-- Every setting lies in its own range, the pair of F and W aside (R68, R90). -/
def Settings.fieldsInRange (c : Settings) : Prop :=
  (1 ≤ c.F ∧ c.F ≤ 18) ∧ (3 ≤ c.W ∧ c.W ≤ 20) ∧ (1 ≤ c.B ∧ c.B ≤ 60) ∧ (60 ≤ c.C ∧ c.C ≤ 3000) ∧ c.idle ≤ 32767 ∧
  5 ≤ c.window ∧ c.window ≤ 120

theorem Settings.inRange_iff_fields (c : Settings) : c.inRange = true ↔ c.fieldsInRange ∧ c.F + 2 ≤ c.W := by
  simp only [Settings.inRange_iff, Settings.fieldsInRange]
  omega

theorem Settings.setField_fieldsInRange {c : Settings} {field : Byte} {v : BitVec 16} (h : c.fieldsInRange)
    (hv : settingInRange field v = true) : (c.setField field v).fieldsInRange := by
  unfold settingInRange at hv
  unfold Settings.setField Settings.fieldsInRange at *
  split_ifs at hv ⊢ <;> simp only [Bool.and_eq_true, decide_eq_true_eq] at hv <;> dsimp only <;> omega

theorem Settings.apply_cons (c : Settings) (e : Byte × BitVec 16) (l : List (Byte × BitVec 16)) :
    c.apply (e :: l) = (c.setField e.1 e.2).apply l := rfl

theorem Settings.apply_fieldsInRange (l : List (Byte × BitVec 16)) : ∀ c : Settings, c.fieldsInRange →
    (∀ e ∈ l, settingInRange e.1 e.2 = true) → (c.apply l).fieldsInRange := by
  induction l with
  | nil => exact fun c h _ => h
  | cons e l ih =>
    intro c h hl
    rw [Settings.apply_cons]
    exact ih _ (Settings.setField_fieldsInRange h (hl e List.mem_cons_self)) fun x hx => hl x (List.mem_cons_of_mem _ hx)

theorem Settings.setField_pair {c : Settings} {field : Byte} (v : BitVec 16) (h : isPairField field = false) :
    (c.setField field v).F = c.F ∧ (c.setField field v).W = c.W := by
  unfold isPairField at h
  unfold Settings.setField
  simp only [Bool.or_eq_false_iff, decide_eq_false_iff_not] at h
  rw [if_neg h.1, if_neg h.2]
  split_ifs <;> exact ⟨rfl, rfl⟩

/-- Entries of the other fields leave F and W. -/
theorem Settings.apply_pair (l : List (Byte × BitVec 16)) : ∀ c : Settings, (∀ e ∈ l, isPairField e.1 = false) →
    (c.apply l).F = c.F ∧ (c.apply l).W = c.W := by
  induction l with
  | nil => exact fun c _ => ⟨rfl, rfl⟩
  | cons e l ih =>
    intro c hl
    obtain ⟨hF, hW⟩ := Settings.setField_pair (c := c) e.2 (hl e List.mem_cons_self)
    obtain ⟨hF', hW'⟩ := ih (c.setField e.1 e.2) fun x hx => hl x (List.mem_cons_of_mem _ hx)
    exact ⟨hF'.trans hF, hW'.trans hW⟩

/-- The entries that are not held leave the settings in range with W at least F+2 (R68, R188). -/
theorem Settings.apply_kept_inRange {c : Settings} (h : c.inRange = true) (entries : List (Byte × BitVec 16)) :
    (c.apply (keptSettings c entries)).inRange = true := by
  obtain ⟨hfields, hpair⟩ := c.inRange_iff_fields.mp h
  have hin : ∀ e ∈ entries.filter (fun e => settingInRange e.1 e.2), settingInRange e.1 e.2 = true :=
    fun e he => (List.mem_filter.mp he).2
  rw [Settings.inRange_iff_fields]
  unfold keptSettings
  dsimp only
  split
  · next hnext => exact ⟨Settings.apply_fieldsInRange _ c hfields hin, hnext⟩
  · refine ⟨Settings.apply_fieldsInRange _ c hfields fun e he => hin e (List.mem_filter.mp he).1, ?_⟩
    obtain ⟨hF, hW⟩ := Settings.apply_pair (List.filter (fun e => !isPairField e.1)
      (entries.filter (fun e => settingInRange e.1 e.2))) c fun e he => by simpa using (List.mem_filter.mp he).2
    rw [hF, hW]
    exact hpair

section
variable {J P : Prop} (s : State)

/-! ### Requests (R185, R187) -/

theorem State.panelRequest_keeps (kind : RequestKind) (coded : Bool) (refused : ReplyResult → Reply) (act : State → State)
    (h : ∀ u : State, u.Keeps J P (act u)) : s.Keeps J P (s.panelRequest kind coded refused act) := by
  unfold State.panelRequest
  dsimp only
  split
  · refine s.requestTaken_keeps.trans ?_
    split
    · exact (State.touchSession_keeps _).trans (State.setReply_keeps _ _)
    · exact State.setReply_keeps _ _
  · exact s.requestTaken_keeps.trans (h _)

theorem State.answerAdmin_keeps (r : Reply) : s.Keeps J P (s.answerAdmin r) :=
  s.touchSession_keeps.trans (State.setReply_keeps _ r)

theorem State.badRequest_keeps (bytes : List Byte) : s.Keeps J P (s.badRequest bytes) := by
  unfold State.badRequest
  split
  · exact s.requestTaken_keeps.trans (State.setReply_keeps _ _)
  · exact .refl s

theorem State.enrollAct_keeps (o : Option EnrollOrder) : s.Keeps J P (s.enrollAct o) := by
  unfold State.enrollAct
  split
  · exact s.answerAdmin_keeps _
  · split
    · exact s.setReply_keeps _
    · exact (s.startEntry_keeps _ _ _).trans (State.answerAdmin_keeps _ _)

theorem State.removeAct_keeps (slot : Byte) : s.Keeps J P (s.removeAct slot) := by
  unfold State.removeAct
  split
  · exact s.answerAdmin_keeps _
  · next k _ =>
    have hoffer : s.Keeps J P (s.offer .ordinary (.slt k .empty) none).1 := s.offer_keeps _ _ _
    split
    · exact s.answerAdmin_keeps _
    · dsimp only
      split
      · exact hoffer.trans (State.answerAdmin_keeps _ _)
      · exact hoffer.trans (State.setReply_keeps _ _)

theorem State.setRgt_keeps (g : Rgt) : s.Keeps J P { s with rgt := g } := {}

theorem State.stageRange_keeps (k : RangeIx) (d : RangeDef) : s.Keeps J P (s.stageRange k d) := by
  unfold State.stageRange
  split
  · exact s.setRgt_keeps _
  · exact s.spendFresh_keeps.trans (State.setRgt_keeps _ _)

theorem State.setRangeAct_keeps (index : Byte) (start count : Lba) (cls policy denial : Byte) :
    s.Keeps J P (s.setRangeAct index start count cls policy denial) := by
  unfold State.setRangeAct
  split
  · dsimp only
    split
    · exact s.answerAdmin_keeps _
    · exact (s.stageRange_keeps _ _).trans (State.answerAdmin_keeps _ _)
  · exact s.answerAdmin_keeps _

theorem State.dropRangeAct_keeps (index : Byte) : s.Keeps J P (s.dropRangeAct index) := by
  unfold State.dropRangeAct
  split
  · exact (s.setRgt_keeps _).trans (State.answerAdmin_keeps _ _)
  · exact s.answerAdmin_keeps _

/-! ### SET SETTINGS (R91, R92, R188) -/

/-- The law of the lock timers under a given idle preset (R92, R94). -/
def State.lockTimersUnder (s : State) (idle : Nat) : Prop :=
  (s.lkc.windowTimer.isRunning = true ↔ s.lkc.lockState = some .openPending) ∧
  (s.lkc.idleTimer.isRunning = true ↔ s.lkc.lockState = some .opened ∧ idle ≠ 0) ∧
  (s.lkc.idleTimer.isRunning = false → s.lkc.idleTimer = .held)

/-- A settings write keeps every law but that of the lock timers, whose preset it may change (R91). -/
theorem State.offerSettings_keepsBut (entries : List (Byte × BitVec 16)) :
    s.KeepsBut J P (s.offer .ordinary (.cfg (s.stc.cfg.apply (keptSettings s.stc.cfg entries))) none).1 := by
  have h : s.Keeps False P (s.offer .ordinary (.cfg (s.stc.cfg.apply (keptSettings s.stc.cfg entries))) none).1 :=
    s.offer_keeps _ _ _ (fun _ hs => Settings.apply_kept_inRange hs.1 entries) (fun _ _ he => he.elim) (fun j => j.elim)
  obtain ⟨-, -, hlkc, hcxm, -⟩ := s.offer_frame .ordinary (.cfg (s.stc.cfg.apply (keptSettings s.stc.cfg entries))) none
  generalize (s.offer .ordinary (.cfg (s.stc.cfg.apply (keptSettings s.stc.cfg entries))) none).1 = t at *
  exact
    { h.toKeepsBut with
      buffers := fun _ hs => by simpa only [State.buffersClosed, State.unlocked, hlkc] using hs
      closed := fun _ hs => by simpa only [State.contextsClosed, State.unlocked, hlkc, hcxm] using hs
      session := fun _ hs => by simpa only [State.sessionLawful, State.unlocked, hlkc] using hs }

theorem State.idlePresetChanged_keepsBut (old : Nat) : s.KeepsBut J P (s.idlePresetChanged old) := by
  unfold State.idlePresetChanged
  dsimp only
  split
  · exact {}
  split
  · exact {}
  split
  · exact {}
  split
  · exact s.idleExpiry_keeps.toKeepsBut
  · exact {}

/-- The change of the idle preset brings its timer from the old preset's law to the new one's (R91, R92). -/
theorem State.idlePresetChanged_timers (old : Nat) (hh : s.slt.heldLawful) (h : s.lockTimersUnder old) :
    (s.idlePresetChanged old).lockTimersLawful := by
  obtain ⟨hw, hi, hheld⟩ := h
  unfold State.idlePresetChanged
  dsimp only
  split
  · next hsame =>
    refine ⟨hw, ?_, hheld⟩
    simp only [Bool.or_eq_true, bne_iff_ne, decide_eq_true_eq] at hsame
    rcases hsame with hne | heq
    · rw [hi]
      exact ⟨fun h => absurd h.1 hne, fun h => absurd h.1 hne⟩
    · rw [heq]
      exact hi
  next hsame =>
  have hopen : s.lkc.lockState = some .opened := by
    by_contra hne
    exact hsame (by simp [hne])
  split
  · next hzero => exact ⟨hw, by simp [hzero], fun _ => rfl⟩
  next hnew =>
  split
  · exact ⟨hw, by simp [hnew, hopen], nofun⟩
  next hold =>
  have hlawful : s.lockTimersLawful := ⟨hw, by simpa [hold, hnew] using hi, hheld⟩
  split
  · exact (s.idleExpiry_keeps (J := True) (P := False)).timers trivial hh hlawful
  · exact hlawful

theorem State.windowPresetChanged_keeps (old : Nat) : s.Keeps J P (s.windowPresetChanged old) := by
  unfold State.windowPresetChanged
  dsimp only
  split
  · exact s.windowExpiry_keeps
  · exact .refl s

theorem State.backoffSettingsChanged_keeps (old : Settings) : s.Keeps J P (s.backoffSettingsChanged old) := by
  unfold State.backoffSettingsChanged
  dsimp only
  split
  · exact s.recomputeBackoff_keeps
  · exact .refl s

theorem State.endBackoff_lkc : s.endBackoff.lkc = s.lkc := by
  have hoffer (u : State) (w : CellWrite) (a : Option Awaiter) : (u.offerGuard w a).lkc = u.lkc :=
    (u.offer_frame .ordinary w a).2.2.1
  unfold State.endBackoff
  dsimp only
  split <;> exact hoffer _ _ _

theorem State.backoffSettingsChanged_lkc (old : Settings) : (s.backoffSettingsChanged old).lkc = s.lkc := by
  unfold State.backoffSettingsChanged State.recomputeBackoff
  dsimp only
  split
  · split
    · split
      · exact s.endBackoff_lkc
      · rfl
    · rfl
  · rfl

theorem State.setSettingsAct_keeps (entries : List (Byte × BitVec 16)) : s.Keeps J P (s.setSettingsAct entries) := by
  have hoffer := s.offerSettings_keepsBut (J := J) (P := P) entries
  unfold State.setSettingsAct State.settingsEffects
  dsimp only
  generalize hoff : s.offer .ordinary (.cfg (s.stc.cfg.apply (keptSettings s.stc.cfg entries))) none = o at hoffer ⊢
  have hlkc : o.1.lkc = s.lkc := hoff ▸ (s.offer_frame _ _ _).2.2.1
  split
  · set r := settingsReply .accepted (heldList s.stc.cfg entries)
    have hback := hoffer.trans ((o.1.answerAdmin_keeps (J := J) (P := P) r).trans
      (State.backoffSettingsChanged_keeps _ s.stc.cfg)).toKeepsBut
    have hidle := hback.trans (State.idlePresetChanged_keepsBut _ s.stc.cfg.idle)
    refine { hidle.trans (State.windowPresetChanged_keeps _ _).toKeepsBut with timers := fun j hh hs => ?_ }
    refine (State.windowPresetChanged_keeps (P := P) _ _).timers j (hidle.held hh) ?_
    refine State.idlePresetChanged_timers _ _ (hback.held hh) ?_
    have hlkc' : ((o.1.answerAdmin r).backoffSettingsChanged s.stc.cfg).lkc = s.lkc.touchSession := by
      rw [State.backoffSettingsChanged_lkc]
      exact congrArg Lkc.touchSession hlkc
    unfold State.lockTimersUnder
    rw [hlkc']
    exact hs
  · next hrefused =>
    have hsame : o.1 = s := by
      rw [← hoff]
      exact State.offer_refused (by rw [hoff]; simpa using hrefused)
    rw [hsame]
    exact s.setReply_keeps _

/-! ### Starts (R24, R168, R194) -/

/-- All the laws of the device. -/
structure State.Lawful (s : State) : Prop where
  store : s.stc.lawful
  queue : s.dqqLawful
  contexts : s.cxm.lawful
  port : s.mpt.lawful
  held : s.slt.heldLawful
  journal : s.journalLawful
  buffers : s.buffersClosed
  closed : s.contextsClosed
  session : s.sessionLawful
  timers : s.lockTimersLawful
  standby : s.standbyLawful
  counters : s.countersLawful
  tables : s.rgt.lawful

/-- A part at its start values meets every law, whatever it was before. -/
theorem State.started_lawful (cells : Cells) (cause : StartCause) (pfwLow powered : Bool) :
    State.Lawful { s.started cells cause pfwLow with powered := powered } where
  store := by refine ⟨?_, ?_, ?_, ?_, ?_⟩ <;> simp [State.started, Stc.start, settingsCount]
  queue := ⟨Nat.zero_le _, List.nodup_nil⟩
  contexts := ⟨fun i j r h => by simp [State.started, Cxm.start, ContextEntry.heldRange] at h, List.Perm.refl _⟩
  port := ⟨nofun, Nat.zero_le _⟩
  held := trivial
  journal h := by rcases h with h | h <;> exact absurd rfl h
  buffers _ k b hb := by simp [State.started, Lkc.start] at hb
  closed _ _ i := by simp [State.started, Cxm.start, ContextEntry.heldRange]
  session := ⟨nofun, rfl⟩
  timers := ⟨⟨nofun, nofun⟩, ⟨nofun, nofun⟩, fun _ => rfl⟩
  standby := ⟨rfl, fun _ => rfl⟩
  counters := ⟨(by decide : Settings.factory.inRange = true), Nat.zero_le _⟩
  tables := ⟨fun i j _ => by simp [State.started, Rgt.start, RangeRecord.conflicts],
    fun i j _ => by simp [State.started, Rgt.start, RangeRecord.conflicts]⟩

theorem State.started_keeps (cells : Cells) (cause : StartCause) (pfwLow powered : Bool) :
    s.Keeps J P { s.started cells cause pfwLow with powered := powered } :=
  have h := s.started_lawful cells cause pfwLow powered
  { store := fun _ => h.store, queue := fun _ => h.queue, contexts := fun _ => h.contexts, port := fun _ _ => h.port
    held := fun _ => h.held, counters := fun _ _ => h.counters, journal := fun _ _ => h.journal
    buffers := fun _ _ => h.buffers, closed := fun _ _ => h.closed, session := fun _ _ => h.session
    timers := fun _ _ _ => h.timers }

theorem State.supplyLost_keeps (point : LossPoint) : s.Keeps J P (s.supplyLost point) := s.started_keeps _ _ _ _

theorem State.restartNow_keeps (pfwLow : Bool) : s.Keeps J P (s.restartNow pfwLow) := by
  unfold State.restartNow
  split
  · exact s.started_keeps _ _ _ _
  · exact .refl s

/-! ### Store-ready (R170) -/

/-- The working copies as read, STORE_FAULT where a cell read damaged or a record was set aside, and the lock state with
its notice: store-ready up to the settling of the start cause (R2, R114, R170). -/
def State.readyTaken (s : State) : State :=
  let t := s.takeCells.setFlagIf (s.stc.cells.anyDamaged || s.stc.cells.startLive != s.stc.cells.startRanges) .storeFault
  (t.setLockState (startLockState s.stc.cells.startJournal s.stc.cells.startSlots)).sendState
    (startLockState s.stc.cells.startJournal s.stc.cells.startSlots)

/-- The resumed erasure, where the journal read names one (R155). -/
def State.resumeIf (s : State) (resumes : Bool) : State := if resumes then s.resumeErase else s

theorem State.storeReadyEvent_eq : s.storeReadyEvent =
    if s.stc.ready || s.lkc.lockState.isSome then s
    else ((s.readyTaken.settleCause.repairCells.evaluate.resumeIf
      (s.stc.cells.startJournal.phase != .idle)).fillPublic).takePendingPfw := rfl

theorem Image.inRange_of_read {α : Type} {f : CellFormat α} {i : Image α} {v : α} (h : i.read f = some v) :
    f.inRange v = true := by
  unfold Image.read at h
  split at h
  · split at h
    · next hin =>
      cases h
      simp only [Bool.and_eq_true] at hin
      exact hin.2
    · cases h
  · cases h

theorem Cells.startCfg_inRange (c : Cells) : c.startCfg.inRange = true := by
  unfold Cells.startCfg
  cases h : c.readCfg with
  | none => decide
  | some v => exact Image.inRange_of_read h

theorem Cells.startCounter_le (c : Cells) : c.startCounter ≤ 20 := by
  unfold Cells.startCounter
  cases h : c.readAtt with
  | none =>
    obtain ⟨⟨-, hF⟩, -⟩ := ((Settings.inRange_iff_fields _).mp c.startCfg_inRange).1
    simp only [Option.getD_none]
    omega
  | some v => exact of_decide_eq_true (Image.inRange_of_read h)

theorem startLockState_cases (j : Journal) (slots : Vector SlotRecord 5) :
    (j.phase ≠ .idle ∧ startLockState j slots = .erasing) ∨
    (j.phase = .idle ∧ (startLockState j slots = .blank ∨ startLockState j slots = .locked)) := by
  unfold startLockState
  split_ifs with hphase
  · exact .inl ⟨by simpa using hphase, rfl⟩
  · exact .inr ⟨by simpa using hphase, .inl rfl⟩
  · exact .inr ⟨by simpa using hphase, .inr rfl⟩

theorem startLockState_not_unlocked (j : Journal) (slots : Vector SlotRecord 5) :
    startLockState j slots ≠ .openPending ∧ startLockState j slots ≠ .opened := by
  obtain ⟨-, h⟩ | ⟨-, h | h⟩ := startLockState_cases j slots <;> rw [h] <;> exact ⟨nofun, nofun⟩

theorem State.readyTaken_keeps (hnone : s.lkc.lockState = none) : s.Keeps J P s.readyTaken := by
  set l := startLockState s.stc.cells.startJournal s.stc.cells.startSlots with hl
  obtain ⟨hpending, hopened⟩ := startLockState_not_unlocked s.stc.cells.startJournal s.stc.cells.startSlots
  have hclosed : ¬ s.unlocked := by rintro (h | h) <;> cases hnone.symm.trans h
  refine .trans (t := (s.takeCells.setFlagIf _ .storeFault).setLockState l) ?_ (State.sendState_keeps _ l)
  exact
    { counters := fun _ _ => ⟨s.stc.cells.startCfg_inRange, s.stc.cells.startCounter_le⟩
      journal := fun _ hs hj => by
        obtain ⟨-, he⟩ | ⟨hphase, -⟩ := startLockState_cases s.stc.cells.startJournal s.stc.cells.startSlots
        · exact congrArg some (hl.trans he)
        · exact hj.elim (fun h => absurd hphase h) fun h => absurd ((hs (.inr h)).symm.trans hnone) nofun
      buffers := fun _ hs _ => hs hclosed
      closed := fun _ hs _ _ => hs hclosed (by rw [hnone]; nofun)
      session := fun _ hs => ⟨fun h => absurd (hs.1 h) hclosed, hs.2⟩
      timers := fun _ _ ⟨hw, hi, hh⟩ =>
        ⟨⟨fun h => absurd ((hw.mp h).symm.trans hnone) nofun, fun h => absurd (Option.some.inj h) hpending⟩,
         ⟨fun h => absurd ((hi.mp h).1.symm.trans hnone) nofun, fun h => absurd (Option.some.inj h.1) hopened⟩, hh⟩ }

theorem State.repairCells_keeps : s.Keeps J P s.repairCells := by
  have hatt : s.Keeps J P (if s.stc.cells.readAtt.isNone then s.offerGuard (.att s.atg.counter) none else s) := by
    split
    · exact s.offerGuard_keeps _ _ (fun _ hs => hs.2)
    · exact .refl s
  unfold State.repairCells
  dsimp only
  split
  · exact hatt.trans (State.offer_keeps _ _ _ _ (fun _ hs => hs.1) (fun _ _ h => h.elim) (fun _ _ => rfl))
  · exact hatt

theorem State.oweBko_keeps (owed : Bool) : s.Keeps J P (s.oweBko owed) := by
  unfold State.oweBko
  split
  · exact s.offerGuard_keeps _ _
  · exact .refl s

theorem State.evaluate_keeps : s.Keeps J P s.evaluate := by
  have hclear : s.Keeps J P s.clearSeen := s.setAtg_keeps _
  unfold State.evaluate
  dsimp only
  split
  · exact hclear.trans (State.oweBko_keeps _ _)
  split
  · exact hclear.trans ((State.eraseStart_keeps _).trans (State.oweBko_keeps _ _))
  split
  · exact hclear.trans (State.startBackoff_keeps _ _ _)
  split
  · exact hclear.trans (State.offerGuard_keeps _ (.bko _) none)
  · exact hclear.trans (State.oweBko_keeps _ _)

theorem State.resumeErase_keeps : s.Keeps J P s.resumeErase := by
  unfold State.resumeErase
  split
  · exact .refl s
  · next hphase =>
    exact (s.setFlag_keeps .eraseStarted).trans (State.pausedOrOn_keeps _ fun hs => hs (.inl (by simp [hphase])))
  all_goals exact (s.setFlag_keeps .eraseStarted).trans (State.journalStep_keeps _)

theorem State.fillPublic_keeps : s.Keeps J P s.fillPublic := by
  unfold State.fillPublic
  split
  · exact .refl s
  · refine { buffers := fun _ _ _ k b hb => ?_ }
    fin_cases k <;> exact State.publicKey_pub hb

theorem State.takePendingPfw_keeps : s.Keeps J P s.takePendingPfw := by
  unfold State.takePendingPfw
  split
  · exact (s.setPpt_keeps _).trans (State.pfwEffects_keeps _)
  · exact .refl s

theorem State.storeReadyEvent_keeps : s.Keeps J P s.storeReadyEvent := by
  have hresume (u : State) (b : Bool) : u.Keeps J P (u.resumeIf b) := by
    unfold State.resumeIf
    split
    · exact u.resumeErase_keeps
    · exact .refl u
  rw [State.storeReadyEvent_eq]
  split
  · exact .refl s
  · next h =>
    have hnone : s.lkc.lockState = none := by simp_all
    refine (s.readyTaken_keeps hnone).trans ((State.setPpt_keeps _ _).trans ((State.repairCells_keeps _).trans
      ((State.evaluate_keeps _).trans ((hresume _ _).trans ((State.fillPublic_keeps _).trans
        (State.takePendingPfw_keeps _))))))

/-! ### PFW, the back-off's end, the session's end -/

theorem State.pfwEdge_keeps : s.Keeps J P s.pfwEdge := by
  unfold State.pfwEdge State.activeEdge
  split
  · exact s.setPpt_keeps _
  · split
    · exact (s.setPpt_keeps _).trans (State.pfwEffects_keeps _)
    · exact s.setPpt_keeps _

theorem State.backoffExpiry_keeps : s.Keeps J P s.backoffExpiry := by
  unfold State.backoffExpiry
  split
  · exact s.endBackoff_keeps
  · exact .refl s

theorem State.sessionExpiry_keeps : s.Keeps J P s.sessionExpiry := by
  unfold State.sessionExpiry
  split
  · exact s.closeSession_keeps
  · exact .refl s

/-! ### The ends of write attempts (R166) -/

theorem State.tellEnd_keeps (e : QueueEntry) (completed : Bool) (hJ : J → s.journalLawful) :
    s.Keeps J P (s.tellEnd e completed) := by
  unfold State.tellEnd
  split
  · exact s.chargeEnds_keeps _
  · exact s.refundEnds_keeps _
  · exact s.retirementEnds_keeps
  · exact s.firstWriteEnds_keeps _ _
  · exact s.ereWriteEnd_keeps _ hJ
  · exact .refl s

theorem State.reofferAfter_keeps (c : Cell) : s.Keeps J P (s.reofferAfter c) := by
  unfold State.reofferAfter
  split
  · exact .refl s
  · exact s.reofferSlots_keeps

/-- The store is idle. -/
def State.idleStore (s : State) : State := { s with stc := { s.stc with writing := none } }

theorem State.endWrite_eq (e : QueueEntry) (completed : Bool) : s.endWrite e completed =
    if s.ppt.restartPending then s.idleStore
    else ((s.idleStore.tellEnd e completed).takeNext).reofferAfter e.cell := rfl

theorem State.endWrite_keeps (e : QueueEntry) (completed : Bool) (hJ : J → s.journalLawful) :
    s.Keeps J P (s.endWrite e completed) := by
  have hidle : s.Keeps J P s.idleStore := s.setStc_keeps _ (fun h => h) rfl
  rw [State.endWrite_eq]
  split
  · exact hidle
  · exact hidle.trans ((State.tellEnd_keeps s.idleStore e completed hJ).trans ((State.takeNext_keeps _).trans
      (State.reofferAfter_keeps _ _)))

/-- The images and the faulty marks of the cells are no law's. -/
theorem State.setCells_keeps (cells : Cells) (faulty : Vector Bool 18) (writing : Option WriteInProgress) :
    s.Keeps J P { s with stc := { s.stc with cells := cells, faulty := faulty, writing := writing } } :=
  s.setStc_keeps _ (fun h => h) rfl

theorem State.writeCompletes_keeps (w : WriteInProgress) (hJ : J → s.journalLawful) :
    s.Keeps J P (s.writeCompletes w) := by
  unfold State.writeCompletes
  exact (s.setCells_keeps _ _ _).trans (State.endWrite_keeps _ _ _ hJ)

theorem State.writeFails_keeps (w : WriteInProgress) (hJ : J → s.journalLawful) : s.Keeps J P (s.writeFails w) := by
  unfold State.writeFails
  exact (s.setCells_keeps _ _ _).trans ((State.setFlag_keeps _ .storeFault).trans (State.endWrite_keeps _ _ _ hJ))

theorem State.writeAttemptEnds_keeps (r : ReadBack) (hJ : J → s.journalLawful) :
    s.Keeps J P (s.writeAttemptEnds r) := by
  unfold State.writeAttemptEnds
  split
  · exact .refl s
  · split
    · exact s.writeCompletes_keeps _ hJ
    · dsimp only
      split
      · exact s.setCells_keeps _ _ _
      · exact (s.setCells_keeps _ _ _).trans (State.writeFails_keeps _ _ hJ)

end

end Sys2Proof.Machine
end

section
/-! Every command and the passing of a millisecond keep the laws of the device; so does every step. -/

namespace Sys2Proof.Machine

set_option Elab.async false

/-! ### Commands -/

section
variable {J P : Prop} {s t : State}

theorem State.event_keeps {f : State → State} (hf : s.Keeps J P (f s)) (h : s.event f = .next t) : s.Keeps J P t := by
  unfold State.event at h
  split at h <;> cases h
  · exact hf.trans (State.settleStandby_keeps _)
  · exact .refl s

theorem execSupplyStart_keeps (pfwLow : Bool) (h : execSupplyStart pfwLow s = .next t) : s.Keeps J P t := by
  cases h
  exact s.started_keeps s.stc.cells .supply pfwLow true

theorem execSupplyLoss_keeps (point : LossPoint) (h : execSupplyLoss point s = .next t) : s.Keeps J P t := by
  unfold execSupplyLoss at h
  cases h
  split
  · exact s.supplyLost_keeps point
  · exact .refl s

theorem execKeyack_keeps (sent : Bool) (context order : Byte) (ok : Bool) (hP : P → s.mpt.lawful)
    (h : execKeyack sent context order ok s = .next t) : s.Keeps J P t := by
  refine State.event_keeps (s.transaction_keeps sent _ hP fun u _ => ?_) h
  split
  · exact u.keyAck_keeps _ _ _
  · exact .refl u

theorem execPurgeack_keeps (sent : Bool) (context order : Byte) (hP : P → s.mpt.lawful)
    (h : execPurgeack sent context order s = .next t) : s.Keeps J P t := by
  refine State.event_keeps (s.transaction_keeps sent _ hP fun u _ => ?_) h
  split
  · exact u.purgeAck_keeps _ _
  · exact .refl u

theorem execSetSettings_keeps (entries : List (Byte × BitVec 16)) (h : execSetSettings entries s = .next t) :
    s.Keeps J P t := by
  refine State.event_keeps ?_ h
  split
  · exact s.panelRequest_keeps _ _ _ _ fun u => u.setSettingsAct_keeps entries
  · exact s.requestTaken_keeps.trans (State.setReply_keeps _ _)

/-- Every command keeps every law, the journal's law and the outbound law being granted where they are premises. -/
theorem exec_keeps (i : Instr) (hJ : J → s.journalLawful) (hP : P → s.mpt.lawful) (h : exec i s = .next t) :
    s.Keeps J P t := by
  cases i with dsimp only [exec] at h
  | supplyStart pfwLow => exact execSupplyStart_keeps pfwLow h
  | supplyLoss point => exact execSupplyLoss_keeps point h
  | storeReady => exact State.event_keeps s.storeReadyEvent_keeps h
  | keyPressAccepted key => exact State.event_keeps (s.press_keeps key) h
  | keyReleaseAccepted key => exact State.event_keeps (s.release_keeps key) h
  | pairingTimerExpiry => exact State.event_keeps s.pairingExpiry_keeps h
  | chordTimerExpiry => exact State.event_keeps s.chordExpiry_keeps h
  | entryTimerExpiry => exact State.event_keeps s.entryExpiry_keeps h
  | standbyTimerExpiry => exact State.event_keeps s.standbyExpiry_keeps h
  | storeWriteEnd r => exact State.event_keeps (s.writeAttemptEnds_keeps r hJ) h
  | verificationComplete => exact State.event_keeps s.verificationEnds_keeps h
  | unlockCompletion => exact State.event_keeps s.completeUnlock_keeps h
  | enrollBuildComplete => exact State.event_keeps s.enrollBuildEnds_keeps h
  | firstEnrollBuildComplete => exact State.event_keeps s.firstBuildEnds_keeps h
  | backoffCheckpoint => exact State.event_keeps s.checkpoint_keeps h
  | backoffEnd => exact State.event_keeps s.backoffExpiry_keeps h
  | idleTimerExpiry => exact State.event_keeps s.idleExpiry_keeps h
  | attachWindowExpiry => exact State.event_keeps s.windowExpiry_keeps h
  | adminSessionExpiry => exact State.event_keeps s.sessionExpiry_keeps h
  | mediaTransaction sent => exact State.event_keeps (s.transaction_keeps sent _ hP fun u _ => .refl u) h
  | transactionAbandoned bytes =>
    exact State.event_keeps (f := fun s => { s with mpt := { s.mpt with transaction := none } }) {} h
  | malformedFrame sent mosi =>
    exact State.event_keeps (s.transaction_keeps sent _ hP fun u hp => u.rejectFrame_keeps mosi hp) h
  | access sent tag lba count dir =>
    exact State.event_keeps (s.transaction_keeps sent _ hP fun u hp => u.accessFrame_keeps _ hp) h
  | attach sent capacity =>
    exact State.event_keeps (s.transaction_keeps sent _ hP fun u _ => u.attachFrame_keeps capacity) h
  | detach sent => exact State.event_keeps (s.transaction_keeps sent _ hP fun u _ => u.detachFrame_keeps) h
  | hostlock sent => exact State.event_keeps (s.transaction_keeps sent _ hP fun u _ => u.lockEvent_keeps .host) h
  | keyack sent context order ok => exact execKeyack_keeps sent context order ok hP h
  | keyloadReplyTimeout i => exact State.event_keeps (s.keyloadTimeout_keeps i) h
  | purgeack sent context order => exact execPurgeack_keeps sent context order hP h
  | purgeReplyTimeout i => exact State.event_keeps (s.purgeTimeout_keeps i) h
  | repeatTimerExpiry entry => exact State.event_keeps (s.discardParked_keeps entry) h
  | swept sent start count ok =>
    exact State.event_keeps (s.transaction_keeps sent _ hP fun u _ => u.sweptTaken_keeps start count.toNat ok) h
  | linkreset sent => exact State.event_keeps (s.transaction_keeps sent _ hP fun u _ => u.linkResetFrame_keeps) h
  | badPanelRequest bytes => exact State.event_keeps (s.badRequest_keeps bytes) h
  | status => exact State.event_keeps (s.panelRequest_keeps _ _ _ _ fun u => u.setReply_keeps _) h
  | ack flags =>
    exact State.event_keeps (s.panelRequest_keeps _ _ _ _ fun u => (u.setPpt_keeps _).trans (State.setReply_keeps _ _)) h
  | setAlertEnables enables =>
    exact State.event_keeps (s.panelRequest_keeps _ _ _ _ fun u => (u.setPpt_keeps _).trans (State.setReply_keeps _ _)) h
  | lockRequest =>
    exact State.event_keeps (s.panelRequest_keeps _ _ _ _ fun u =>
      (u.setReply_keeps _).trans (State.lockEvent_keeps _ .panel)) h
  | restart =>
    exact State.event_keeps (s.panelRequest_keeps _ _ _ _ fun u => (u.setPpt_keeps _).trans (State.setReply_keeps _ _)) h
  | restartTakesEffect pfwLow => exact State.event_keeps (s.restartNow_keeps pfwLow) h
  | enroll slot role mask once => exact State.event_keeps (s.panelRequest_keeps _ _ _ _ fun u => u.enrollAct_keeps _) h
  | remove slot => exact State.event_keeps (s.panelRequest_keeps _ _ _ _ fun u => u.removeAct_keeps slot) h
  | setRange index start count cls policy denial =>
    exact State.event_keeps (s.panelRequest_keeps _ _ _ _ fun u =>
      u.setRangeAct_keeps index start count cls policy denial) h
  | dropRange index => exact State.event_keeps (s.panelRequest_keeps _ _ _ _ fun u => u.dropRangeAct_keeps index) h
  | setSettings entries => exact execSetSettings_keeps entries h
  | erase =>
    exact State.event_keeps (s.panelRequest_keeps _ _ _ _ fun u => (u.setReply_keeps _).trans (State.eraseStart_keeps _)) h
  | endSession =>
    exact State.event_keeps (s.panelRequest_keeps _ _ _ _ fun u => u.closeSession_keeps.trans (State.setReply_keeps _ _)) h
  | pfwEdge => exact State.event_keeps s.pfwEdge_keeps h

/-! ### One millisecond, and a step -/

theorem Timer.tick_isRunning (t : Timer) : t.tick.isRunning = t.isRunning := by cases t <;> rfl

theorem Timer.tick_held {t : Timer} (h : t.isRunning = false → t = .held) : t.tick.isRunning = false → t.tick = .held := by
  cases t with
  | running e => exact nofun
  | stopped => exact fun _ => h rfl
  | held => exact fun _ => rfl

theorem ContextEntry.tick_heldRange (e : ContextEntry) : e.tick.heldRange = e.heldRange := by cases e <;> rfl

theorem Parked.tick_query (p : Parked) : p.tick.query = p.query := by
  unfold Parked.tick
  split <;> rfl

theorem tab4_get {α : Type} (f : CtxIx → α) (i : CtxIx) : (tab4 f)[i] = f i := by fin_cases i <;> rfl

theorem State.tick_keeps (s : State) : s.Keeps J P s.tick := by
  unfold State.tick
  split
  · have hheld (i : CtxIx) : (tab4 (fun i => s.cxm.entries[i].tick))[i].heldRange = s.cxm.entries[i].heldRange := by
      rw [tab4_get, ContextEntry.tick_heldRange]
    have hqueries : (s.dqq.map Parked.tick).map Parked.query = s.dqq.map Parked.query := by
      rw [List.map_map]
      exact List.map_congr_left fun p _ => p.tick_query
    exact
      { queue := fun h => ⟨(List.length_map _).trans_le h.1, hqueries ▸ h.2⟩
        contexts := fun ⟨hone, hlru⟩ => ⟨fun i j r hi hj => hone i j r ((hheld i).symm.trans hi) ((hheld j).symm.trans hj), hlru⟩
        closed := fun _ hs hu hl i => (hheld i).trans (hs hu hl i)
        session := fun _ ⟨hopen, hrun⟩ => ⟨hopen, (Timer.tick_isRunning _).trans hrun⟩
        timers := fun _ _ ⟨hw, hi, hh⟩ =>
          ⟨by rw [← hw]; exact iff_of_eq (congrArg (· = true) (Timer.tick_isRunning _)),
           by rw [← hi]; exact iff_of_eq (congrArg (· = true) (Timer.tick_isRunning _)), Timer.tick_held hh⟩ }
  · exact .refl s

/-- Every step keeps every law, the journal's law and the outbound law being granted where they are premises. -/
theorem step_keeps (hJ : J → s.journalLawful) (hP : P → s.mpt.lawful) (h : step s = .next t) : s.Keeps J P t := by
  unfold step at h
  split at h
  · next c rest _ =>
    have hpop : s.Keeps J P { s with pending := rest } := {}
    exact hpop.trans (exec_keeps c hJ hP h)
  · split at h
    · exact exec_keeps _ hJ hP h
    · cases h
      exact s.tick_keeps

end

/-! ### The obligations -/

/-- Settles O6: the store's part of what every step keeps. -/
theorem stepKeepsStoreLaw : Obligations.StepKeepsStoreLaw := by
  unfold Obligations.StepKeepsStoreLaw
  intro s t hs h
  exact (step_keeps (J := False) (P := False) False.elim False.elim h).store hs

/-- Settles O7: the parts of the deferred query queue and of the context map. -/
theorem stepKeepsQueryAndContextLaws : Obligations.StepKeepsQueryAndContextLaws := by
  unfold Obligations.StepKeepsQueryAndContextLaws
  have hkeeps {s t : State} (h : step s = .next t) : s.Keeps False False t := step_keeps False.elim False.elim h
  exact ⟨fun s t hs h => (hkeeps h).queue hs, fun s t hs h => (hkeeps h).contexts hs⟩

/-- Settles O8: the outbound queue's part; the law itself is what admits an answer at the head. -/
theorem stepKeepsOutboundLaw : Obligations.StepKeepsOutboundLaw := by
  unfold Obligations.StepKeepsOutboundLaw
  intro s t hs h
  exact (step_keeps (J := False) (P := True) False.elim (fun _ => hs) h).port trivial hs

/-- Settles O9: the parts of the journal and of the held writes. -/
theorem stepKeepsJournalLaw : Obligations.StepKeepsJournalLaw := by
  unfold Obligations.StepKeepsJournalLaw
  intro s t hs hheld h
  have hkeeps : s.Keeps False False t := step_keeps False.elim False.elim h
  exact ⟨hkeeps.journal hheld hs, hkeeps.held hheld⟩

/-- Settles O10: the parts of the key buffer and of the closed contexts, by the journal's law at an erase end. -/
theorem stepKeepsKeysClosed : Obligations.StepKeepsKeysClosed := by
  unfold Obligations.StepKeepsKeysClosed
  have hkeeps {s t : State} (hj : s.journalLawful) (h : step s = .next t) : s.Keeps True False t :=
    step_keeps (fun _ => hj) False.elim h
  exact ⟨fun s t hj hs h => (hkeeps hj h).buffers trivial hs, fun s t hj hs h => (hkeeps hj h).closed trivial hs⟩

/-- Settles O11: the parts of the admin session and of the lock timers, by the journal's law at an erase end. -/
theorem stepKeepsSessionAndTimerLaws : Obligations.StepKeepsSessionAndTimerLaws := by
  unfold Obligations.StepKeepsSessionAndTimerLaws
  have hkeeps {s t : State} (hj : s.journalLawful) (h : step s = .next t) : s.Keeps True False t :=
    step_keeps (fun _ => hj) False.elim h
  exact ⟨fun s t hj hs h => (hkeeps hj h).session trivial hs,
    fun s t hj hheld hs h => (hkeeps hj h).timers trivial hheld hs⟩

/-- Settles O13: the counters' part. -/
theorem stepKeepsSettings : Obligations.StepKeepsSettings := by
  unfold Obligations.StepKeepsSettings
  intro s t hs hheld h
  exact (step_keeps (J := False) (P := False) False.elim False.elim h).counters hheld hs

/-! ### The standby timer (R44, R98, R100) -/

/-- The end of every event brings the standby timer into line with its five conditions, whatever it was. -/
theorem State.settleStandby_standbyLawful (s : State) : s.settleStandby.standbyLawful := by
  have hmay : s.settleStandby.mayStandBy = s.mayStandBy := rfl
  unfold State.standbyLawful
  rw [hmay]
  unfold State.settleStandby
  dsimp only
  cases hsb : s.enu.standby <;> cases hm : s.mayStandBy <;> cases ht : s.enu.standbyTimer.isRunning <;>
    simp [ht]

theorem State.event_standbyLawful {s t : State} {f : State → State} (hs : s.standbyLawful) (h : s.event f = .next t) :
    t.standbyLawful := by
  unfold State.event at h
  split at h <;> cases h
  · exact State.settleStandby_standbyLawful _
  · exact hs

theorem exec_standbyLawful (i : Instr) {s t : State} (hs : s.standbyLawful) (h : exec i s = .next t) :
    t.standbyLawful := by
  cases i with dsimp only [exec] at h
  | supplyStart pfwLow =>
    cases h
    exact (s.started_lawful s.stc.cells .supply pfwLow true).standby
  | supplyLoss point =>
    cases h
    split
    · exact (s.started_lawful _ _ _ false).standby
    · exact hs
  | _ => exact State.event_standbyLawful hs h

theorem State.tick_standbyLawful {s : State} (hs : s.standbyLawful) : s.tick.standbyLawful := by
  have hmay (h : s.powered = true) : s.tick.mayStandBy = s.mayStandBy := by
    unfold State.tick State.mayStandBy
    cases ht : s.atg.timer <;> simp [h]
  by_cases hp : s.powered = true
  · unfold State.standbyLawful
    rw [hmay hp]
    simp only [State.tick, hp, if_true, Timer.tick_isRunning]
    exact ⟨hs.1, fun h => Timer.tick_held hs.2 (by rwa [Timer.tick_isRunning])⟩
  · simpa [State.tick, hp] using hs

/-- Settles O12: every event ends with the timer brought into line, a start holds it, and a millisecond lets it count. -/
theorem stepKeepsStandbyLaw : Obligations.StepKeepsStandbyLaw := by
  unfold Obligations.StepKeepsStandbyLaw
  intro s t hs h
  unfold step at h
  split at h
  · next c rest _ =>
    have hpop : State.standbyLawful { s with pending := rest } := hs
    exact exec_standbyLawful c hpop h
  · split at h
    · exact exec_standbyLawful _ hs h
    · cases h
      exact State.tick_standbyLawful hs

end Sys2Proof.Machine
end

section
/-! Frames: how `sameExcept` composes, and what the end of an event leaves. The reset state and the starts. -/

namespace Sys2Proof.Machine

set_option Elab.async false

/-! ### Entry units up to the standby timer -/

@[simp] theorem Enu.sameEntry_refl (e : Enu) : e.sameEntry e := rfl

theorem Enu.sameEntry.symm {a b : Enu} (h : a.sameEntry b) : b.sameEntry a := by
  unfold Enu.sameEntry at *
  rw [← h]

theorem Enu.sameEntry.trans {a b c : Enu} (h : a.sameEntry b) (k : b.sameEntry c) : a.sameEntry c := by
  unfold Enu.sameEntry at *
  rw [← h, ← k]

@[simp] theorem State.sameEntry_settleStandby (s : State) : s.enu.sameEntry s.settleStandby.enu := rfl

/-! ### What is unchanged but for some blocks -/

section
variable {s t u : State} {L M : List Block}

theorem mem_allBlocks (b : Block) : b ∈ allBlocks := by cases b <;> decide

/-- Block by block, for a list of names that simp can decide. -/
theorem State.sameExcept_iff : s.sameExcept t L ↔
    (.ksc ∉ L → t.ksc = s.ksc) ∧ (.enu ∉ L → s.enu.sameEntry t.enu) ∧ (.slt ∉ L → t.slt = s.slt) ∧
    (.atg ∉ L → t.atg = s.atg) ∧ (.lkc ∉ L → t.lkc = s.lkc) ∧ (.rgt ∉ L → t.rgt = s.rgt) ∧ (.cxm ∉ L → t.cxm = s.cxm) ∧
    (.dqq ∉ L → t.dqq = s.dqq) ∧ (.ere ∉ L → t.ere = s.ere) ∧ (.stc ∉ L → t.stc = s.stc) ∧ (.mpt ∉ L → t.mpt = s.mpt) ∧
    (.ppt ∉ L → t.ppt = s.ppt) ∧ (.fresh ∉ L → t.freshCount = s.freshCount) ∧ t.powered = s.powered ∧
    t.pending = s.pending := by
  simp [State.sameExcept, allBlocks, State.sameBlock, and_assoc]

theorem State.sameExcept.block (h : s.sameExcept t L) (b : Block) (hb : b ∉ L) : s.sameBlock t b :=
  h.1 b (mem_allBlocks b) hb

theorem State.sameExcept.refl (s : State) (L : List Block) : s.sameExcept s L := by simp [State.sameExcept_iff]

theorem State.sameExcept.mono (h : s.sameExcept t L) (hL : ∀ b ∈ L, b ∈ M) : s.sameExcept t M :=
  ⟨fun b hb hM => h.1 b hb fun hmem => hM (hL b hmem), h.2⟩

theorem State.sameBlock.symm {b : Block} (h : s.sameBlock t b) : t.sameBlock s b := by
  cases b with
  | enu => exact Enu.sameEntry.symm h
  | _ => exact Eq.symm h

theorem State.sameBlock.trans {b : Block} (h : s.sameBlock t b) (k : t.sameBlock u b) : s.sameBlock u b := by
  cases b with
  | enu => exact Enu.sameEntry.trans h k
  | _ => exact Eq.trans k h

theorem State.sameExcept.symm (h : s.sameExcept t L) : t.sameExcept s L :=
  ⟨fun b hb hL => (h.1 b hb hL).symm, h.2.1.symm, h.2.2.symm⟩

theorem State.sameExcept.trans (h : s.sameExcept t L) (k : t.sameExcept u M) : s.sameExcept u (L ++ M) := by
  refine ⟨fun b hb hLM => ?_, k.2.1.trans h.2.1, k.2.2.trans h.2.2⟩
  rw [List.mem_append, not_or] at hLM
  exact (h.1 b hb hLM.1).trans (k.1 b hb hLM.2)

/-- The end of an event changes no block, the standby timer aside. -/
theorem State.sameExcept_settleStandby (s : State) : s.sameExcept s.settleStandby [] := by
  simp [State.sameExcept_iff, State.settleStandby, Enu.sameEntry]

theorem State.sameExcept.settled (h : s.sameExcept t L) : s.sameExcept t.settleStandby L :=
  (h.trans t.sameExcept_settleStandby).mono (by simp)

theorem State.sameExcept.settle (h : s.sameExcept t L) : s.settleStandby.sameExcept t.settleStandby L :=
  ((s.sameExcept_settleStandby.symm.trans h).trans t.sameExcept_settleStandby).mono (by simp)

end

/-- The end of an event where the standby timer is in line already. -/
theorem State.settleStandby_eq_self {s : State} (h : s.enu.standbyTimer = .held) (hm : s.mayStandBy = false) :
    s.settleStandby = s := by
  unfold State.settleStandby
  simp [hm, ← h]

/-! ### Reset -/

/-- Settles O2: each is a field of the start value of its block. -/
theorem resetValues : Obligations.ResetValues := by
  unfold Obligations.ResetValues
  and_intros
  all_goals rfl

/-- The reset state is a part at its start values, over the cells as they left manufacture. -/
theorem State.reset_eq : State.reset = { State.reset.started .manufacture .supply false with powered := true } := rfl

/-- Settles O3: a part at its start values meets every law. -/
theorem resetMeetsLaws : Obligations.ResetMeetsLaws := by
  have h := State.reset.started_lawful .manufacture .supply false true
  rw [← State.reset_eq] at h
  exact ⟨h.store, h.queue, h.contexts, h.port, h.held, h.journal, h.buffers, h.closed, h.session, h.timers, h.standby,
    h.counters, h.tables⟩

/-! ### What a write and a supply loss leave in the cells (R160, R168) -/

section
variable (c : Cells) (w : CellWrite)

theorem Cells.tear_readsDamaged : (c.tear w).readsDamaged w.cell := by
  cases w <;> simp [Cells.tear, Cells.readsDamaged, CellWrite.cell]

theorem CellFormat.image_holdsNew {α : Type} (f : CellFormat α) (seq : Byte) (v : α) :
    (f.image seq v).holdsNew f seq v := ⟨rfl, Image.read_image f seq v⟩

theorem Cells.put_holdsNew (seq : Byte) : (c.put w seq).holdsNew w seq := by
  cases w <;> simp [Cells.put, Cells.holdsNew, CellFormat.image_holdsNew]

/-- A write attempt touches the cell of its write alone. -/
theorem Cells.imageKept_tear {cell : Cell} (h : cell ≠ w.cell) : (c.tear w).imageKept c cell := by
  cases w with
  | slt k r =>
    cases cell with
    | slt j => exact (getElem_set_fin _ k j _).trans (if_neg fun e : k = j => h (e ▸ rfl))
    | _ => rfl
  | rng k r =>
    cases cell with
    | rng j => exact (getElem_set_fin _ k j _).trans (if_neg fun e : k = j => h (e ▸ rfl))
    | _ => rfl
  | _ => cases cell <;> first | rfl | exact absurd rfl h

theorem Cells.imageKept_put (seq : Byte) {cell : Cell} (h : cell ≠ w.cell) : (c.put w seq).imageKept c cell := by
  cases w with
  | slt k r =>
    cases cell with
    | slt j => exact (getElem_set_fin _ k j _).trans (if_neg fun e : k = j => h (e ▸ rfl))
    | _ => rfl
  | rng k r =>
    cases cell with
    | rng j => exact (getElem_set_fin _ k j _).trans (if_neg fun e : k = j => h (e ▸ rfl))
    | _ => rfl
  | _ => cases cell <;> first | rfl | exact absurd rfl h

theorem Cells.imageKept_refl (cell : Cell) : c.imageKept c cell := by cases cell <;> rfl

end

theorem Cells.afterLoss_imageKept (c : Cells) (w : WriteInProgress) (point : LossPoint) {cell : Cell}
    (h : cell ≠ w.entry.cell) : (c.afterLoss w point).imageKept c cell := by
  cases point with
  | beforeErase => exact c.imageKept_refl cell
  | inErase | inProgram | inReadBackDamaged => exact c.imageKept_tear _ h
  | inReadBackAgreeing | inReadBackIntact => exact c.imageKept_put _ _ h

theorem Cells.afterLoss_torn (c : Cells) (w : WriteInProgress) {point : LossPoint}
    (h : point ∈ [LossPoint.inErase, .inProgram, .inReadBackDamaged]) : c.afterLoss w point = c.tear w.entry.write := by
  simp only [List.mem_cons, List.not_mem_nil, or_false] at h
  rcases h with rfl | rfl | rfl <;> rfl

theorem Cells.afterLoss_put (c : Cells) (w : WriteInProgress) {point : LossPoint}
    (h : point ∈ [LossPoint.inReadBackAgreeing, .inReadBackIntact]) :
    c.afterLoss w point = c.put w.entry.write w.seq := by
  simp only [List.mem_cons, List.not_mem_nil, or_false] at h
  rcases h with rfl | rfl <;> rfl

/-! ### Starts and loss -/

theorem State.started_settleStandby (s : State) (cells : Cells) (cause : StartCause) (pfwLow : Bool) :
    (s.started cells cause pfwLow).settleStandby = s.started cells cause pfwLow :=
  State.settleStandby_eq_self rfl rfl

/-- A start leaves reset's values, over the cells and the PFW level found. -/
theorem State.started_eq (s : State) (cells : Cells) (cause : StartCause) (low : Bool) :
    s.started cells cause low = { State.reset with
      stc := { State.reset.stc with cells := cells }
      ppt := { State.reset.ppt with pfwLow := low, startCause := cause }
      freshCount := s.freshCount, pending := s.pending } := by
  simp only [State.started, State.reset, Stc.start, Ppt.start]

theorem execSupplyStart_eq (s : State) (low : Bool) :
    exec (.supplyStart low) s = .next (s.started s.stc.cells .supply low) := rfl

theorem State.supplyLost_of_idle {s : State} (point : LossPoint) (hw : s.stc.writing = none) :
    s.supplyLost point = { s.started s.stc.cells .supply s.ppt.pfwLow with powered := false } := by
  simp only [State.supplyLost, hw]

theorem State.supplyLost_of_writing {s : State} {w : WriteInProgress} (point : LossPoint)
    (hw : s.stc.writing = some w) : s.supplyLost point =
      { s.started (s.stc.cells.afterLoss w point) .supply s.ppt.pfwLow with powered := false } := by
  simp only [State.supplyLost, hw]

theorem execRestartTakesEffect_eq {s : State} (low : Bool) (hp : s.powered = true) (hr : s.ppt.restartPending = true)
    (hw : s.stc.writing = none) :
    exec (.restartTakesEffect low) s = .next (s.started s.stc.cells .restart low) := by
  have hnow : s.restartNow low = s.started s.stc.cells .restart low := by simp [State.restartNow, hr, hw]
  rw [← s.started_settleStandby, ← hnow]
  exact s.event_powered _ hp

/-- Settles O50: the start values are reset's, and a supply loss leaves the cell of the write in progress by the point. -/
theorem startsAndLoss : Obligations.StartsAndLoss := by
  unfold Obligations.StartsAndLoss
  intro s low
  refine ⟨?_, fun hp hr hw => ?_, fun point hp => ?_⟩
  · rw [execSupplyStart_eq, State.started_eq]
    simp only [State.reset, Ppt.start]
  · rw [execRestartTakesEffect_eq low hp hr hw, State.started_eq]
  have hexec : exec (.supplyLoss point) s = .next (s.supplyLost point) := congrArg _ (if_pos hp)
  rw [hexec]
  cases hw : s.stc.writing with
  | none =>
    refine ⟨s.stc.cells, ?_, fun _ => rfl, fun w h => by cases h⟩
    rw [State.supplyLost_of_idle point hw, State.started_eq]
    simp only [State.reset, Ppt.start]
  | some w =>
    refine ⟨s.stc.cells.afterLoss w point, ?_, (fun h => by cases h), fun w' hw' => ?_⟩
    · rw [State.supplyLost_of_writing point hw, State.started_eq]
      simp only [State.reset, Ppt.start]
    · obtain rfl : w = w' := Option.some.inj hw'
      refine ⟨rfl, fun cell => s.stc.cells.afterLoss_imageKept w point, ?_, ?_, ?_⟩
      · rintro rfl
        rfl
      · exact fun h => Cells.afterLoss_torn _ w h ▸ Cells.tear_readsDamaged _ _
      · exact fun h => Cells.afterLoss_put _ w h ▸ Cells.put_holdsNew _ _ _

/-! ### The gates (R185, R186) -/

section
variable {s : State} {kind : RequestKind} {coded : Bool}

theorem State.gate_restarting (h : s.ppt.restartPending = true) : s.gate kind coded = some .busy := if_pos h

theorem State.gate_starting (h : s.ppt.restartPending = false) (hl : s.lkc.lockState = none) :
    s.gate kind coded = if kind = .status then (if coded then none else some .format) else some .busy := by
  cases kind <;> cases coded <;> simp [State.gate, h, hl]

theorem State.gate_erasing (h : s.ppt.restartPending = false) (hl : s.lkc.lockState = some .erasing) :
    s.gate kind coded =
      if kind = .status ∨ kind = .flags then (if coded then none else some .format) else some .busy := by
  cases kind <;> cases coded <;> simp [State.gate, h, hl]

theorem State.gate_session (h : s.ppt.restartPending = false) (hl : s.lkc.lockState ≠ none)
    (he : s.lkc.lockState ≠ some .erasing) : s.gate kind coded =
      if kind = .admin ∧ s.lkc.session = false then some .noSession else (if coded then none else some .format) := by
  cases kind <;> cases coded <;> simp [State.gate, h, hl, he]

end

theorem State.requestTaken_ppt (s : State) : s.requestTaken.ppt = { s.ppt with request := none } := by
  simp [State.requestTaken]

theorem State.gate_requestTaken (s : State) (kind : RequestKind) (coded : Bool) :
    s.requestTaken.gate kind coded = s.gate kind coded := by
  simp [State.gate, State.requestTaken_ppt]

end Sys2Proof.Machine
end

section
/-! The panel port: the gates, the small requests, and writes that fail their checks. -/

namespace Sys2Proof.Machine

set_option Elab.async false

/-! ### The gates in order (R185, R186) -/

/-- What a gate's refusal leaves: the reply, and at gate 5 in a session the session timer restarted (R17, R185). -/
def State.refusedBy (s : State) (kind : RequestKind) (reply : ReplyResult → Reply) (r : ReplyResult) : State :=
  (if r = .format && kind = .admin then s.requestTaken.touchSession else s.requestTaken).setReply (reply r)

theorem State.panelRequest_of_gate {s : State} {kind : RequestKind} {coded : Bool} {r : ReplyResult}
    (reply : ReplyResult → Reply) (act : State → State) (h : s.gate kind coded = some r) :
    s.panelRequest kind coded reply act = s.refusedBy kind reply r := by
  rw [← State.gate_requestTaken] at h
  unfold State.panelRequest State.refusedBy
  simp only [h]

theorem State.panelRequest_of_admits {s : State} {kind : RequestKind} (reply : ReplyResult → Reply) (act : State → State)
    (h : s.admits kind) : s.panelRequest kind true reply act = act s.requestTaken :=
  State.panelRequest_acted reply act ((State.gate_requestTaken _ _ _).trans h)

/-- A command that is an event, at a part with supply. -/
theorem exec_event {c : Instr} {s : State} (f : State → State) (hp : s.powered = true)
    (h : exec c s = s.event f := by rfl) : exec c s = .next (f s).settleStandby :=
  h.trans (State.event_powered s f hp)

/-- A request that is admitted, at a part with supply. -/
theorem exec_request {c : Instr} {s : State} {kind : RequestKind} (reply : ReplyResult → Reply) (act : State → State)
    (hp : s.powered = true) (ha : s.admits kind)
    (h : exec c s = s.event (fun s => s.panelRequest kind true reply act) := by rfl) :
    exec c s = .next (act s.requestTaken).settleStandby := by
  rw [exec_event _ hp h, State.panelRequest_of_admits reply act ha]

theorem exec_setSettings {entries : List (Byte × BitVec 16)} (h : (1 ≤ entries.length && entries.length ≤ 7) = true)
    (s : State) : exec (.setSettings entries) s = s.event (fun s => s.panelRequest .admin (settingsCoded entries)
      (fun r => settingsReply r 0) (fun s => s.setSettingsAct entries)) := by
  simp only [exec, execSetSettings, h, if_true]

theorem requestGate_setSettings (entries : List (Byte × BitVec 16)) : requestGate (.setSettings entries) =
    if 1 ≤ entries.length && entries.length ≤ 7 then
      some (.admin, settingsCoded entries, fun r => settingsReply r 0)
    else none := rfl

/-- Every request that the gates read goes through them (R185). -/
theorem exec_of_requestGate {c : Instr} {kind : RequestKind} {coded : Bool} {reply : ReplyResult → Reply}
    (h : requestGate c = some (kind, coded, reply)) :
    ∃ act, ∀ s : State, exec c s = s.event (fun s => s.panelRequest kind coded reply act) := by
  cases c with
  | setSettings entries =>
    rw [requestGate_setSettings] at h
    by_cases hlen : (1 ≤ entries.length && entries.length ≤ 7) = true
    · rw [if_pos hlen] at h
      cases h
      exact ⟨fun s => s.setSettingsAct entries, exec_setSettings hlen⟩
    · rw [if_neg hlen] at h
      cases h
  | ack _ | setAlertEnables _ | lockRequest | restart | enroll _ _ _ _ | remove _ | setRange _ _ _ _ _ _ | dropRange _
  | erase | endSession =>
    cases h
    refine ⟨?_, fun s => ?_⟩
    rotate_left
    dsimp only [exec, execAck, execSetAlertEnables, execLockRequest, execRestart, execEnroll, execRemove, execSetRange,
      execDropRange, execErase, execEndSession]
    rfl
  | _ => cases h

theorem State.touchSession_eq (s : State) :
    s.touchSession = { s with lkc := { s.lkc with sessionTimer := s.lkc.sessionTimer.restarted } } := rfl

theorem State.refusedBy_frame (s : State) (kind : RequestKind) (reply : ReplyResult → Reply) (r : ReplyResult) :
    s.requestTaken.sameExcept (s.refusedBy kind reply r) [.ppt, .lkc] ∧
    (s.refusedBy kind reply r).ppt = { s.requestTaken.ppt with reply := reply r } ∧
    (s.refusedBy kind reply r).lkc =
      if r = .format ∧ kind = .admin then { s.lkc with sessionTimer := s.lkc.sessionTimer.restarted } else s.lkc := by
  unfold State.refusedBy
  by_cases h : r = .format ∧ kind = .admin
  · simp [h, State.sameExcept_iff, State.touchSession_eq, State.setReply]
  · simp [h, State.sameExcept_iff, State.setReply]

/-- The NONE reply aside, a reply's payload length (10.5). -/
theorem refusedStatus_payload : refusedStatus.payload.length = 74 ∧ refusedStatus.payload.head? = some 0x02 := by
  simp [refusedStatus, statusLength, ReplyResult.code]

/-- Settles O52: the gates by the lock state, and a refusal at any of them. -/
theorem gatesInOrder : Obligations.GatesInOrder := by
  unfold Obligations.GatesInOrder
  refine ⟨fun s kind coded => ⟨State.gate_restarting, fun hr => ⟨?_, ?_, ?_, ?_, fun hl he => ⟨?_, ?_⟩⟩⟩, ?_, ?_⟩
  · exact fun hl hk => by simp [State.gate_starting hr hl, hk]
  · exact fun hl hk => by simp [State.gate_starting hr hl, hk]
  · exact fun hl hs hf => by simp [State.gate_erasing hr hl, hs, hf]
  · exact fun hl hk => by simp [State.gate_erasing hr hl, hk]
  · exact fun hk hs => by simp [State.gate_session hr hl he, hk, hs]
  · intro hk
    rw [State.gate_session hr hl he, if_neg fun ⟨ha, hs⟩ => by simp [ha, hs] at hk]
  · intro s c kind coded reply r hp hgate hr
    obtain ⟨act, hexec⟩ := exec_of_requestGate hgate
    obtain ⟨hsame, hppt, hlkc⟩ := s.refusedBy_frame kind reply r
    refine ⟨(s.refusedBy kind reply r).settleStandby, ?_, hsame.settled, hppt, hlkc⟩
    rw [hexec, State.event_powered _ _ hp, State.panelRequest_of_gate reply act hr]
  · intro s hp hr
    obtain ⟨hsame, hppt, hlkc⟩ := s.refusedBy_frame .status (fun _ => refusedStatus) .busy
    refine ⟨(s.refusedBy .status (fun _ => refusedStatus) .busy).settleStandby, ?_, ?_, hppt, rfl, ?_⟩
    · rw [exec_event (fun s => s.panelRequest .status true (fun _ => refusedStatus) (fun s => s.setReply s.statusReply)) hp,
        State.panelRequest_of_gate _ _ (State.gate_restarting hr)]
    · exact (show s.requestTaken.sameExcept _ [.ppt] by simp [State.refusedBy, State.sameExcept_iff, State.setReply]).settled
    · exact refusedStatus_payload

/-! ### ACK, SET ALERT ENABLES and ALERT (R182, R191) -/

theorem Ppt.acknowledge_isPending (p : Ppt) (named : BitVec 12) (f : Flag) :
    (p.acknowledge named).isPending f = (p.isPending f && !named.getLsbD f.place) := by
  have hplace := f.place.isLt
  simp [Ppt.acknowledge, Ppt.isPending]

theorem flagSet_getLsbD (b : BitVec 16) (f : Flag) : (flagSet b).getLsbD f.place = b.getLsbD f.place := by
  have hplace := f.place.isLt
  simp [flagSet, hplace]

theorem flagSetCoded_of_lt {b : BitVec 16} (h : b.toNat < 4096) : flagSetCoded b = true := by
  have hzero : b.extractLsb' 12 4 = 0 := by
    apply BitVec.eq_of_toNat_eq
    simp only [BitVec.extractLsb'_toNat, Nat.shiftRight_eq_div_pow]
    simp [Nat.div_eq_of_lt h]
  simp [flagSetCoded, hzero]

theorem Flag.exists_place (i : Nat) (h : i < 12) : ∃ f : Flag, f.place.val = i := by
  have hall : ∀ i : Fin 12, ∃ f : Flag, f.place = i := by
    intro i
    fin_cases i
    exacts [⟨.locked, rfl⟩, ⟨.opened, rfl⟩, ⟨.attemptFailed, rfl⟩, ⟨.holdoffEnded, rfl⟩, ⟨.eraseStarted, rfl⟩,
      ⟨.eraseDone, rfl⟩, ⟨.enrollDone, rfl⟩, ⟨.enrollFailed, rfl⟩, ⟨.storeFault, rfl⟩, ⟨.discard, rfl⟩,
      ⟨.keyloadFault, rfl⟩, ⟨.supply, rfl⟩]
  obtain ⟨f, hf⟩ := hall ⟨i, h⟩
  exact ⟨f, congrArg Fin.val hf⟩

theorem State.alertLow_iff (s : State) :
    s.alertLow = true ↔ ∃ f : Flag, s.ppt.isPending f = true ∧ s.ppt.enables.getLsbD f.place = true := by
  have hne (x : BitVec 12) : x ≠ 0 ↔ ∃ i < 12, x.getLsbD i = true := by
    constructor
    · intro hx
      by_contra hall
      push Not at hall
      refine hx (BitVec.eq_of_getLsbD_eq fun i hi => ?_)
      simpa using hall i hi
    · rintro ⟨i, -, hi⟩ rfl
      simp at hi
  simp only [State.alertLow, bne_iff_ne, hne, BitVec.getLsbD_and, Bool.and_eq_true, Ppt.isPending]
  constructor
  · rintro ⟨i, hi, hboth⟩
    obtain ⟨f, rfl⟩ := Flag.exists_place i hi
    exact ⟨f, hboth⟩
  · rintro ⟨f, hboth⟩
    exact ⟨f.place, f.place.isLt, hboth⟩

theorem State.admits_flags {s : State} (hr : s.ppt.restartPending = false) (hl : s.lkc.lockState ≠ none) :
    s.admits .flags := by
  unfold State.admits
  by_cases he : s.lkc.lockState = some .erasing
  · simp [State.gate_erasing hr he]
  · simp [State.gate_session hr hl he]

/-- Settles O54: both requests act on PPT alone, and ALERT is read from its flags and enables. -/
theorem flagRequests : Obligations.FlagRequests := by
  unfold Obligations.FlagRequests
  intro s b hp hr hl hb
  have hadmits := State.admits_flags hr hl
  have hcoded := flagSetCoded_of_lt hb
  refine ⟨({ s.requestTaken with ppt := s.requestTaken.ppt.acknowledge (flagSet b) }.setReply
      (resultReply 0x02 .accepted)).settleStandby,
    ({ s.requestTaken with ppt := s.requestTaken.ppt.replaceEnables (flagSet b) }.setReply
      (resultReply 0x03 .accepted)).settleStandby, ?_, ?_, ?_, ?_, rfl, fun f => ?_, rfl, State.alertLow_iff _, ?_⟩
  · exact exec_request (c := .ack b) (resultReply 0x02) (fun s => { s with ppt := s.ppt.acknowledge (flagSet b) }.setReply
      (resultReply 0x02 .accepted)) hp hadmits (by rw [← hcoded]; rfl)
  · exact exec_request (c := .setAlertEnables b) (resultReply 0x03) (fun s => { s with ppt := s.ppt.replaceEnables (flagSet b) }.setReply
      (resultReply 0x03 .accepted)) hp hadmits (by rw [← hcoded]; rfl)
  · exact State.sameExcept.settled (by simp [State.sameExcept_iff, State.setReply])
  · exact State.sameExcept.settled (by simp [State.sameExcept_iff, State.setReply])
  · refine (Ppt.acknowledge_isPending s.requestTaken.ppt (flagSet b) f).trans ?_
    rw [flagSet_getLsbD, State.requestTaken_ppt]
    rfl
  · refine (State.alertLow_iff _).trans (exists_congr fun f => and_congr ?_ ?_)
    · simp [Ppt.isPending, State.setReply, State.settleStandby, Ppt.replaceEnables, State.requestTaken_ppt]
    · exact iff_of_eq (congrArg (· = true) (flagSet_getLsbD b f))

/-! ### Writes that fail their checks (R181) -/

theorem readSettings_isSome (l : List Byte) : (readSettings l).isSome = true ↔ l.length % 3 = 0 := by
  induction l using readSettings.induct with
  | case1 => simp [readSettings]
  | case2 f hi lo rest ih =>
    simp only [readSettings, Option.isSome_map, ih, List.length_cons]
    omega
  | case3 l hnil hcons =>
    have hlen : l.length = 1 ∨ l.length = 2 := by
      rcases l with _ | ⟨a, _ | ⟨b, _ | ⟨c, l⟩⟩⟩
      · exact absurd rfl hnil
      · exact .inl rfl
      · exact .inr rfl
      · exact absurd rfl (hcons a b c l)
    have hnone : readSettings l = none := by
      rcases l with _ | ⟨a, _ | ⟨b, _ | ⟨c, l⟩⟩⟩ <;> simp_all [readSettings]
    rw [hnone]
    rcases hlen with h | h <;> simp [h]

/-- A type and a payload spell a request exactly where the payload's length is one that the type allows (R181, 10.5). -/
theorem panelCommand_isSome (type : Byte) (payload : List Byte) :
    (panelCommand type payload).isSome = true ↔ requestLength type payload.length := by
  by_cases hset : type = 0x14
  · subst hset
    have hlen : (panelCommand 0x14 payload).isSome = true ↔
        (3 ≤ payload.length ∧ payload.length ≤ 21) ∧ payload.length % 3 = 0 := by
      simp only [panelCommand, if_true, Bool.and_eq_true, decide_eq_true_eq]
      split
      · next h => simp [readSettings_isSome, h]
      · next h => simp [h]
    rw [hlen]
    simp [requestLength]
    omega
  · unfold panelCommand requestLength
    rw [if_neg hset]
    simp only [hset, false_and, or_false]
    rcases payload with _ | ⟨a, _ | ⟨b, _ | ⟨c, _ | ⟨d, _ | ⟨e, _ | ⟨f, _ | ⟨g, _ | ⟨h, _ | ⟨i, _ | ⟨j, _ | ⟨k, _ | ⟨l, _ |
      ⟨m, rest⟩⟩⟩⟩⟩⟩⟩⟩⟩⟩⟩⟩⟩ <;> simp <;> split_ifs <;> simp_all

theorem List.length_take_of_getElem? {l : List Byte} {n : Nat} {b : Byte} (h : l[n]? = some b) : (l.take n).length = n := by
  rw [List.length_take, Nat.min_eq_left]
  exact Nat.le_of_lt (List.getElem?_eq_some_iff.mp h).1

theorem State.badRequest_of_bad {s : State} {bytes : List Byte} {r : ReplyResult} (h : readPanel bytes = .bad r) :
    s.badRequest bytes = s.requestTaken.setReply (errorReply r) := by
  simp only [State.badRequest, h]

theorem State.badRequest_of_other {s : State} {bytes : List Byte} (h : ∀ r, readPanel bytes ≠ .bad r) :
    s.badRequest bytes = s := by
  unfold State.badRequest
  split
  · next hr => exact absurd hr (h _)
  · rfl

section
variable {type length : Byte} {rest : List Byte}

theorem readPanel_short {bytes : List Byte} (hne : bytes ≠ []) (h : bytes.length < 3) : readPanel bytes = .bad .check := by
  rcases bytes with _ | ⟨a, _ | ⟨b, _ | ⟨c, l⟩⟩⟩
  · exact absurd rfl hne
  · rfl
  · rfl
  · simp only [List.length_cons] at h
    omega

theorem readPanel_check (h : rest[length.toNat]? ≠ some (crc8 (type :: length :: rest.take length.toNat))) :
    readPanel (type :: length :: rest) = .bad .check := by simp [readPanel, h]

theorem readPanel_format (h : rest[length.toNat]? = some (crc8 (type :: length :: rest.take length.toNat)))
    (hbad : length.toNat + 1 < rest.length ∨ ¬ requestLength type length.toNat) :
    readPanel (type :: length :: rest) = .bad .format := by
  have hlen := List.length_take_of_getElem? h
  simp only [readPanel, h, bne_self_eq_false, Bool.false_eq_true, if_false]
  split
  · rfl
  · next hlong =>
    have hnone : panelCommand type (rest.take length.toNat) = none := by
      rw [← Option.not_isSome_iff_eq_none, panelCommand_isSome, hlen]
      exact hbad.resolve_left hlong
    rw [hnone]

theorem readPanel_command (h : rest[length.toNat]? = some (crc8 (type :: length :: rest.take length.toNat)))
    (hlong : rest.length = length.toNat + 1) (hok : requestLength type length.toNat) :
    ∀ r, readPanel (type :: length :: rest) ≠ .bad r := by
  have hlen := List.length_take_of_getElem? h
  obtain ⟨i, hi⟩ := Option.isSome_iff_exists.mp
    ((panelCommand_isSome type (rest.take length.toNat)).mpr (by rwa [hlen]))
  simp only [readPanel, h, bne_self_eq_false, Bool.false_eq_true, if_false, hlong, Nat.lt_irrefl, hi]
  exact nofun

end

theorem State.errorReply_frame (s : State) (r : ReplyResult) :
    s.requestTaken.sameExcept (s.requestTaken.setReply (errorReply r)).settleStandby [.ppt] ∧
    (s.requestTaken.setReply (errorReply r)).settleStandby.ppt =
      { s.requestTaken.ppt with reply := { type := 0xFF, payload := [r.code] } } :=
  ⟨State.sameExcept.settled (by simp [State.sameExcept_iff, State.setReply]), rfl⟩

/-- What a bad panel write leaves, by the reading of its bytes (R181; entry 24). -/
theorem State.badRequest_spec (s : State) (bytes : List Byte) :
    (∀ r, readPanel bytes = .bad r → s.requestTaken.sameExcept (s.badRequest bytes).settleStandby [.ppt] ∧
      (s.badRequest bytes).settleStandby.ppt =
        { s.requestTaken.ppt with reply := { type := 0xFF, payload := [r.code] } }) ∧
    ((∀ r, readPanel bytes ≠ .bad r) → s.sameExcept (s.badRequest bytes).settleStandby []) := by
  refine ⟨fun r h => ?_, fun h => ?_⟩
  · rw [State.badRequest_of_bad h]
    exact s.errorReply_frame r
  · rw [State.badRequest_of_other h]
    exact s.sameExcept_settleStandby

/-- Settles O55: the two requests and the expiry act as they say, and a bad write is answered by its first failed check. -/
theorem smallRequests : Obligations.SmallRequests := by
  unfold Obligations.SmallRequests
  intro s hp
  refine ⟨fun h => ?_, fun h => ?_, fun h => ?_, fun bytes => ?_⟩
  · refine ⟨_, exec_request (resultReply 0x05) (fun s => { s with ppt := { s.ppt with restartPending := true } }.setReply
      (resultReply 0x05 .accepted)) hp h, ?_, rfl⟩
    exact State.sameExcept.settled (by simp [State.sameExcept_iff, State.setReply])
  · refine ⟨_, exec_request (resultReply 0x16) (fun s => s.closeSession.setReply (resultReply 0x16 .accepted)) hp h,
      ?_, ?_, rfl⟩
    · exact State.sameExcept.settled (by simp [State.sameExcept_iff, State.setReply, State.closeSession])
    · exact congrArg Lkc.closeSession s.requestTaken_lkc
  · have hexpiry : s.sessionExpiry = s.closeSession := if_pos h
    refine ⟨_, exec_event State.sessionExpiry hp, ?_, ?_⟩ <;> rw [hexpiry]
    · exact State.sameExcept.settled (by simp [State.sameExcept_iff, State.closeSession])
    · rfl
  · obtain ⟨hbad, hother⟩ := s.badRequest_spec bytes
    refine ⟨_, exec_event (fun s => s.badRequest bytes) hp, ?_, fun hne hlen => hbad _ (readPanel_short hne hlen), ?_⟩
    · rintro rfl
      exact hother nofun
    · rintro type length rest payload rfl rfl
      exact ⟨fun h => hbad _ (readPanel_check h), fun h => ⟨fun hf => hbad _ (readPanel_format h hf),
        fun hlong hok => hother (readPanel_command h hlong hok)⟩⟩

end Sys2Proof.Machine
end

section
/-! STATUS: the bytes of its record by their places (R189, 10.5). -/

namespace Sys2Proof.Machine

set_option Elab.async false

/-! ### Numbers as bytes -/

theorem beBytes_length (n v : Nat) : (beBytes n v).length = n := by
  induction n with
  | zero => rfl
  | succ n ih => simp [beBytes, ih]

theorem beValue_foldl (l : List Byte) : ∀ a : Nat,
    l.foldl (fun v b => v * 256 + b.toNat) a = a * 256 ^ l.length + beValue l := by
  induction l with
  | nil => simp [beValue]
  | cons b l ih =>
    intro a
    have hb : beValue (b :: l) = b.toNat * 256 ^ l.length + beValue l := by
      simp only [beValue, List.foldl_cons]
      rw [ih]
      simp [beValue]
    rw [List.foldl_cons, ih, hb, List.length_cons, pow_succ]
    ring

theorem beValue_cons (b : Byte) (l : List Byte) : beValue (b :: l) = b.toNat * 256 ^ l.length + beValue l := by
  simp only [beValue, List.foldl_cons]
  rw [beValue_foldl]
  simp [beValue]

/-- The number that `n` bytes of a value spell (10.5). -/
theorem beValue_beBytes (n v : Nat) : beValue (beBytes n v) = v % 256 ^ n := by
  induction n with
  | zero => simp [beBytes, beValue, Nat.mod_one]
  | succ n ih =>
    rw [beBytes, beValue_cons, beBytes_length, ih, BitVec.toNat_ofNat]
    conv_rhs => rw [pow_succ, Nat.mod_mul]
    ring

theorem beValue_beBytes_of_lt {n v : Nat} (h : v < 256 ^ n) : beValue (beBytes n v) = v := by
  rw [beValue_beBytes, Nat.mod_eq_of_lt h]

/-! ### Records with their bytes spelt out -/

/-- The first `n` bytes of a list, one by one. -/
def bytesOf (n : Nat) (l : List Byte) : List Byte := (List.range n).map (fun i => l.getD i 0)

theorem bytesOf_eq {n : Nat} {l : List Byte} (h : l.length = n) : bytesOf n l = l := by
  subst h
  refine List.ext_getElem (by simp [bytesOf]) fun i hi hi' => ?_
  simp [bytesOf, hi']

theorem SlotRecord.statusBytes_length (r : SlotRecord) : r.statusBytes.length = 5 := by cases r <;> rfl

theorem State.identityBytes_length (s : State) : s.identityBytes.length = 11 := by
  unfold State.identityBytes
  split
  · split <;> simp [beBytes_length]
  · simp

/-- The cursor's bytes in STATUS, FFh where it is absent (10.5). -/
def cursorBytes (c : Option Lba) : List Byte := c.elim (List.replicate 4 0xFF) (fun c => beBytes 4 c.toNat)

theorem cursorBytes_length (c : Option Lba) : (cursorBytes c).length = 4 := by cases c <;> simp [cursorBytes, beBytes_length]

/-- The STATUS record with the bytes of every field spelt out, so that a place in it can be read off. -/
def State.statusLayout (s : State) (l : LockState) : List Byte :=
  l.code :: s.enu.state.code :: orFF (s.enu.purpose.map Purpose.code) :: BitVec.ofNat 8 s.atg.counter ::
  (beBytes 2 s.atg.remaining ++ (s.mpt.statusBytes ++
  (boolCode s.lkc.session :: orFF (s.lkc.role.map Role.code) :: s.lkc.mask ::
  (bytesOf 5 s.slt.slots[(0 : SlotIx)].statusBytes ++ (bytesOf 5 s.slt.slots[(1 : SlotIx)].statusBytes ++
  (bytesOf 5 s.slt.slots[(2 : SlotIx)].statusBytes ++ (bytesOf 5 s.slt.slots[(3 : SlotIx)].statusBytes ++
  (bytesOf 5 s.slt.slots[(4 : SlotIx)].statusBytes ++
  (s.ere.journal.phase.code :: (bytesOf 4 (cursorBytes s.ere.journal.cursor) ++
  (boolCode s.ere.journal.incomplete :: BitVec.ofNat 8 s.stc.depth :: (beBytes 2 s.ppt.flags.toNat ++
  (s.ppt.startCause.code :: boolCode s.ppt.unresolved :: (bytesOf 11 s.identityBytes ++
    s.stc.cfg.statusBytes))))))))))))))

theorem State.statusRecord_eq (s : State) (l : LockState) : s.statusRecord l = s.statusLayout l := by
  unfold State.statusRecord State.statusLayout
  simp only [bytesOf_eq (SlotRecord.statusBytes_length _), bytesOf_eq s.identityBytes_length,
    bytesOf_eq (cursorBytes_length _)]
  cases hc : s.ere.journal.cursor <;> simp [cursorBytes, allSlots, beBytes]

theorem State.requestTaken_statusReply (s : State) : s.requestTaken.statusReply = s.statusReply := by
  unfold State.requestTaken State.wake
  split <;> rfl

/-- The payload of STATUS's reply (R189). -/
def State.statusPayload (s : State) : List Byte := s.lkc.lockState.elim s.startingRecord s.statusLayout

theorem State.statusReply_eq (s : State) : s.statusReply = { type := 0x81, payload := s.statusPayload } := by
  unfold State.statusReply State.statusPayload
  cases s.lkc.lockState with
  | none => rfl
  | some l => exact congrArg (fun p => ({ type := 0x81, payload := p } : Reply)) (s.statusRecord_eq l)

/-- STATUS, where no restart is pending: the reply, and what its arrival changes (R185, R189). -/
theorem exec_status {s : State} (hp : s.powered = true) (hr : s.ppt.restartPending = false) :
    exec .status s =
      .next (s.requestTaken.setReply { type := 0x81, payload := s.statusPayload }).settleStandby := by
  have hadmits : s.admits .status := by
    unfold State.admits
    by_cases hl : s.lkc.lockState = none
    · simp [State.gate_starting hr hl]
    · by_cases he : s.lkc.lockState = some .erasing
      · simp [State.gate_erasing hr he]
      · simp [State.gate_session hr hl he]
  rw [exec_request (fun _ => refusedStatus) (fun s => s.setReply s.statusReply) hp hadmits,
    State.requestTaken_statusReply, State.statusReply_eq]

/-! ### The fields by their places -/

section
variable (s : State)

/-- What a record shows of the port and of the start, in whatever lock state (R189). -/
def State.ShowsPort (p : List Byte) : Prop :=
  p.length = 74 ∧ p[6]? = some (boolCode s.mpt.attached) ∧
    (p.drop 7).take 8 = beBytes 8 (s.mpt.capacity.getD 0).toNat ∧ p[52]? = some s.ppt.startCause.code

theorem State.startingRecord_showsPort : s.ShowsPort s.startingRecord := ⟨rfl, rfl, rfl, rfl⟩

theorem State.statusLayout_showsPort (l : LockState) : s.ShowsPort (s.statusLayout l) := ⟨rfl, rfl, rfl, rfl⟩

theorem State.statusPayload_showsPort : s.ShowsPort s.statusPayload := by
  unfold State.statusPayload
  cases s.lkc.lockState with
  | none => exact s.startingRecord_showsPort
  | some l => exact s.statusLayout_showsPort l

/-- Before store-ready every other byte is FFh (R189). -/
theorem State.startingRecord_absent {place : Nat} (h : place < 74) (hfield : place < 6 ∨ 14 < place) (hcause : place ≠ 52) :
    s.startingRecord[place]? = some 0xFF := by
  rcases hfield with hlt | hgt
  · interval_cases place <;> rfl
  · interval_cases place <;> first | rfl | exact absurd rfl hcause

/-- The fields of one byte that LKC, ENU, ATG, ERE, STC and PPT give (R189). -/
theorem State.statusLayout_bytes (l : LockState) :
    (s.statusLayout l)[0]? = some l.code ∧ (s.statusLayout l)[1]? = some s.enu.state.code ∧
    (s.statusLayout l)[2]? = some (orFF (s.enu.purpose.map Purpose.code)) ∧
    (s.statusLayout l)[3]? = some (BitVec.ofNat 8 s.atg.counter) ∧
    (s.statusLayout l)[15]? = some (boolCode s.lkc.session) ∧
    (s.statusLayout l)[16]? = some (orFF (s.lkc.role.map Role.code)) ∧ (s.statusLayout l)[17]? = some s.lkc.mask ∧
    (s.statusLayout l)[43]? = some s.ere.journal.phase.code ∧
    (s.statusLayout l)[48]? = some (boolCode s.ere.journal.incomplete) ∧
    (s.statusLayout l)[49]? = some (BitVec.ofNat 8 s.stc.depth) ∧
    (s.statusLayout l)[53]? = some (boolCode s.ppt.unresolved) :=
  ⟨rfl, rfl, rfl, rfl, rfl, rfl, rfl, rfl, rfl, rfl, rfl⟩

/-- The fields of two bytes (R189). -/
theorem State.statusLayout_words (l : LockState) :
    ((s.statusLayout l).drop 4).take 2 = beBytes 2 s.atg.remaining ∧
    ((s.statusLayout l).drop 50).take 2 = beBytes 2 s.ppt.flags.toNat ∧
    ((s.statusLayout l).drop 68).take 2 = beBytes 2 s.stc.cfg.C ∧
    ((s.statusLayout l).drop 70).take 2 = beBytes 2 s.stc.cfg.idle := ⟨rfl, rfl, rfl, rfl⟩

/-- The settings of one byte (R189). -/
theorem State.statusLayout_settings (l : LockState) :
    (s.statusLayout l)[65]? = some (BitVec.ofNat 8 s.stc.cfg.F) ∧
    (s.statusLayout l)[66]? = some (BitVec.ofNat 8 s.stc.cfg.W) ∧
    (s.statusLayout l)[67]? = some (BitVec.ofNat 8 s.stc.cfg.B) ∧
    (s.statusLayout l)[72]? = some (BitVec.ofNat 8 s.stc.cfg.window) ∧
    (s.statusLayout l)[73]? = some (boolCode s.stc.cfg.sweep) := ⟨rfl, rfl, rfl, rfl, rfl⟩

theorem State.statusLayout_slot (l : LockState) (k : SlotIx) :
    ((s.statusLayout l).drop (18 + 5 * k.val)).take 5 = s.slt.slots[k].statusBytes := by
  rw [← bytesOf_eq (SlotRecord.statusBytes_length s.slt.slots[k])]
  fin_cases k <;> rfl

theorem State.statusLayout_cursor (l : LockState) :
    ((s.statusLayout l).drop 44).take 4 = cursorBytes s.ere.journal.cursor := by
  rw [← bytesOf_eq (cursorBytes_length s.ere.journal.cursor)]
  rfl

theorem State.statusLayout_identity (l : LockState) : ((s.statusLayout l).drop 54).take 11 = s.identityBytes := by
  rw [← bytesOf_eq s.identityBytes_length]
  rfl

theorem State.identityBytes_absent (h : s.lkc.idnFault = true) : s.identityBytes = 0x01 :: List.replicate 10 0xFF := by
  unfold State.identityBytes
  split
  · rw [if_pos h]
  · rfl

theorem State.identityBytes_present {id : Identity} (h : s.lkc.idnFault = false) (hid : s.stc.idn = some id) :
    s.identityBytes = 0x00 :: beBytes 8 id.serial.toNat ++ beBytes 2 id.product.toNat := by
  unfold State.identityBytes
  simp [hid, h]

theorem beValue_cursorBytes (c : Option Lba) :
    beValue (cursorBytes c) = c.elim 4294967295 BitVec.toNat := by
  cases c with
  | none => decide
  | some x => exact beValue_beBytes_of_lt (n := 4) x.isLt

/-- The identity's bytes at their places in the record (R189). -/
theorem State.statusLayout_serial (l : LockState) {id : Identity} (h : s.lkc.idnFault = false)
    (hid : s.stc.idn = some id) : (s.statusLayout l)[54]? = some 0x00 ∧
      ((s.statusLayout l).drop 55).take 8 = beBytes 8 id.serial.toNat ∧
      ((s.statusLayout l).drop 63).take 2 = beBytes 2 id.product.toNat := by
  have hbytes := s.statusLayout_identity l
  rw [s.identityBytes_present h hid] at hbytes
  generalize s.statusLayout l = p at hbytes
  have hdrop (n k m : Nat) (hk : m + k ≤ 11) (hn : n = 54 + m) :
      (p.drop n).take k = (((p.drop 54).take 11).drop m).take k := by
    rw [List.drop_take, List.take_take, List.drop_drop, hn, Nat.min_eq_left (by omega)]
  refine ⟨?_, ?_, ?_⟩
  · have hhead : (p.drop 54).head? = ((p.drop 54).take 11).head? := by
      rw [List.head?_take, if_neg (by decide)]
    rw [← List.head?_drop, hhead, hbytes]
    rfl
  · rw [hdrop 55 8 1 (by decide) rfl, hbytes]
    rfl
  · rw [hdrop 63 2 9 (by decide) rfl, hbytes]
    rfl

theorem Stc.depth_eq (q : Stc) :
    q.depth = q.queue.length + q.reserve.length + if q.writing = none then 0 else 1 := by
  unfold Stc.depth
  cases q.writing <;> rfl

end

/-- Settles O53: the reply's payload is the record with its bytes spelt out, and each field stands at its place. -/
theorem statusReports : Obligations.StatusReports := by
  unfold Obligations.StatusReports
  intro s hp hr
  obtain ⟨hlen, hattached, hcapacity, hcause⟩ := s.statusPayload_showsPort
  refine ⟨_, s.statusPayload, exec_status hp hr, ?_, rfl, hlen, hattached, ?_, hcause.trans ?_, fun hl place => ?_,
    fun l hl => ?_⟩
  · exact State.sameExcept.settled (by simp [State.sameExcept_iff, State.setReply])
  · rw [hcapacity]
    cases s.mpt.capacity with
    | none => rfl
    | some x => exact beValue_beBytes_of_lt (n := 8) x.isLt
  · cases s.ppt.startCause <;> rfl
  · intro hplace
    simp only [State.statusPayload, hl, Option.elim_none]
    exact s.startingRecord_absent hplace
  · have hpayload : s.statusPayload = s.statusLayout l := by simp only [State.statusPayload, hl, Option.elim_some]
    rw [hpayload]
    obtain ⟨hlock, hunit, hpurpose, hcounter, hsession, hrole, hmask, hphase, hincomplete, hdepth, hunresolved⟩ :=
      s.statusLayout_bytes l
    obtain ⟨hremaining, hflags, hC, hidle⟩ := s.statusLayout_words l
    obtain ⟨hF, hW, hB, hwindow, hsweep⟩ := s.statusLayout_settings l
    refine ⟨hlock.trans ?lock, hunit.trans ?unit, hpurpose.trans ?purpose, hcounter, ?remaining, hsession,
      hrole.trans ?role, hmask, fun k => (s.statusLayout_slot l k).trans ?slot, hphase.trans ?phase, ?cursor,
      hincomplete, ?depth, ?flags, hunresolved, fun h => ?absent, fun id h hid => ?identity, hF, hW, hB, ?C, ?idle,
      hwindow, hsweep⟩
    case lock => cases l <;> rfl
    case unit => cases s.enu.state <;> rfl
    case purpose =>
      rcases s.enu.purpose with _ | p
      · rfl
      · cases p <;> rfl
    case remaining =>
      rw [hremaining, beValue_beBytes]
      cases h : s.atg.timer <;> simp [Atg.remaining, h]
    case role =>
      rcases s.lkc.role with _ | r
      · rfl
      · cases r <;> rfl
    case slot => cases s.slt.slots[k] <;> rfl
    case phase => cases s.ere.journal.phase <;> rfl
    case cursor =>
      rw [s.statusLayout_cursor l, beValue_cursorBytes]
      cases s.ere.journal.cursor <;> rfl
    case depth => rw [hdepth, Stc.depth_eq]
    case flags => rw [hflags, beValue_beBytes_of_lt (n := 2) (s.ppt.flags.isLt.trans (by decide))]
    case absent => rw [s.statusLayout_identity l, s.identityBytes_absent h]
    case identity =>
      obtain ⟨hmark, hserial, hproduct⟩ := s.statusLayout_serial l h hid
      rw [hserial, hproduct]
      exact ⟨hmark, beValue_beBytes_of_lt (n := 8) id.serial.isLt, beValue_beBytes_of_lt (n := 2) id.product.isLt⟩
    case C =>
      rw [hC]
      exact beValue_beBytes 2 _
    case idle =>
      rw [hidle]
      exact beValue_beBytes 2 _

end Sys2Proof.Machine
end

section
/-! An offered write as one equation: the working copy it changes, and what the store then holds (R161 to R165). -/

namespace Sys2Proof.Machine

set_option Elab.async false

/-! ### Entries on their way -/

/-- The taking of a write keeps every write on its way, whatever the queue holds (R165). -/
theorem Stc.carries.take {q : Stc} {e : QueueEntry} (he : q.carries e) : q.take.carries e := by
  unfold Stc.take
  split
  · rename_i x hw hn
    rcases he with he | he
    · rcases (nextEntry_erase hn).mpr he with he | rfl
      · exact .inl (refill_mem _ he)
      · exact .inr rfl
    · simp [hw] at he
  · exact he

theorem Stc.take_reserve_nil {q : Stc} (h : q.reserve = []) : q.take.reserve = [] := by
  unfold Stc.take
  split
  · simp [h, refill]
  · exact h

theorem holdsCell_nil (c : Cell) : holdsCell [] c = false := rfl

theorem mem_replaceIn_of_ne {l : List QueueEntry} {e x : QueueEntry} (hx : x.cell ≠ e.cell) (h : x ∈ l) : x ∈ replaceIn l e :=
  List.mem_map.mpr ⟨x, h, if_neg hx⟩

/-- A replacement in place stands for the newer value, with what both offers' blocks await (R162). -/
theorem exists_mem_replaceIn {l : List QueueEntry} {e : QueueEntry} (h : holdsCell l e.cell = true) :
    ∃ x ∈ replaceIn l e, x.write = e.write ∧ ∀ a, e.awaiter = some a → x.awaiter = some a := by
  obtain ⟨x, hx, hc⟩ := List.any_eq_true.mp h
  exact ⟨{ e with awaiter := e.awaiter.or x.awaiter }, List.mem_map.mpr ⟨x, hx, if_pos (of_decide_eq_true hc)⟩, rfl,
    fun a ha => by simp [ha]⟩

/-- An admission keeps the writes on their way that are of another cell (R162, R163). -/
theorem Stc.admission_carries {q r : Stc} {k : OfferKind} {e x : QueueEntry} (h : q.admission k e = some r)
    (hx : x.cell ≠ e.cell) (hc : q.carries x) : r.carries x := by
  unfold Stc.admission at h
  split at h
  · cases h
    exact hc.imp_left (mem_replaceIn_of_ne hx)
  split at h
  · cases h
    exact hc
  split at h
  · cases h
    exact hc.imp_left (List.mem_append_left _)
  split at h
  · cases h
    exact hc.imp_left (List.mem_append_left _)
  split at h
  · cases h
    exact hc
  · cases h

/-! ### Room in the queue -/

/-- The store takes a write of this cell into the queue: the reserve list does not hold the cell, and the cell is of the
guard group or the queue has room for the settings group (R163). -/
def Stc.hasRoom (q : Stc) (c : Cell) : Prop :=
  holdsCell q.reserve c = false ∧ (c.isGuard = true ∨ settingsCount q.queue < settingsLimit ∧ q.reserve = [])

theorem Stc.hasRoom_of_guard {q : Stc} {c : Cell} (hl : q.lawful) (hc : c.isGuard = true) : q.hasRoom c := by
  refine ⟨Bool.eq_false_iff.mpr fun hh => ?_, .inl hc⟩
  obtain ⟨x, hx, hcell⟩ := List.any_eq_true.mp hh
  have hguard := hl.2.2.2.1 x hx
  rw [of_decide_eq_true hcell, hc] at hguard
  cases hguard

theorem Stc.hasRoom_of_free {q : Stc} (hcount : settingsCount q.queue < 5) (hreserve : q.reserve = []) (c : Cell) :
    q.hasRoom c := ⟨by rw [hreserve, holdsCell_nil], .inr ⟨hcount, hreserve⟩⟩

theorem Stc.hasRoom_guard_of_nil {q : Stc} {c : Cell} (hreserve : q.reserve = []) (hc : c.isGuard = true) : q.hasRoom c :=
  ⟨by rw [hreserve, holdsCell_nil], .inl hc⟩

/-- Where there is room, the write is admitted into the queue, which leaves the reserve list (R163). -/
theorem Stc.admission_hasRoom {q : Stc} {k : OfferKind} {e : QueueEntry} (h : q.hasRoom e.cell) :
    ∃ r, q.admission k e = some r ∧ r.reserve = q.reserve ∧
      ∃ x ∈ r.queue, x.write = e.write ∧ ∀ a, e.awaiter = some a → x.awaiter = some a := by
  obtain ⟨hreserve, hroom⟩ := h
  unfold Stc.admission
  split
  · next hq => exact ⟨_, rfl, rfl, exists_mem_replaceIn hq⟩
  rw [if_neg (Bool.eq_false_iff.mp hreserve)]
  split
  · exact ⟨_, rfl, rfl, e, by simp, rfl, fun _ ha => ha⟩
  · next hguard =>
    have hfree := hroom.resolve_left hguard
    rw [if_pos (by simp [hfree.1, hfree.2])]
    exact ⟨_, rfl, rfl, e, by simp, rfl, fun _ ha => ha⟩

/-- A full settings group, or a reserve list, refuses an ordinary offer of a settings cell that waits nowhere (R163). -/
theorem Stc.admission_refused {q : Stc} {e : QueueEntry} (hg : e.cell.isGuard = false)
    (hfull : 5 ≤ settingsCount q.queue ∨ q.reserve ≠ []) (hqueue : holdsCell q.queue e.cell = false)
    (hreserve : holdsCell q.reserve e.cell = false) : q.admission .ordinary e = none := by
  unfold Stc.admission
  rw [if_neg (Bool.eq_false_iff.mp hqueue), if_neg (Bool.eq_false_iff.mp hreserve), if_neg (Bool.eq_false_iff.mp hg),
    if_neg, if_neg (by decide)]
  have hlimit : settingsLimit = 5 := rfl
  rcases hfull with hfull | hfull
  · simp only [hlimit, Bool.and_eq_true, decide_eq_true_eq, not_and]
    omega
  · simp [hfull]

/-! ### An offer as one equation -/

/-- What an admitted write makes of the store: its own entry, those of other cells as they stood, and of the rest no
change. -/
structure Stc.Admits (q : Stc) (w : CellWrite) (a : Option Awaiter) (r : Stc) : Prop where
  cells : r.cells = q.cells
  faulty : r.faulty = q.faulty
  ready : r.ready = q.ready
  idn : r.idn = q.idn
  owed : ∃ x, r.owes x ∧ x.write = w ∧ ∀ b, a = some b → x.awaiter = some b
  owes : ∀ x : QueueEntry, x.cell ≠ w.cell → (r.owes x ↔ q.owes x)
  carries : ∀ x : QueueEntry, x.cell ≠ w.cell → q.carries x → r.carries x

/-- The write is on its way, with what its block awaits. -/
def Stc.sends (q : Stc) (w : CellWrite) (a : Option Awaiter) : Prop :=
  ∃ x, q.carries x ∧ x.write = w ∧ ∀ b, a = some b → x.awaiter = some b

theorem Stc.sends.awaited {q : Stc} {w : CellWrite} {b : Awaiter} (h : q.sends w (some b)) :
    q.carries { write := w, awaiter := some b } := by
  obtain ⟨x, hx, rfl, ha⟩ := h
  rw [← ha b rfl]
  exact hx

theorem Stc.sends.exists {q : Stc} {w : CellWrite} {a : Option Awaiter} (h : q.sends w a) :
    ∃ e, q.carries e ∧ e.write = w := by
  obtain ⟨x, hx, hw, -⟩ := h
  exact ⟨x, hx, hw⟩

theorem Stc.Admits.sends {q r : Stc} {w v : CellWrite} {a b : Option Awaiter} (h : q.Admits w a r) (hv : v.cell ≠ w.cell)
    (hs : q.sends v b) : r.sends v b := by
  obtain ⟨x, hx, rfl, hb⟩ := hs
  exact ⟨x, h.carries x hv hx, rfl, hb⟩

theorem Stc.Admits.owed_awaited {q r : Stc} {w : CellWrite} {b : Awaiter} (h : q.Admits w (some b) r) :
    r.owes { write := w, awaiter := some b } := by
  obtain ⟨x, hx, rfl, ha⟩ := h.owed
  rw [← ha b rfl]
  exact hx

section
variable {s : State} {k : OfferKind} {w : CellWrite} {a : Option Awaiter}

theorem State.setWorking_stc (s : State) (q : Stc) (w : CellWrite) (hcfg : q.cfg = s.stc.cfg) :
    State.setWorking { s with stc := q } w =
      { s.setWorking w with stc := { q with cfg := (s.setWorking w).stc.cfg } } := by
  cases w <;> simp [State.setWorking, ← hcfg]

/-- An admitted offer: the working copy takes the value, and the store holds the write, which it may have taken. -/
theorem State.offer_of_admission {q : Stc} (h : s.stc.admission k { write := w, awaiter := a } = some q) :
    ∃ r, s.offer k w a = ({ s.setWorking w with stc := r }, true) ∧ r.cfg = (s.setWorking w).stc.cfg ∧
      s.stc.Admits w a r ∧ (∀ x, q.carries x → r.carries x) ∧ (q.reserve = [] → r.reserve = []) := by
  obtain ⟨hcells, -, hfaulty, -, hready, hcfg, hidn⟩ := Stc.admission_frame h
  have hoffer : s.offer k w a = ((State.setWorking { s with stc := q } w).takeNext, true) := by
    unfold State.offer
    rw [h]
  rw [hoffer, State.setWorking_stc s q w hcfg]
  have hadmits (r : Stc) (hc : r.cells = q.cells) (hf : r.faulty = q.faulty) (hr : r.ready = q.ready)
      (hi : r.idn = q.idn) (ho : ∀ x, r.owes x ↔ q.owes x) (hcar : ∀ x, q.carries x → r.carries x) :
      s.stc.Admits w a r :=
    ⟨hc.trans hcells, hf.trans hfaulty, hr.trans hready, hi.trans hidn,
      (Stc.admission_owed h).imp fun x hx => ⟨(ho x).mpr hx.1, hx.2⟩,
      fun x hx => (ho x).trans (Stc.admission_owes h hx), fun x hx hq => hcar x (Stc.admission_carries h hx hq)⟩
  have htake : ∀ x, q.carries x → (Stc.take { q with cfg := (s.setWorking w).stc.cfg }).carries x :=
    fun x hx => Stc.carries.take (q := { q with cfg := (s.setWorking w).stc.cfg }) hx
  rcases State.takeNext_eq { s.setWorking w with stc := { q with cfg := (s.setWorking w).stc.cfg } } with ht | ht
  · exact ⟨{ q with cfg := (s.setWorking w).stc.cfg }, congrArg (·, true) ht, rfl,
      hadmits _ rfl rfl rfl rfl (fun _ => Iff.rfl) (fun _ hx => hx), fun _ hx => hx, fun hx => hx⟩
  · obtain ⟨tcells, tfaulty, tready, tcfg, tidn⟩ := Stc.take_frame { q with cfg := (s.setWorking w).stc.cfg }
    exact ⟨Stc.take { q with cfg := (s.setWorking w).stc.cfg }, congrArg (·, true) ht, tcfg,
      hadmits _ tcells tfaulty tready tidn (fun x => Stc.take_owes _ x) htake, htake,
      fun hx => Stc.take_reserve_nil (q := { q with cfg := (s.setWorking w).stc.cfg }) hx⟩

theorem State.offer_of_refusal (h : s.stc.admission k { write := w, awaiter := a } = none) : s.offer k w a = (s, false) := by
  unfold State.offer
  rw [h]

/-- An offer that finds room: the working copy takes the value, and the write is on its way. -/
theorem State.offer_hasRoom (h : s.stc.hasRoom w.cell) :
    ∃ r, s.offer k w a = ({ s.setWorking w with stc := r }, true) ∧ r.cfg = (s.setWorking w).stc.cfg ∧
      s.stc.Admits w a r ∧ r.sends w a ∧ (s.stc.reserve = [] → r.reserve = []) := by
  obtain ⟨q, hq, hreserve, x, hx, hw, ha⟩ := Stc.admission_hasRoom (k := k) (e := { write := w, awaiter := a }) h
  obtain ⟨r, hr, hcfg, hadmits, hcarries, hnil⟩ := State.offer_of_admission hq
  exact ⟨r, hr, hcfg, hadmits, ⟨x, hcarries x (.inl hx), hw, ha⟩, fun h => hnil (hreserve.trans h)⟩

/-- A guard-group offer (R163). -/
theorem State.offerGuard_eq (s : State) (w : CellWrite) (a : Option Awaiter) (hg : w.cell.isGuard = true) :
    ∃ r, s.offerGuard w a = { s.setWorking w with stc := r } ∧ r.cfg = s.stc.cfg ∧ s.stc.Admits w a r ∧
      (s.stc.hasRoom w.cell → r.sends w a) ∧ (s.stc.reserve = [] → r.reserve = []) := by
  have hcfg : (s.setWorking w).stc.cfg = s.stc.cfg := by
    cases w with
    | cfg c => cases hg
    | _ => rfl
  by_cases hroom : s.stc.hasRoom w.cell
  · obtain ⟨r, hr, hrc, hadmits, hsends, hnil⟩ := State.offer_hasRoom (k := .ordinary) (a := a) hroom
    exact ⟨r, congrArg Prod.fst hr, hrc.trans hcfg, hadmits, fun _ => hsends, hnil⟩
  · obtain ⟨q, hq⟩ := s.stc.admission_guard .ordinary { write := w, awaiter := a } hg
    obtain ⟨r, hr, hrc, hadmits, -, -⟩ := State.offer_of_admission hq
    exact ⟨r, congrArg Prod.fst hr, hrc.trans hcfg, hadmits, fun h => absurd h hroom,
      fun h => absurd (Stc.hasRoom_guard_of_nil h hg) hroom⟩

/-- A reserved offer (R163). -/
theorem State.offerReserved_eq (s : State) (w : CellWrite) (a : Option Awaiter) :
    ∃ r, s.offerReserved w a = { s.setWorking w with stc := r } ∧ r.cfg = (s.setWorking w).stc.cfg ∧
      s.stc.Admits w a r := by
  obtain ⟨q, hq⟩ := s.stc.admission_reserved { write := w, awaiter := a }
  obtain ⟨r, hr, hcfg, hadmits, -, -⟩ := State.offer_of_admission hq
  exact ⟨r, congrArg Prod.fst hr, hcfg, hadmits⟩

end

end Sys2Proof.Machine
end

section
/-! ENROLL and REMOVE (R43, R55, R61). -/

namespace Sys2Proof.Machine

set_option Elab.async false

/-! ### Admin requests at gates 5 and 6 (R17, R185) -/

section
variable {s : State}

theorem State.gate_of_admits {kind : RequestKind} (h : s.admits kind) : s.gate kind false = some .format := by
  unfold State.admits State.gate at h
  unfold State.gate
  split_ifs at h ⊢
  all_goals simp_all

/-- An admin request with a coded field out of place, in a session: refused FORMAT, the session timer restarted (R17). -/
theorem exec_admin_uncoded {c : Instr} {coded : Bool} (reply : ReplyResult → Reply) (act : State → State)
    (hp : s.powered = true) (ha : s.admits .admin) (hcoded : coded = false)
    (h : exec c s = s.event (fun s => s.panelRequest .admin coded reply act) := by rfl) :
    exec c s = .next (s.requestTaken.answerAdmin (reply .format)).settleStandby := by
  subst hcoded
  rw [exec_event _ hp h, State.panelRequest_of_gate reply act (State.gate_of_admits ha)]
  rfl

theorem exec_admin_coded {c : Instr} {coded : Bool} (reply : ReplyResult → Reply) (act : State → State)
    (hp : s.powered = true) (ha : s.admits .admin) (hcoded : coded = true)
    (h : exec c s = s.event (fun s => s.panelRequest .admin coded reply act) := by rfl) :
    exec c s = .next (act s.requestTaken).settleStandby := by
  subst hcoded
  exact exec_request reply act hp ha h

/-- What an answered admin request changes beyond its action: the reply and the session timer (R17). -/
theorem State.answerAdmin_frame {u : State} {L : List Block} (h : s.requestTaken.sameExcept u L) (hlkc : .lkc ∉ L)
    (hppt : .ppt ∉ L) (r : Reply) :
    s.requestTaken.sameExcept (u.answerAdmin r).settleStandby (L ++ [.lkc, .ppt]) ∧
    (u.answerAdmin r).settleStandby.lkc = { s.lkc with sessionTimer := s.lkc.sessionTimer.restarted } ∧
    (u.answerAdmin r).settleStandby.ppt = { s.requestTaken.ppt with reply := r } := by
  have hu : u.sameExcept (u.answerAdmin r) [.lkc, .ppt] := by
    simp [State.sameExcept_iff, State.answerAdmin, State.touchSession, State.setReply]
  have hl : u.lkc = s.requestTaken.lkc := h.block .lkc hlkc
  have hp : u.ppt = s.requestTaken.ppt := h.block .ppt hppt
  rw [State.requestTaken_lkc] at hl
  refine ⟨(h.trans hu).settled, ?_, ?_⟩
  · simp [State.answerAdmin, Lkc.touchSession, State.touchSession, hl]
  · simp [State.answerAdmin, State.setReply, hp]

theorem State.setReply_frame (s : State) (r : Reply) :
    s.requestTaken.sameExcept (s.requestTaken.setReply r).settleStandby [.ppt] ∧
    (s.requestTaken.setReply r).settleStandby.ppt = { s.requestTaken.ppt with reply := r } :=
  ⟨State.sameExcept.settled (by simp [State.sameExcept_iff, State.setReply]), rfl⟩

theorem State.requestTaken_enu_state (s : State) : s.requestTaken.enu.state = s.enu.state := by
  unfold State.requestTaken State.wake
  split <;> rfl

end

/-! ### The codes of the fields (10.5) -/

@[simp] theorem roleOf_code (r : Role) : roleOf r.code = some r := by cases r <;> rfl
@[simp] theorem flagOf_boolCode (b : Bool) : flagOf (boolCode b) = some b := by cases b <;> rfl
@[simp] theorem classOf_code (c : RangeClass) : classOf c.code = some c := by cases c <;> rfl
@[simp] theorem policyOf_code (p : WritePolicy) : policyOf p.code = some p := by cases p <;> rfl
@[simp] theorem denialOf_code (d : DenialMode) : denialOf d.code = some d := by cases d <;> rfl

theorem roleOf_eq_none {b : Byte} : roleOf b = none ↔ 3 ≤ b.toNat := by
  unfold roleOf
  split_ifs with h0 h1 h2
  · simp [h0]
  · simp [h1]
  · simp [h2]
  · simp only [true_iff]
    bv_omega

theorem flagOf_eq_none {b : Byte} : flagOf b = none ↔ 2 ≤ b.toNat := by
  unfold flagOf
  split_ifs with h0 h1
  · simp [h0]
  · simp [h1]
  · simp only [true_iff]
    bv_omega

theorem roleOf_eq_admin {b : Byte} : roleOf b = some .admin ↔ b = 0x00 := by
  unfold roleOf
  split_ifs <;> simp_all

/-! ### ENROLL (R43, R55) -/

/-- The orders that SLT accepts (R55). -/
theorem enrollOrderOf_some {k : SlotIx} {role : Role} {mask : Mask} {once : Bool}
    (h : (k = 0 ∧ role = .admin ∧ mask = BitVec.allOnes 8 ∧ once = false) ∨ (k ≠ 0 ∧ role ≠ .admin)) :
    enrollOrderOf (BitVec.ofNat 8 k.val) role.code mask (boolCode once) =
      some { slot := k, role := role, mask := mask, once := once } := by
  unfold enrollOrderOf
  simp only [roleOf_code, flagOf_boolCode]
  rcases h with ⟨rfl, rfl, rfl, rfl⟩ | ⟨hk, hrole⟩
  · rfl
  · have hzero : BitVec.ofNat 8 k.val ≠ 0 := by
      have := k.isLt
      intro hk0
      exact hk (Fin.ext (by have := congrArg BitVec.toNat hk0; simpa [Nat.mod_eq_of_lt (by omega : k.val < 256)] using this))
    have hval : (BitVec.ofNat 8 k.val).toNat = k.val := by
      simp [Nat.mod_eq_of_lt (by omega : k.val < 256)]
    rw [if_neg hzero, dif_pos (by omega), if_neg hrole]
    simp [hval]

/-- The requests that SLT refuses (R55). -/
theorem enrollOrderOf_none {slot role mask once : Byte}
    (h : 5 ≤ slot.toNat ∨ (slot = 0 ∧ ¬ (role = 0x00 ∧ mask = 0xFF ∧ once = 0x00)) ∨ (slot ≠ 0 ∧ role = 0x00)) :
    enrollOrderOf slot role mask once = none := by
  unfold enrollOrderOf
  cases hrole : roleOf role with
  | none => rfl
  | some r =>
    cases honce : flagOf once with
    | none => rfl
    | some o =>
      dsimp only
      by_cases h0 : slot = 0
      · rw [if_pos h0, if_neg]
        subst h0
        have h' := h.resolve_left (by decide)
        simp only [ne_eq, not_true_eq_false, false_and, or_false, true_and] at h'
        rintro hall
        simp only [Bool.and_eq_true, decide_eq_true_eq, Bool.not_eq_true'] at hall
        obtain ⟨⟨rfl, hmask⟩, rfl⟩ := hall
        refine h' ⟨roleOf_eq_admin.mp hrole, hmask, ?_⟩
        unfold flagOf at honce
        split_ifs at honce with hz
        · exact hz
        · cases honce
      · rw [if_neg h0]
        split
        · next hlt =>
          have hadmin : role = 0x00 := by
            rcases h with h | h | h
            · omega
            · exact absurd h.1 h0
            · exact h.2
          rw [if_pos (Option.some.inj (hrole.symm.trans (roleOf_eq_admin.mpr hadmin)))]
        · rfl

section
variable {s : State}

theorem State.enrollAct_begins {o : EnrollOrder} (hstate : s.enu.state = .idle) (hbuild : s.slt.build = none) :
    s.enrollAct (some o) = (s.startEntry .enroll1 [] (some o)).answerAdmin (resultReply 0x10 .accepted) := by
  simp [State.enrollAct, hstate, hbuild]

theorem State.enrollAct_busy {o : EnrollOrder} (h : s.enu.state ≠ .idle ∨ s.slt.build ≠ none) :
    s.enrollAct (some o) = s.setReply (resultReply 0x10 .busy) := by
  unfold State.enrollAct
  exact if_pos (by simpa [Option.isSome_iff_ne_none, or_comm] using h)

end

/-! ### REMOVE (R61) -/

theorem userSlot_none {slot : Byte} (h : slot = 0 ∨ 5 ≤ slot.toNat) : userSlot slot = none := by
  unfold userSlot
  split
  · exact if_pos (h.resolve_right (by omega))
  · rfl

theorem userSlot_some {k : SlotIx} (h : k ≠ 0) : userSlot (BitVec.ofNat 8 k.val) = some k := by
  revert k
  decide

section
variable {s : State} {k : SlotIx}

theorem State.removeAct_empty (h : s.slt.slots[k] = .empty) (hk : k ≠ 0) :
    s.removeAct (BitVec.ofNat 8 k.val) = s.answerAdmin (resultReply 0x11 .accepted) := by
  unfold State.removeAct
  rw [userSlot_some hk]
  exact if_pos h

theorem State.removeAct_admitted {r : Stc} (h : s.slt.slots[k] ≠ .empty) (hk : k ≠ 0)
    (hr : s.offer .ordinary (.slt k .empty) none = ({ s.setWorking (.slt k .empty) with stc := r }, true)) :
    s.removeAct (BitVec.ofNat 8 k.val) =
      State.answerAdmin { s.setWorking (.slt k .empty) with stc := r } (resultReply 0x11 .accepted) := by
  unfold State.removeAct
  simp only [userSlot_some hk, if_neg h, hr, if_true]

theorem State.removeAct_refused (h : s.slt.slots[k] ≠ .empty) (hk : k ≠ 0)
    (hr : s.offer .ordinary (.slt k .empty) none = (s, false)) :
    s.removeAct (BitVec.ofNat 8 k.val) = s.setReply (resultReply 0x11 .busy) := by
  unfold State.removeAct
  simp only [userSlot_some hk, if_neg h, hr]
  rfl

end

/-- Settles O56: ENROLL by the order that its bytes spell, REMOVE by the slot and by the room in the store. -/
theorem slotRequests : Obligations.SlotRequests := by
  unfold Obligations.SlotRequests
  intro s hp ha
  have hanswered (r : Reply) := State.answerAdmin_frame (State.sameExcept.refl s.requestTaken []) (by simp) (by simp) r
  refine ⟨fun k role mask once horder => ?_, fun slot role mask once hrefused => ?_, fun slot hslot => ?_,
    fun k hk => ?_⟩
  · have hcoded : enrollCoded role.code (boolCode once) = true := by simp [enrollCoded]
    refine ⟨_, exec_admin_coded (resultReply 0x10)
      (fun s => s.enrollAct (enrollOrderOf (BitVec.ofNat 8 k.val) role.code mask (boolCode once))) hp ha hcoded,
      fun hstate hbuild => ?_, fun hbusy => ?_⟩
    · have hstarts : s.requestTaken.sameExcept
          (s.requestTaken.startEntry .enroll1 [] (some { slot := k, role := role, mask := mask, once := once })) [.enu] := by
        simp [State.sameExcept_iff]
      dsimp only
      rw [enrollOrderOf_some horder, State.enrollAct_begins (by rw [State.requestTaken_enu_state, hstate])
        (by rwa [State.requestTaken_slt])]
      obtain ⟨hsame, hlkc, hppt⟩ := State.answerAdmin_frame hstarts (by simp) (by simp) (resultReply 0x10 .accepted)
      exact ⟨hsame, rfl, rfl, rfl, rfl, rfl, rfl, hlkc, hppt⟩
    · dsimp only
      rw [enrollOrderOf_some horder, State.enrollAct_busy (by simpa [State.requestTaken_enu_state] using hbusy)]
      exact s.setReply_frame _
  · by_cases hcoded : enrollCoded role once = true
    · have hnone : enrollOrderOf slot role mask once = none := by
        simp only [enrollCoded, Bool.and_eq_true, Option.isSome_iff_ne_none, ne_eq, roleOf_eq_none, flagOf_eq_none] at hcoded
        exact enrollOrderOf_none ((hrefused.resolve_left hcoded.1).resolve_left hcoded.2)
      refine ⟨_, exec_admin_coded (resultReply 0x10) (fun s => s.enrollAct (enrollOrderOf slot role mask once)) hp ha
        hcoded, ?_⟩
      dsimp only
      rw [hnone]
      exact hanswered _
    · exact ⟨_, exec_admin_uncoded (resultReply 0x10) (fun s => s.enrollAct (enrollOrderOf slot role mask once)) hp ha
        (Bool.eq_false_iff.mpr hcoded), hanswered _⟩
  · refine ⟨_, exec_request (resultReply 0x11) (fun s => s.removeAct slot) hp ha, ?_⟩
    unfold State.removeAct
    rw [userSlot_none hslot]
    exact hanswered _
  · refine ⟨_, exec_request (resultReply 0x11) (fun s => s.removeAct (BitVec.ofNat 8 k.val)) hp ha, fun hempty => ?_,
      fun hheld hcount hreserve => ?_, fun hheld hfull hqueue hres => ?_⟩
    · rw [State.removeAct_empty (by simpa using hempty) hk]
      exact hanswered _
    · have hroom : s.requestTaken.stc.hasRoom (.slt k) := by
        rw [State.requestTaken_stc]
        exact Stc.hasRoom_of_free hcount hreserve _
      obtain ⟨r, hr, -, hadmits, hsends, -⟩ :=
        State.offer_hasRoom (k := .ordinary) (w := .slt k .empty) (a := none) hroom
      rw [State.removeAct_admitted (by simpa using hheld) hk hr]
      have hframe : s.requestTaken.sameExcept
          { s.requestTaken.setWorking (.slt k .empty) with stc := r } [.slt, .stc] := by
        simp [State.sameExcept_iff, State.setWorking]
      obtain ⟨hsame, hlkc, hppt⟩ := State.answerAdmin_frame hframe (by simp) (by simp) (resultReply 0x11 .accepted)
      have hcells : r.cells = s.stc.cells := by rw [hadmits.cells, State.requestTaken_stc]
      refine ⟨hsame, ?_, hcells, hsends.exists, hlkc, hppt⟩
      simp [State.answerAdmin, State.setWorking]
    · have hrefused : s.requestTaken.offer .ordinary (.slt k .empty) none = (s.requestTaken, false) := by
        refine State.offer_of_refusal (Stc.admission_refused rfl ?_ ?_ ?_) <;> simpa [QueueEntry.cell, CellWrite.cell]
      rw [State.removeAct_refused (by simpa using hheld) hk hrefused]
      exact s.setReply_frame _

end Sys2Proof.Machine
end

section
/-! SET RANGE and DROP RANGE (R105 to R109). -/

namespace Sys2Proof.Machine

set_option Elab.async false

/-! ### Bytes and the values they code -/

theorem classOf_eq_some {b : Byte} {c : RangeClass} (h : classOf b = some c) : b = c.code := by
  unfold classOf at h
  split_ifs at h with h0 h1 h2 <;> cases h <;> assumption

theorem policyOf_eq_some {b : Byte} {p : WritePolicy} (h : policyOf b = some p) : b = p.code := by
  unfold policyOf at h
  split_ifs at h with h0 h1 <;> cases h <;> assumption

theorem denialOf_eq_some {b : Byte} {d : DenialMode} (h : denialOf b = some d) : b = d.code := by
  unfold denialOf at h
  split_ifs at h with h0 h1 <;> cases h <;> assumption

theorem rangeIndexOf_eq_some {b : Byte} {k : RangeIx} (h : rangeIndexOf b = some k) : b = BitVec.ofNat 8 k.val := by
  unfold rangeIndexOf at h
  split at h
  · cases h
    simp
  · cases h

theorem toNat_ofNat_range (k : RangeIx) : (BitVec.ofNat 8 k.val).toNat = k.val := by
  have := k.isLt
  simp [Nat.mod_eq_of_lt (by omega : k.val < 256)]

@[simp] theorem rangeIndexOf_ofNat (k : RangeIx) : rangeIndexOf (BitVec.ofNat 8 k.val) = some k := by
  unfold rangeIndexOf
  rw [dif_pos (by rw [toNat_ofNat_range]; exact k.isLt)]
  simp only [toNat_ofNat_range]

theorem rangeIndexOf_eq_none {b : Byte} (h : 8 ≤ b.toNat) : rangeIndexOf b = none := dif_neg (by omega)

theorem RangeClass.code_le (c : RangeClass) : c.code.toNat ≤ 2 := by cases c <;> decide
theorem WritePolicy.code_le (p : WritePolicy) : p.code.toNat ≤ 1 := by cases p <;> decide
theorem DenialMode.code_le (d : DenialMode) : d.code.toNat ≤ 1 := by cases d <;> decide
theorem RangeClass.code_hidden (c : RangeClass) : c.code = 0x02 ↔ c = .hidden := by cases c <;> decide
theorem RangeClass.code_pub (c : RangeClass) : c.code = 0x00 ↔ c = .pub := by cases c <;> decide
theorem DenialMode.code_fill (d : DenialMode) : d.code = 0x01 ↔ d = .fill := by cases d <;> decide

/-! ### The tests of R107 -/

section
variable (s : State) (k : RangeIx) (start count : Lba) (c : RangeClass) (p : WritePolicy) (m : DenialMode)

/-- The form of R107, where every byte codes a value. -/
theorem rangeForm_iff : rangeForm (BitVec.ofNat 8 k.val) start count c.code p.code m.code ↔
    ¬ (c = .hidden ∧ m = .fill) ∧ (requestedRange start count c p m).fits = true := by
  have hfits : (requestedRange start count c p m).fits = true ↔
      (count = 0 ∨ start.toNat + count.toNat ≤ 4294967296) := by
    unfold RangeDef.fits requestedRange countOf
    by_cases h : count = 0#32 <;> simp [h]
  have hk := k.isLt
  simp only [rangeForm, toNat_ofNat_range, c.code_le, p.code_le, m.code_le, c.code_hidden, m.code_fill, hfits, true_and]
  exact and_iff_right (by omega)

theorem RangeDef.stop_lbaLimit (d : RangeDef) : d.stop lbaLimit = d.past := by
  unfold RangeDef.stop RangeDef.past
  cases d.count with
  | sectors n => rfl
  | toEnd => rfl

theorem conflicts_requestedRange (r : RangeRecord) : RangeRecord.conflicts (.defined (requestedRange start count c p m)) r =
    r.shares start.toNat (if count = 0 then 4294967296 else start.toNat + count.toNat) := by
  cases r with
  | unused => rfl
  | defined d =>
    have hpast : (requestedRange start count c p m).past =
        if count = 0 then 4294967296 else start.toNat + count.toNat := by
      unfold requestedRange RangeDef.past countOf
      by_cases h : count = 0#32 <;> simp [h]
    simp only [RangeRecord.conflicts, RangeDef.overlaps, RangeRecord.shares, RangeDef.stop_lbaLimit, hpast]
    rfl

theorem mem_allRanges (k : RangeIx) : k ∈ allRanges := by
  revert k
  decide

/-- The overlap test of a staged edit (R105, R107). -/
theorem tableFits_eq_false_iff :
    tableFits (s.rgt.staged.set k (.defined (requestedRange start count c p m))) k = false ↔
      s.rangeOverlaps (BitVec.ofNat 8 k.val) start count := by
  unfold tableFits State.rangeOverlaps
  rw [List.all_eq_false]
  constructor
  · rintro ⟨j, -, hj⟩
    simp only [Bool.or_eq_true, decide_eq_true_eq, Bool.not_eq_true', not_or, Bool.not_eq_false] at hj
    obtain ⟨hne, hconflict⟩ := hj
    refine ⟨j, by rw [toNat_ofNat_range]; exact fun e => hne (Fin.ext e), ?_⟩
    rw [getElem_set_fin, if_pos rfl, getElem_set_fin, if_neg (Ne.symm hne)] at hconflict
    rw [← conflicts_requestedRange start count c p m]
    exact hconflict
  · rintro ⟨j, hne, hshares⟩
    rw [toNat_ofNat_range] at hne
    have hjk : k ≠ j := fun e => hne (congrArg Fin.val e.symm)
    refine ⟨j, mem_allRanges j, ?_⟩
    simp only [Bool.or_eq_true, decide_eq_true_eq, Bool.not_eq_true', not_or, Bool.not_eq_false]
    refine ⟨Ne.symm hjk, ?_⟩
    rw [getElem_set_fin, if_pos rfl, getElem_set_fin, if_neg hjk, conflicts_requestedRange]
    exact hshares

theorem rangeLacksKey_iff : s.rangeLacksKey (BitVec.ofNat 8 k.val) c.code ↔
    c = .pub ∧ keepsKey s.rgt.staged[k] c = false ∧ s.lkc.idnFault = true := by
  have hholds : (∀ j : RangeIx, j.val = (BitVec.ofNat 8 k.val).toNat → s.rgt.staged[j].holdsPublic = false) ↔
      s.rgt.staged[k].holdsPublic = false := by
    rw [toNat_ofNat_range]
    exact ⟨fun h => h k rfl, fun h j hj => Fin.ext hj ▸ h⟩
  have hkeeps (hc : c = .pub) : s.rgt.staged[k].holdsPublic = keepsKey s.rgt.staged[k] c := by
    subst hc
    cases s.rgt.staged[k] <;> simp [RangeRecord.holdsPublic, keepsKey]
  unfold State.rangeLacksKey
  rw [hholds, c.code_pub]
  constructor
  · rintro ⟨hc, hf, hp⟩
    exact ⟨hc, hkeeps hc ▸ hp, hf⟩
  · rintro ⟨hc, hp, hf⟩
    exact ⟨hc, hf, (hkeeps hc).trans hp⟩

/-- The refusal of a SET RANGE is the test that it fails first (R107). -/
theorem State.rangeRefusal_eq_some (r : ReplyResult) : s.rangeRefusal k (requestedRange start count c p m) = some r ↔
    s.rangeTest (BitVec.ofNat 8 k.val) start count c.code p.code m.code r := by
  have hoverlap := tableFits_eq_false_iff s k start count c p m
  unfold State.rangeTest
  rw [rangeForm_iff, rangeLacksKey_iff, ← hoverlap]
  unfold State.rangeRefusal
  simp only [show (requestedRange start count c p m).cls = c from rfl,
    show (requestedRange start count c p m).denial = m from rfl]
  by_cases hform : c = .hidden ∧ m = .fill
  · cases r <;> simp [hform]
  by_cases hfits : (requestedRange start count c p m).fits = true
  · by_cases htable : tableFits (s.rgt.staged.set k (.defined (requestedRange start count c p m))) k = true
    · rw [if_neg (by simpa using hform), if_neg (by simp [hfits]), if_neg (by simp [htable])]
      cases r <;> simp [hform, hfits, htable, and_assoc]
    · rw [if_neg (by simpa using hform), if_neg (by simp [hfits]), if_pos (by simpa using htable)]
      cases r <;> simp [hform, hfits, htable]
  · rw [if_neg (by simpa using hform), if_pos (by simpa using hfits)]
    cases r <;> simp [hfits]

end

/-! ### The action of SET RANGE (R107, R108) -/

section
variable {s : State} {k : RangeIx} {start count : Lba} {c : RangeClass} {p : WritePolicy} {m : DenialMode}

theorem State.setRangeAct_refused {r : ReplyResult} (h : s.rangeRefusal k (requestedRange start count c p m) = some r) :
    s.setRangeAct (BitVec.ofNat 8 k.val) start count c.code p.code m.code =
      s.answerAdmin (setRangeReply r (BitVec.ofNat 8 k.val) start count c.code p.code m.code 0xFF) := by
  unfold State.setRangeAct
  simp only [rangeIndexOf_ofNat, classOf_code, policyOf_code, denialOf_code, h]

theorem State.setRangeAct_accepted (h : s.rangeRefusal k (requestedRange start count c p m) = none) :
    s.setRangeAct (BitVec.ofNat 8 k.val) start count c.code p.code m.code =
      (s.stageRange k (requestedRange start count c p m)).answerAdmin
        (setRangeReply .accepted (BitVec.ofNat 8 k.val) start count c.code p.code m.code
          (boolCode (!keepsKey s.rgt.staged[k] c))) := by
  unfold State.setRangeAct
  simp only [rangeIndexOf_ofNat, classOf_code, policyOf_code, denialOf_code, h]

theorem State.setRangeAct_index {index cls policy denial : Byte} (h : rangeIndexOf index = none) :
    s.setRangeAct index start count cls policy denial =
      s.answerAdmin (setRangeReply .format index start count cls policy denial 0xFF) := by
  unfold State.setRangeAct
  rw [h]

theorem setRangeCoded_code (c : RangeClass) (p : WritePolicy) (m : DenialMode) :
    setRangeCoded c.code p.code m.code = true := by simp [setRangeCoded]

/-- A refused SET RANGE, by its bytes: the answer that the test's result gives (R107). -/
theorem exec_setRange_refused {index cls policy denial : Byte} {r : ReplyResult} (hp : s.powered = true)
    (ha : s.admits .admin) (h : s.rangeTest index start count cls policy denial r) :
    exec (.setRange index start count cls policy denial) s =
      .next (s.requestTaken.answerAdmin (setRangeReply r index start count cls policy denial 0xFF)).settleStandby := by
  have hformat (hnot : ¬ rangeForm index start count cls policy denial) : r = .format := by
    rcases h with ⟨-, hr⟩ | ⟨hform, -⟩ | ⟨hform, -⟩
    · exact hr
    · exact absurd hform hnot
    · exact absurd hform hnot
  by_cases hcoded : setRangeCoded cls policy denial = true
  · rw [exec_admin_coded (fun r => setRangeReply r index start count cls policy denial 0xFF)
      (fun s => s.setRangeAct index start count cls policy denial) hp ha hcoded]
    simp only [setRangeCoded, Bool.and_eq_true, Option.isSome_iff_exists] at hcoded
    obtain ⟨⟨⟨c, hc⟩, ⟨p, hpol⟩⟩, ⟨m, hm⟩⟩ := hcoded
    cases hindex : rangeIndexOf index with
    | none =>
      have hbig : ¬ index.toNat ≤ 7 := by
        intro hle
        unfold rangeIndexOf at hindex
        rw [dif_pos (by omega)] at hindex
        cases hindex
      rw [hformat fun hf => hbig hf.1]
      rw [State.setRangeAct_index hindex]
    | some k =>
      obtain rfl := classOf_eq_some hc
      obtain rfl := policyOf_eq_some hpol
      obtain rfl := denialOf_eq_some hm
      obtain rfl := rangeIndexOf_eq_some hindex
      have htest : s.requestTaken.rangeTest (BitVec.ofNat 8 k.val) start count c.code p.code m.code r := by
        simpa only [State.rangeTest, State.rangeOverlaps, State.rangeLacksKey, State.requestTaken_rgt,
          State.requestTaken_lkc] using h
      rw [State.setRangeAct_refused ((State.rangeRefusal_eq_some _ k start count c p m r).mpr htest)]
  · rw [exec_admin_uncoded (fun r => setRangeReply r index start count cls policy denial 0xFF)
      (fun s => s.setRangeAct index start count cls policy denial) hp ha (Bool.eq_false_iff.mpr hcoded), hformat]
    intro hf
    refine hcoded ?_
    obtain ⟨-, hc, hpol, hm, -⟩ := hf
    have hcls : ∀ b : Byte, b.toNat ≤ 2 → (classOf b).isSome = true := by
      intro b hb
      have : b = 0 ∨ b = 1 ∨ b = 2 := by bv_omega
      rcases this with rfl | rfl | rfl <;> rfl
    have hbit : ∀ b : Byte, b.toNat ≤ 1 → (policyOf b).isSome = true ∧ (denialOf b).isSome = true := by
      intro b hb
      have : b = 0 ∨ b = 1 := by bv_omega
      rcases this with rfl | rfl <;> exact ⟨rfl, rfl⟩
    simp [setRangeCoded, hcls _ hc, (hbit _ hpol).1, (hbit _ hm).2]

/-- An accepted SET RANGE stages the record (R107, R108). -/
theorem exec_setRange_accepted (hp : s.powered = true) (ha : s.admits .admin)
    (h : ∀ r, ¬ s.rangeTest (BitVec.ofNat 8 k.val) start count c.code p.code m.code r) :
    exec (.setRange (BitVec.ofNat 8 k.val) start count c.code p.code m.code) s =
      .next ((s.requestTaken.stageRange k (requestedRange start count c p m)).answerAdmin
        (setRangeReply .accepted (BitVec.ofNat 8 k.val) start count c.code p.code m.code
          (boolCode (!keepsKey s.rgt.staged[k] c)))).settleStandby := by
  rw [exec_admin_coded (fun r => setRangeReply r (BitVec.ofNat 8 k.val) start count c.code p.code m.code 0xFF)
    (fun s => s.setRangeAct (BitVec.ofNat 8 k.val) start count c.code p.code m.code) hp ha (setRangeCoded_code c p m)]
  have hnone : s.requestTaken.rangeRefusal k (requestedRange start count c p m) = none := by
    rw [Option.eq_none_iff_forall_not_mem]
    intro r hr
    refine h r ?_
    have := (State.rangeRefusal_eq_some _ k start count c p m r).mp hr
    simpa only [State.rangeTest, State.rangeOverlaps, State.rangeLacksKey, State.requestTaken_rgt,
      State.requestTaken_lkc] using this
  rw [State.setRangeAct_accepted hnone, State.requestTaken_rgt]

/-- The wrapped key that a SET RANGE stages, kept or fresh (R108). -/
def State.stagedKey (s : State) (k : RangeIx) (c : RangeClass) : Option Wrapped :=
  if keepsKey s.rgt.staged[k] c then s.rgt.staged[k].wrapped?
  else (s.wrappingKey c).map (fun u => { key := .range s.freshCount, under := u })

theorem State.stageRange_eq (s : State) (k : RangeIx) (d : RangeDef) : s.stageRange k d =
    { s with rgt := s.rgt.stage k (.defined { d with wrapped := s.stagedKey k d.cls }),
             freshCount := if keepsKey s.rgt.staged[k] d.cls then s.freshCount else s.freshCount + 1 } := by
  unfold State.stageRange State.stagedKey
  split <;> rfl

theorem keepsKey_iff {fresh : Bool}
    (h : fresh = false ↔ ∃ d, s.rgt.staged[k] = .defined d ∧ (d.cls = .pub ↔ c = .pub)) :
    keepsKey s.rgt.staged[k] c = !fresh := by
  have hkeeps : keepsKey s.rgt.staged[k] c = true ↔ fresh = false := by
    rw [h]
    unfold keepsKey
    cases s.rgt.staged[k] with
    | unused => simp
    | defined d => simp
  cases fresh <;> simp_all

end

/-- Settles O57: the tests of R107 by the bytes of the request, then the staged record with its kept or fresh key. -/
theorem rangeRequests : Obligations.RangeRequests := by
  unfold Obligations.RangeRequests
  intro s hp ha
  have hanswered (r : Reply) := State.answerAdmin_frame (State.sameExcept.refl s.requestTaken []) (by simp) (by simp) r
  refine ⟨fun index start count cls policy denial r htest => ⟨_, exec_setRange_refused hp ha htest, hanswered _⟩,
    fun k start count cls policy denial fresh htest hfresh => ?_, fun k => ?_, fun index hindex => ?_⟩
  · have hkeeps := keepsKey_iff hfresh
    refine ⟨_, s.requestTaken.stagedKey k cls, exec_setRange_accepted hp ha htest, ?_⟩
    rw [State.stageRange_eq, hkeeps, Bool.not_not]
    have hframe : s.requestTaken.sameExcept
        { s.requestTaken with
          rgt := s.requestTaken.rgt.stage k (.defined
            { requestedRange start count cls policy denial with wrapped := s.requestTaken.stagedKey k cls }),
          freshCount := if keepsKey s.requestTaken.rgt.staged[k] cls then s.requestTaken.freshCount
            else s.requestTaken.freshCount + 1 } [.rgt, .fresh] := by
      simp [State.sameExcept_iff]
    obtain ⟨hsame, hlkc, hppt⟩ := State.answerAdmin_frame hframe (by simp) (by simp)
      (setRangeReply .accepted (BitVec.ofNat 8 k.val) start count cls.code policy.code denial.code (boolCode fresh))
    refine ⟨hsame.mono (by simp), ?_, fun hf => ⟨?_, ?_⟩, fun hf => ⟨?_, fun id hcls hid => ?_, fun dk hcls hdk => ?_⟩,
      hlkc, hppt⟩
    · simp [State.answerAdmin, Rgt.stage, requestedRange, countOf]
    · simp [-Fin.getElem_fin, State.stagedKey, hkeeps, hf]
    · simp [-Fin.getElem_fin, State.answerAdmin, hkeeps, hf, requestedRange]
    · simp [-Fin.getElem_fin, State.answerAdmin, hkeeps, hf, requestedRange]
    · subst hcls
      simp [-Fin.getElem_fin, State.stagedKey, hkeeps, hf, State.wrappingKey, hid]
    · simp [-Fin.getElem_fin, State.stagedKey, hkeeps, hf, State.wrappingKey, hcls, hdk]
  · refine ⟨_, exec_request (resultReply 0x13) (fun s => s.dropRangeAct (BitVec.ofNat 8 k.val)) hp ha, ?_⟩
    unfold State.dropRangeAct
    rw [rangeIndexOf_ofNat]
    have hframe : s.requestTaken.sameExcept
        { s.requestTaken with rgt := s.requestTaken.rgt.stage k .unused } [.rgt] := by simp [State.sameExcept_iff]
    obtain ⟨hsame, hlkc, hppt⟩ := State.answerAdmin_frame hframe (by simp) (by simp) (resultReply 0x13 .accepted)
    exact ⟨hsame, by simp [State.answerAdmin, Rgt.stage], hlkc, hppt⟩
  · refine ⟨_, exec_request (resultReply 0x13) (fun s => s.dropRangeAct index) hp ha, ?_⟩
    unfold State.dropRangeAct
    rw [rangeIndexOf_eq_none hindex]
    exact hanswered _

end Sys2Proof.Machine
end

section
/-! The lock procedure and the erase start as one equation each (R7, R145), and ERASE. -/

namespace Sys2Proof.Machine

set_option Elab.async false

/-! ### Flags (R190) -/

theorem Flag.place_injective : Function.Injective Flag.place := by
  intro f g h
  cases f <;> cases g <;> first | rfl | exact absurd h (by decide)

theorem Flag.bit_getLsbD (f g : Flag) : f.bit.getLsbD g.place = decide (g = f) := by
  have hf := f.place.isLt
  have hg := g.place.isLt
  by_cases h : g = f
  · subst h
    simp [Flag.bit]
  · have hne : g.place.val ≠ f.place.val := fun e => h (Flag.place_injective (Fin.ext e))
    simp only [Flag.bit, BitVec.getLsbD_shiftLeft, hg, decide_true, Bool.true_and, h, decide_false]
    by_cases hlt : g.place.val < f.place.val
    · simp [hlt]
    · have : g.place.val - f.place.val ≠ 0 := by omega
      simp [BitVec.getLsbD_one, this]

@[simp] theorem Ppt.isPending_setFlag (p : Ppt) (f g : Flag) :
    (p.setFlag f).isPending g = (p.isPending g || decide (g = f)) := by
  unfold Ppt.isPending Ppt.setFlag
  rw [BitVec.getLsbD_or, Flag.bit_getLsbD]

/-- A port that differs at most in the flags, each of which stands that was pending, and every other outside a list. -/
def Ppt.sameButFlags (p : Ppt) (set : List Flag) (q : Ppt) : Prop :=
  q = { p with flags := q.flags } ∧ ∀ f, f ∉ set → q.isPending f = p.isPending f

theorem Ppt.sameButFlags.refl (p : Ppt) (l : List Flag) : p.sameButFlags l p := ⟨rfl, fun _ _ => rfl⟩

theorem Ppt.sameButFlags.setFlag {p q : Ppt} {l : List Flag} {f : Flag} (h : p.sameButFlags l q) (hf : f ∈ l) :
    p.sameButFlags l (q.setFlag f) := by
  refine ⟨?_, fun g hg => ?_⟩
  · rw [Ppt.setFlag, h.1]
  · rw [Ppt.isPending_setFlag, h.2 g hg]
    simp [show g ≠ f from fun e => hg (e ▸ hf)]

theorem Ppt.sameButFlags.trans {p q r : Ppt} {l k : List Flag} (h : p.sameButFlags l q) (i : q.sameButFlags k r) :
    p.sameButFlags (l ++ k) r := by
  refine ⟨by rw [i.1, h.1], fun f hf => ?_⟩
  rw [List.mem_append, not_or] at hf
  exact (i.2 f hf.2).trans (h.2 f hf.1)

theorem Ppt.sameButFlags.mono {p q : Ppt} {l k : List Flag} (h : p.sameButFlags l q) (hl : ∀ f ∈ l, f ∈ k) :
    p.sameButFlags k q := ⟨h.1, fun f hf => h.2 f fun hm => hf (hl f hm)⟩

/-! ### The lock procedure -/

/-- LKC as the lock procedure leaves it, with the key buffer that the install and the zeroising leave (R7). -/
def Lkc.lockedWith (l : Lkc) (buffer : Vector (Option BufferKey) 8) : Lkc :=
  { l with lockState := some .locked, session := false, sessionTimer := .held, windowTimer := .stopped, idleTimer := .held,
           keyBuffer := buffer, role := none, mask := 0 }

/-- The entry unit with the check in CHECKING cancelled (R42). -/
def Enu.cancelled (e : Enu) : Enu := if e.state = .checking then { e with cancel := true } else e

theorem State.cancelCheck_eq (s : State) : s.cancelCheck = { s with enu := s.enu.cancelled } := by
  unfold State.cancelCheck Enu.cancelled
  split <;> rfl

section
variable (s : State) (reason : LockReason)

/-- The tables after steps 1 to 8 of the lock procedure. -/
def State.lockedTables : State := s.lockKeys.lockTables reason

theorem State.lockProcedure_tables : s.lockProcedure reason =
    { s with
      enu := s.enu.cancelled, slt := { s.slt with driveKey := none },
      lkc := s.lkc.lockedWith (s.lockedTables reason).lkc.keyBuffer, rgt := (s.lockedTables reason).rgt,
      cxm := (s.lockedTables reason).cxm, dqq := [], stc := (s.lockedTables reason).stc,
      mpt := ((s.lockedTables reason).mpt.offerOrder (.state .locked)).1, ppt := s.ppt.setFlag .locked } := by
  obtain ⟨b, c, m, q, g, htables, -⟩ := s.lockKeys.lockTables_spec reason
  rw [State.lockProcedure_eq, State.lockNotice, State.cancelCheck_eq]
  unfold State.lockedTables
  rw [htables]
  rfl

theorem State.lockedTables_spec :
    (s.lockedTables reason).stc.cells = s.stc.cells ∧ (s.lockedTables reason).stc.cfg = s.stc.cfg ∧
    (s.lockedTables reason).mpt.attached = s.mpt.attached ∧ (s.lockedTables reason).mpt.capacity = s.mpt.capacity := by
  obtain ⟨b, c, m, q, g, htables, hcells, hcfg, -, hattached, hcapacity⟩ := s.lockKeys.lockTables_spec reason
  unfold State.lockedTables
  rw [htables]
  exact ⟨hcells, hcfg, hattached, hcapacity⟩

/-- A lock procedure that does not install: the tables stand, and the store (R7, R22). -/
theorem State.lockedTables_keep (h : s.rgt.dirty = false ∨ reason = .erase) :
    ∃ c m, s.lockedTables reason = { s.lockKeys with dqq := [], cxm := c, mpt := m } ∧
      m.attached = s.mpt.attached ∧ m.capacity = s.mpt.capacity := by
  obtain ⟨c, m, hpurge, -, hattached, hcapacity, -, -⟩ :=
    s.lockKeys.purgeWhere_spec (fun r => s.lockKeys.rgt.live[r].isClosed)
  unfold State.lockedTables State.lockTables
  rw [hpurge]
  dsimp only
  rw [if_neg]
  · exact ⟨c, m, rfl, hattached, hcapacity⟩
  · rcases h with h | h <;> simp [h, State.lockKeys]

end

/-! ### The erase start -/

/-- What the lock procedure of an erase start leaves for the steps after it: the lock's own fields, which the erase start
sets anew, the outbound queue, the contexts and the drive key apart, nothing but LOCKED and a cancelled check (R22). -/
theorem State.lockForErase_eq (s : State) :
    ∃ e slt l c d m p, s.lockForErase = { s with enu := e, slt := slt, lkc := l, cxm := c, dqq := d, mpt := m, ppt := p } ∧
      e.toIdle = s.enu.toIdle ∧ e.state = s.enu.state ∧ e.purpose = s.enu.purpose ∧
      slt = { s.slt with driveKey := slt.driveKey } ∧ l.erased = s.lkc.erased ∧
      m.attached = s.mpt.attached ∧ m.capacity = s.mpt.capacity ∧ s.ppt.sameButFlags [.locked] p := by
  unfold State.lockForErase
  split
  · rw [State.lockProcedure_tables]
    obtain ⟨c, m, htables, hattached, hcapacity⟩ := s.lockedTables_keep .erase (.inr rfl)
    obtain ⟨ha, hc, -⟩ := Mpt.offerOrder_frame m (.state .locked)
    rw [htables]
    refine ⟨_, _, _, _, _, _, _, rfl, ?_, ?_, ?_, rfl, rfl, ha.trans hattached, hc.trans hcapacity,
      (Ppt.sameButFlags.refl _ _).setFlag (by simp)⟩
    all_goals
      unfold Enu.cancelled
      split <;> rfl
  · exact ⟨_, _, _, _, _, _, _, rfl, rfl, rfl, rfl, rfl, rfl, rfl, rfl, .refl _ _⟩

/-- What an erase start leaves, of the state that it is taken in (R22, R145). -/
structure State.Erases (s t : State) : Prop where
  lkc : t.lkc = s.lkc.erased
  contexts : ∀ i : CtxIx, t.cxm.entries[i].heldRange = none
  dqq : t.dqq = []
  rgt : t.rgt = { live := s.rgt.live, staged := s.rgt.live, dirty := false }
  enu : t.enu = s.enu.toIdle
  atg : t.atg = { s.atg with timer := none, bko := { s.atg.bko with active := none }, check := t.atg.check }
  check : s.atg.check = none → t.atg.check = none
  slots : t.slt.slots = s.slt.slots
  driveKey : t.slt.driveKey = none
  matchHold : t.slt.matchHold = none
  verification : s.slt.verification = none → t.slt.verification = none
  ere : t.ere = { journal := .at .zeroise 0, awaited := some .ejr, sweepState := none, order := none, retry := 0,
                  sweepOwed := false }
  store : s.stc.Admits (.ejr (.at .zeroise 0)) (some .erase) t.stc
  sends : s.stc.hasRoom .ejr → t.stc.sends (.ejr (.at .zeroise 0)) (some .erase)
  cfg : t.stc.cfg = s.stc.cfg
  flags : s.ppt.sameButFlags [.locked, .enrollFailed, .eraseStarted] t.ppt
  started : t.ppt.isPending .eraseStarted = true
  attached : t.mpt.attached = s.mpt.attached
  capacity : t.mpt.capacity = s.mpt.capacity
  rest : t.ksc = s.ksc ∧ t.powered = s.powered ∧ t.freshCount = s.freshCount ∧ t.pending = s.pending

/-- SLT's and ENU's parts of the erase start, with ATG's (R42, R65, R84). -/
theorem State.eraseRest_eq (s : State) :
    ∃ check slt p, s.eraseRest =
      { s with
        dqq := [], rgt := { live := s.rgt.live, staged := s.rgt.live, dirty := false }, enu := s.enu.toIdle,
        atg := { s.atg with timer := none, bko := { s.atg.bko with active := none }, check := check }, slt := slt,
        ere := { s.ere with sweepState := none, order := none, retry := 0, sweepOwed := false }, ppt := p } ∧
      (s.atg.check = none → check = none) ∧ slt.slots = s.slt.slots ∧ slt.driveKey = none ∧ slt.matchHold = none ∧
      (s.slt.verification = none → slt.verification = none) ∧ s.ppt.sameButFlags [.enrollFailed] p := by
  have hset {p : Ppt} (h : s.ppt.sameButFlags [.enrollFailed] p) : s.ppt.sameButFlags [.enrollFailed] (p.setFlag .enrollFailed) :=
    h.setFlag (by simp)
  have henu : ∃ p, ({ s with dqq := [], rgt := { s.rgt with staged := s.rgt.live, dirty := false } } : State).enuEraseStart =
      { s with dqq := [], rgt := { s.rgt with staged := s.rgt.live, dirty := false }, enu := s.enu.toIdle, ppt := p } ∧
      s.ppt.sameButFlags [.enrollFailed] p := by
    unfold State.enuEraseStart State.abandonEntry
    split
    · cases isEnrollment s.enu.purpose
      · exact ⟨_, rfl, .refl _ _⟩
      · exact ⟨_, rfl, hset (.refl _ _)⟩
    · exact ⟨_, rfl, .refl _ _⟩
  obtain ⟨p, henu, hp⟩ := henu
  unfold State.eraseRest
  dsimp only
  rw [henu, State.sltEraseStart_eq]
  unfold State.atgEraseStart State.eraseBuild
  dsimp only
  have hretire (u : State) : ∃ check, u.eraseRetirement =
      { u with atg := { u.atg with check := check }, slt := { u.slt with heldRetirement := none } } ∧
      (u.atg.check = none → check = none) := by
    unfold State.eraseRetirement
    cases h : u.slt.heldRetirement with
    | none => exact ⟨u.atg.check, by simp [← h], fun h => h⟩
    | some k => exact ⟨none, rfl, fun _ => rfl⟩
  split
  · obtain ⟨check, hr, hc⟩ := hretire _
    rw [hr]
    exact ⟨check, _, p, rfl, hc, rfl, rfl, rfl, fun h => by simp [State.eraseHolds, h], hp⟩
  · obtain ⟨check, hr, hc⟩ := hretire _
    rw [hr]
    exact ⟨check, _, _, rfl, hc, rfl, rfl, rfl, fun h => by simp [State.eraseHolds, h], hset hp⟩
  · obtain ⟨check, hr, hc⟩ := hretire _
    rw [hr]
    exact ⟨check, _, p, rfl, hc, rfl, rfl, rfl, fun h => by simp [State.eraseHolds, h], hp⟩

theorem State.putJournal_eq (s : State) (j : Journal) :
    ∃ q, s.putJournal j = { s with ere := { s.ere with journal := j, awaited := some .ejr }, stc := q } ∧
      q.cfg = s.stc.cfg ∧ s.stc.Admits (.ejr j) (some .erase) q ∧
      (s.stc.hasRoom .ejr → q.sends (.ejr j) (some .erase)) ∧ (s.stc.reserve = [] → q.reserve = []) := by
  obtain ⟨q, hq, hcfg, hadmits, hsends, hnil⟩ := s.offerGuard_eq (.ejr j) (some .erase) rfl
  refine ⟨q, ?_, hcfg, hadmits, hsends, hnil⟩
  unfold State.putJournal
  rw [hq]
  rfl

theorem State.eraseStart_erases (s : State) : s.Erases s.eraseStart := by
  obtain ⟨e, slt, l, c, d, m, p, hlock, hidle, -, -, hslt, herased, hattached, hcapacity, hp⟩ := s.lockForErase_eq
  obtain ⟨c', m', hpurge, -, ha, hc, -, hnone⟩ :=
    ({ s.lockForErase with lkc := s.lockForErase.lkc.erased }.sendState .erasing).purgeWhere_spec (fun _ => true)
  obtain ⟨ha', hc', -⟩ := Mpt.offerOrder_frame s.lockForErase.mpt (.state .erasing)
  obtain ⟨check, slt', p', hrest, hcheck, hslots, hdrive, hmatch, hver, hp'⟩ := State.eraseRest_eq
    (({ s.lockForErase with lkc := s.lockForErase.lkc.erased }.sendState .erasing).purgeWhere (fun _ => true))
  rw [State.eraseStart_eq, State.lkcEraseStart_eq]
  obtain ⟨q, hput, hcfg, hadmits, hsends, -⟩ := State.putJournal_eq
    (({ s.lockForErase with lkc := s.lockForErase.lkc.erased }.sendState .erasing).purgeWhere (fun _ => true)).eraseRest
    (.at .zeroise 0)
  rw [hput]
  rw [hrest] at hadmits hsends hcfg ⊢
  rw [hpurge] at hadmits hsends hcfg hcheck hslots hver hp' ⊢
  rw [hlock] at hadmits hsends hcfg hcheck hslots hver hp' ha hc ha' hc' ⊢
  have hslt' : slt.slots = s.slt.slots ∧ slt.verification = s.slt.verification := by
    rw [hslt]
    exact ⟨rfl, rfl⟩
  exact
    { lkc := herased
      contexts := fun i => by
        cases hi : c'.entries[i].heldRange with
        | none => exact hi
        | some r => exact absurd (hnone i r hi).1 (by simp)
      dqq := rfl
      rgt := rfl
      enu := hidle
      atg := rfl
      check := hcheck
      slots := hslots.trans hslt'.1
      driveKey := hdrive
      matchHold := hmatch
      verification := fun h => hver (hslt'.2.trans h)
      ere := rfl
      store := hadmits
      sends := hsends
      cfg := hcfg
      flags := ((hp.trans hp').mono (by simp)).setFlag (by simp)
      started := by simp [State.setFlag]
      attached := ha.trans (ha'.trans hattached)
      capacity := hc.trans (hc'.trans hcapacity)
      rest := ⟨rfl, rfl, rfl, rfl⟩ }

/-- Settles O59: the erase start, from the state with the reply formed. -/
theorem eraseStarts : Obligations.EraseStarts := by
  unfold Obligations.EraseStarts
  intro s hp ha
  have h := (s.requestTaken.setReply (resultReply 0x15 .accepted)).eraseStart_erases
  refine ⟨_, exec_request (resultReply 0x15)
    (fun s => (s.setReply (resultReply 0x15 .accepted)).eraseStart) hp ha, ?_⟩
  generalize (s.requestTaken.setReply (resultReply 0x15 .accepted)).eraseStart = t at h ⊢
  simp only [State.settleStandby_lkc, State.settleStandby_cxm, State.settleStandby_dqq, State.settleStandby_rgt,
    State.settleStandby_atg, State.settleStandby_slt, State.settleStandby_ere, State.settleStandby_stc,
    State.settleStandby_ppt, State.settleStandby_mpt, State.settleStandby_ksc, State.settleStandby_freshCount]
  have hatg := h.atg
  have hreply : t.ppt.reply = { type := 0x95, payload := [0x00] } := by rw [h.flags.1]; rfl
  refine ⟨by rw [h.lkc]; rfl, by rw [h.lkc]; rfl, by rw [h.lkc]; rfl, by rw [h.lkc]; rfl, by rw [h.lkc]; rfl, h.contexts,
    h.dqq, by rw [h.rgt], ?_, by rw [h.rgt], ?_, by rw [hatg], by rw [hatg], ?_, h.driveKey, h.matchHold, ?_,
    by rw [h.ere], fun hl => ?_, by rw [h.ere]; rfl, h.started, hreply, ?_, ?_, ?_, ?_, ?_, ?_⟩
  · rw [h.rgt]
    simp
  · show t.enu.state = .idle
    rw [h.enu]
    rfl
  · rw [hatg]
    simp
  · rw [h.slots]
    simp
  · rw [h.ere]
    exact (h.sends (Stc.hasRoom_of_guard (by simpa using hl) rfl)).awaited
  · rw [h.attached]
    simp
  · rw [h.capacity]
    simp
  · rw [h.store.cells]
    simp
  · rw [h.cfg]
    simp
  · exact h.rest.1
  · rw [h.rest.2.2.1]
    simp

end Sys2Proof.Machine
end

section
/-! The end of a write attempt: what it leaves of the cell, whom it tells, and the taking of the next entry (R165 to
R167). -/

namespace Sys2Proof.Machine

set_option Elab.async false

/-! ### The taking of a write as one equation -/

/-- What the taking of an entry leaves of the store beside its queue. -/
structure Stc.Takes (q r : Stc) : Prop where
  cells : r.cells = q.cells
  faulty : r.faulty = q.faulty
  ready : r.ready = q.ready
  cfg : r.cfg = q.cfg
  idn : r.idn = q.idn
  owes : ∀ e, r.owes e ↔ q.owes e
  carries : ∀ e, q.carries e → r.carries e

theorem Stc.Takes.sends {q r : Stc} {w : CellWrite} {a : Option Awaiter} (h : q.Takes r) (hs : q.sends w a) : r.sends w a := by
  obtain ⟨x, hx, hw⟩ := hs
  exact ⟨x, h.carries x hx, hw⟩

theorem State.takeNext_takes (s : State) : ∃ q, s.takeNext = { s with stc := q } ∧ s.stc.Takes q := by
  rcases s.takeNext_eq with h | h
  · exact ⟨s.stc, h, rfl, rfl, rfl, rfl, rfl, fun _ => Iff.rfl, fun _ he => he⟩
  · obtain ⟨hcells, hfaulty, hready, hcfg, hidn⟩ := s.stc.take_frame
    exact ⟨_, h, hcells, hfaulty, hready, hcfg, hidn, fun e => s.stc.take_owes e, fun _ he => he.take⟩

/-! ### The end of a write attempt -/

/-- The cells after the read-back that ends a write (R166, R167). -/
def Cells.afterWrite (c : Cells) (w : WriteInProgress) : ReadBack → Cells
  | .agrees => c.put w.entry.write w.seq
  | .differs left => (c.afterMismatch w.entry.write w.seq left).afterFailure w.entry

/-- The store with its write ended and not yet another taken (R166). -/
def Stc.afterWrite (q : Stc) (w : WriteInProgress) (r : ReadBack) : Stc :=
  { q with cells := q.cells.afterWrite w r, faulty := q.faulty.set w.entry.cell.index (decide (r ≠ .agrees)),
           writing := none }

/-- The state in which the block that awaits a write is told of its end (R166). -/
def State.afterWrite (s : State) (w : WriteInProgress) (r : ReadBack) : State :=
  { s with stc := s.stc.afterWrite w r, ppt := s.ppt.afterWrite r }

section
variable {s : State} {w : WriteInProgress} {r : ReadBack}

theorem State.writeAttemptEnds_of_ends (hw : s.stc.writing = some w) (he : s.stc.endsWrite w r) :
    s.writeAttemptEnds r = if s.ppt.restartPending then s.afterWrite w r
      else (((s.afterWrite w r).tellEnd w.entry (decide (r = .agrees))).takeNext).reofferAfter w.entry.cell := by
  unfold State.writeAttemptEnds
  rw [hw]
  cases r with
  | agrees => rfl
  | differs left =>
    have hlast : s.stc.triesAgain w = false := by
      unfold Stc.triesAgain
      rcases he with he | ⟨-, he | he⟩
      · cases he
      · simp [he]
      · simp only [Fin.getElem_fin] at he ⊢
        simp [he]
    have hagain : Stc.triesAgain { s.stc with cells := s.stc.cells.afterMismatch w.entry.write w.seq left } w = false := hlast
    simp only [hagain]
    rfl

theorem exec_storeWriteEnd (hp : s.powered = true) (hr : s.ppt.restartPending = false) (hw : s.stc.writing = some w)
    (he : s.stc.endsWrite w r) : exec (.storeWriteEnd r) s =
      .next ((((s.afterWrite w r).tellEnd w.entry (decide (r = .agrees))).takeNext).reofferAfter
        w.entry.cell).settleStandby := by
  rw [exec_event (fun s => s.writeAttemptEnds r) hp, State.writeAttemptEnds_of_ends hw he, hr]
  rfl

/-- The end of a write in the absence of writes to offer again: the block told, and the next entry taken. -/
theorem State.reofferAfter_eq_self {u : State} (cell : Cell) (hretire : u.slt.heldRetirement = none)
    (hbuild : u.slt.build = none) : u.reofferAfter cell = u := by
  unfold State.reofferAfter
  split
  · rfl
  · rw [State.reofferSlots_eq]
    unfold State.reofferRetirement
    rw [hretire]
    unfold State.reofferBuild
    rw [hbuild]

theorem exec_storeWriteEnd_quiet (hp : s.powered = true) (hr : s.ppt.restartPending = false) (hw : s.stc.writing = some w)
    (he : s.stc.endsWrite w r) {u : State} (htell : (s.afterWrite w r).tellEnd w.entry (decide (r = .agrees)) = u)
    (hretire : u.slt.heldRetirement = none) (hbuild : u.slt.build = none) :
    ∃ q, exec (.storeWriteEnd r) s = .next { u with stc := q }.settleStandby ∧ u.stc.Takes q := by
  obtain ⟨q, hq, htakes⟩ := u.takeNext_takes
  refine ⟨q, ?_, htakes⟩
  rw [exec_storeWriteEnd hp hr hw he, htell, hq,
    State.reofferAfter_eq_self (u := { u with stc := q }) _ hretire hbuild]

theorem State.reofferAfter_guard {u : State} {cell : Cell} (h : cell.isGuard = true) : u.reofferAfter cell = u := if_pos h

/-- The end of a guard-group write, at which nothing is offered again (R163). -/
theorem exec_storeWriteEnd_guard (hp : s.powered = true) (hr : s.ppt.restartPending = false) (hw : s.stc.writing = some w)
    (he : s.stc.endsWrite w r) {u : State} (hg : w.entry.cell.isGuard = true)
    (htell : (s.afterWrite w r).tellEnd w.entry (decide (r = .agrees)) = u) :
    ∃ q, exec (.storeWriteEnd r) s = .next { u with stc := q }.settleStandby ∧ u.stc.Takes q := by
  obtain ⟨q, hq, htakes⟩ := u.takeNext_takes
  refine ⟨q, ?_, htakes⟩
  rw [exec_storeWriteEnd hp hr hw he, htell, hq, State.reofferAfter_guard hg]

theorem Stc.afterWrite_lawful (h : s.stc.lawful) : (s.stc.afterWrite w r).lawful := h

theorem State.tellEnd_none {e : QueueEntry} (h : e.awaiter = none) (completed : Bool) : s.tellEnd e completed = s := by
  unfold State.tellEnd
  rw [h]

theorem State.tellEnd_charge {e : QueueEntry} (h : e.awaiter = some .charge) (completed : Bool) :
    s.tellEnd e completed = s.chargeEnds completed := by
  unfold State.tellEnd
  rw [h]

theorem State.tellEnd_refund {e : QueueEntry} (h : e.awaiter = some .refund) (completed : Bool) :
    s.tellEnd e completed = s.refundEnds completed := by
  unfold State.tellEnd
  rw [h]

theorem State.tellEnd_retirement {e : QueueEntry} (h : e.awaiter = some .retirement) (completed : Bool) :
    s.tellEnd e completed = s.retirementEnds := by
  unfold State.tellEnd
  rw [h]

theorem State.tellEnd_firstEnrollment {e : QueueEntry} (h : e.awaiter = some .firstEnrollment) (completed : Bool) :
    s.tellEnd e completed = s.firstWriteEnds e.cell completed := by
  unfold State.tellEnd
  rw [h]

theorem State.tellEnd_erase {e : QueueEntry} (h : e.awaiter = some .erase) (completed : Bool) :
    s.tellEnd e completed = s.ereWriteEnd e.cell := by
  unfold State.tellEnd
  rw [h]

end

end Sys2Proof.Machine
end

section
/-! Write attempts that differ, writes that complete, and the end of a charge (R50, R70, R71, R165 to R167). -/

namespace Sys2Proof.Machine

set_option Elab.async false

/-! ### A write that no block awaits (R165, R166) -/

theorem State.takeNext_of_running {s : State} (h : s.ppt.restartPending = false) :
    s.takeNext = { s with stc := s.stc.take } := by
  unfold State.takeNext
  rw [h]
  rfl

theorem Stc.take_writing {q : Stc} (h : q.writing = none) : q.take.writing.map WriteInProgress.entry = nextEntry q.queue := by
  unfold Stc.take
  rw [h]
  cases hn : nextEntry q.queue with
  | none => simp [h]
  | some e => rfl

/-- A guard-group entry that waits is taken first (R165). -/
theorem nextEntry_isGuard {queue : List QueueEntry} {e : QueueEntry} (he : e ∈ queue) (hg : e.cell.isGuard = true) :
    ∃ x, nextEntry queue = some x ∧ x.cell.isGuard = true := by
  have hsome : (queue.find? (fun e => e.cell.isGuard)).isSome = true := List.find?_isSome.mpr ⟨e, he, hg⟩
  obtain ⟨x, hx⟩ := Option.isSome_iff_exists.mp hsome
  exact ⟨x, by simp [nextEntry, hx], List.find?_some (p := fun e : QueueEntry => e.cell.isGuard) hx⟩

/-- Settles O41: no block is told, and the taking of the next entry is the store's only other change. -/
theorem storeWriteCompletes : Obligations.StoreWriteCompletes := by
  unfold Obligations.StoreWriteCompletes
  intro s w hp hw hnone hr hretire hbuild
  have hexec := exec_storeWriteEnd (r := .agrees) hp hr hw (.inl rfl)
  rw [State.tellEnd_none hnone, State.takeNext_of_running (by exact hr),
    State.reofferAfter_eq_self _ (by exact hretire) (by exact hbuild)] at hexec
  obtain ⟨hcells, hfaulty, -⟩ := (s.stc.afterWrite w .agrees).take_frame
  have hwriting : (s.stc.afterWrite w .agrees).take.writing.map WriteInProgress.entry = nextEntry s.stc.queue :=
    Stc.take_writing rfl
  refine ⟨_, hexec, State.sameExcept.settled (by simp [State.sameExcept_iff, State.afterWrite, Ppt.afterWrite]), hcells, hfaulty, hwriting,
    fun e he hg => ?_⟩
  obtain ⟨x, hx, hguard⟩ := nextEntry_isGuard he hg
  rw [hx, Option.map_eq_some_iff] at hwriting
  obtain ⟨y, hy, rfl⟩ := hwriting
  exact ⟨y, hy, hguard⟩

/-! ### The end of a charge (R50, R70) -/

theorem mem_allSlots (k : SlotIx) : k ∈ allSlots := by
  revert k
  decide

theorem mem_snapshotOf {slots : Vector SlotRecord 5} {e : SnapSlot} : e ∈ snapshotOf slots ↔
    ∃ i k, slots[e.slot] = .enrolled i e.verifier k ∧ e.codeLength = i.codeLength := by
  unfold snapshotOf
  rw [List.mem_filterMap]
  constructor
  · rintro ⟨k, -, hk⟩
    split at hk
    · next i v wrapped hslot =>
      cases hk
      exact ⟨i, wrapped, hslot, rfl⟩
    · cases hk
  · rintro ⟨i, wrapped, hslot, hlength⟩
    refine ⟨e.slot, mem_allSlots _, ?_⟩
    rw [hslot]
    simp [← hlength]

section
variable {s : State} {c : CheckInProgress}

theorem State.chargeEnds_verifies (hc : s.atg.check = some c) (hl : s.lkc.lockState ≠ some .erasing) :
    s.chargeEnds true =
      { s with atg := { s.atg with check := some { c with step := .verifying } } }.startVerification := by
  simp [State.chargeEnds, hc, hl]

theorem State.chargeEnds_erasing (hc : s.atg.check = some c) (hl : s.lkc.lockState = some .erasing) :
    s.chargeEnds true = s.endCheck.dropVerification := by
  simp [State.chargeEnds, hc, hl]

theorem State.chargeEnds_failed (hc : s.atg.check = some c) : s.chargeEnds false = (s.markAttFaulty false).chargeFails := by
  simp [State.chargeEnds, hc]

end

/-- Settles O39: the lock state decides whether the block that is told starts a verification. -/
theorem chargeCompletes : Obligations.ChargeCompletes := by
  unfold Obligations.ChargeCompletes
  intro s n w c v hp hr hw hentry hc hv
  have hcells : (s.stc.afterWrite w .agrees).cells = { s.stc.cells with att := attFormat.image w.seq n } := by
    simp only [Stc.afterWrite, Cells.afterWrite, hentry]
    rfl
  have hguard : w.entry.cell.isGuard = true := by rw [hentry]; rfl
  have htell : (s.afterWrite w .agrees).tellEnd w.entry true = (s.afterWrite w .agrees).chargeEnds true :=
    State.tellEnd_charge (by rw [hentry]) true
  by_cases hl : s.lkc.lockState = some .erasing
  · obtain ⟨q, hexec, htakes⟩ := exec_storeWriteEnd_guard hp hr hw (.inl rfl) hguard
      (htell.trans (State.chargeEnds_erasing (by exact hc) (by exact hl)))
    refine ⟨_, hexec, State.sameExcept.settled ?_, htakes.cells.trans hcells, fun h => absurd hl h, fun _ => ⟨rfl, rfl⟩⟩
    simp [State.sameExcept_iff, State.afterWrite, Ppt.afterWrite]
  · obtain ⟨q, hexec, htakes⟩ := exec_storeWriteEnd_guard hp hr hw (.inl rfl) hguard
      (htell.trans (State.chargeEnds_verifies (by exact hc) (by exact hl)))
    refine ⟨_, hexec, State.sameExcept.settled ?_, htakes.cells.trans hcells, fun _ => ⟨rfl, snapshotOf s.slt.slots, ?_,
      rfl, fun e => mem_snapshotOf⟩, fun h => absurd h hl⟩
    · simp [State.sameExcept_iff, State.afterWrite, Ppt.afterWrite]
    · simp [State.startVerification, State.afterWrite, hv]

end Sys2Proof.Machine
end

section
/-! What the blocks told of a write's end leave of the cells, the faulty marks and the pending flags; failed writes (R166,
R167). -/

namespace Sys2Proof.Machine

set_option Elab.async false

/-- From `s` to `t` the cells and the faulty marks stand, and so does every pending flag. -/
structure State.Retains (s t : State) : Prop where
  cells : t.stc.cells = s.stc.cells := by rfl
  faulty : t.stc.faulty = s.stc.faulty := by rfl
  flags : ∀ f, s.ppt.isPending f = true → t.ppt.isPending f = true := by exact fun _ h => h

section
variable {s t u : State}

theorem State.Retains.refl (s : State) : s.Retains s := {}

theorem State.Retains.trans (h : s.Retains t) (k : t.Retains u) : s.Retains u :=
  ⟨k.cells.trans h.cells, k.faulty.trans h.faulty, fun f hf => k.flags f (h.flags f hf)⟩

variable (s)

theorem State.setFlag_retains (f : Flag) : s.Retains (s.setFlag f) :=
  { flags := fun g hg => by
      show (s.ppt.setFlag f).isPending g = true
      rw [Ppt.isPending_setFlag, hg, Bool.true_or] }

theorem State.offer_retains (k : OfferKind) (w : CellWrite) (a : Option Awaiter) : s.Retains (s.offer k w a).1 where
  cells := (s.offer_stc k w a).1
  faulty := (s.offer_stc k w a).2.1
  flags f hf := by rwa [(s.offer_frame k w a).2.2.2.2.2.2.1]

theorem State.takeNext_retains : s.Retains s.takeNext := by
  obtain ⟨q, hq, htakes⟩ := s.takeNext_takes
  rw [hq]
  exact { cells := htakes.cells, faulty := htakes.faulty }

/-! ### The check's blocks -/

theorem State.leaveChecking_retains : s.Retains s.leaveChecking := by
  unfold State.leaveChecking
  split
  · exact {}
  · exact .refl s

theorem State.markAttFaulty_retains (completed : Bool) : s.Retains (s.markAttFaulty completed) := by
  unfold State.markAttFaulty
  split
  · exact .refl s
  · exact {}

theorem State.chargeEnds_retains (completed : Bool) : s.Retains (s.chargeEnds completed) := by
  unfold State.chargeEnds
  split
  · exact s.markAttFaulty_retains completed
  · split
    · exact (s.markAttFaulty_retains false).trans ((State.Retains.mk : State.Retains _ _).trans (State.leaveChecking_retains _))
    · split <;> exact {}

theorem State.refund_retains : s.Retains s.refund := by
  unfold State.refund State.offerGuard
  dsimp only
  have hoffer : s.Retains (({ s with atg := { s.atg with check := s.atg.check.map CheckInProgress.toRefunding } } :
      State).offer .ordinary (.att 0) (some .refund)).1 :=
    (State.Retains.mk : s.Retains _).trans (State.offer_retains _ _ _ _)
  split
  · exact hoffer.trans ((State.Retains.mk : State.Retains _ _).trans (State.offer_retains _ _ _ _))
  · exact hoffer

theorem State.startUnwrap_retains (opens first : Bool) : s.Retains (s.startUnwrap opens first) := by
  unfold State.startUnwrap
  split
  · exact {}
  · exact .refl s

theorem State.refundEffect_retains (cancel : Bool) (purpose : Purpose) : s.Retains (s.refundEffect cancel purpose) := by
  unfold State.refundEffect
  split
  · split
    · exact {}
    · exact s.startUnwrap_retains _ _
  · split <;> exact {}
  · split <;> exact {}
  · exact {}

theorem State.refundEnds_retains (completed : Bool) : s.Retains (s.refundEnds completed) := by
  unfold State.refundEnds
  dsimp only
  split
  · exact s.markAttFaulty_retains completed
  · exact (s.markAttFaulty_retains completed).trans (((State.Retains.mk : State.Retains _ _).trans
      (State.leaveChecking_retains (s.markAttFaulty completed).endCheck)).trans (State.refundEffect_retains _ _ _))

theorem State.retirementEnds_retains : s.Retains s.retirementEnds := by
  unfold State.retirementEnds
  split
  · exact s.refund_retains
  · exact .refl s

/-! ### First enrollment and re-offers -/

theorem State.setBuild_retains (b : Option Build) : s.Retains (s.setBuild b) := {}

theorem State.offerFirst_retains (l : List CellWrite) : ∀ s : State, s.Retains (s.offerFirst l).1 := by
  induction l with
  | nil => exact .refl
  | cons w rest ih => exact fun s => (s.offer_retains .ordinary w (some .firstEnrollment)).trans (ih _)

theorem State.offerEmptyZero_retains : s.Retains s.offerEmptyZero := by
  unfold State.offerEmptyZero
  dsimp only
  split <;> exact (s.offer_retains .ordinary (.slt 0 .empty) none).trans (State.setBuild_retains _ _)

theorem State.firstWriteEnds_retains (cell : Cell) (completed : Bool) : s.Retains (s.firstWriteEnds cell completed) := by
  unfold State.firstWriteEnds
  split
  · dsimp only
    split
    · split
      · split
        · exact (s.setFlag_retains .enrollFailed).trans (State.offerEmptyZero_retains _)
        · exact (s.setFlag_retains .enrollFailed).trans {}
      · exact ((s.setBuild_retains none).trans (State.setFlag_retains _ .enrollDone)).trans
          ((State.Retains.mk : State.Retains _ _).trans (State.startUnwrap_retains _ _ _))
    · exact s.setBuild_retains _
  · exact .refl s

theorem State.reofferRetirement_retains : s.Retains s.reofferRetirement := by
  unfold State.reofferRetirement
  split
  · dsimp only
    split
    · exact (s.offer_retains _ _ _).trans {}
    · exact s.offer_retains _ _ _
  · exact .refl s

theorem State.reofferBuild_retains : s.Retains s.reofferBuild := by
  unfold State.reofferBuild
  split
  · dsimp only
    split
    · exact (s.offer_retains _ _ _).trans ((State.setBuild_retains _ none).trans (State.setFlag_retains _ _))
    · exact s.offer_retains _ _ _
  · exact (State.offerFirst_retains _ s).trans (State.setBuild_retains _ _)
  · exact s.offerEmptyZero_retains
  · exact .refl s

theorem State.reofferAfter_retains (c : Cell) : s.Retains (s.reofferAfter c) := by
  unfold State.reofferAfter
  split
  · exact .refl s
  · rw [State.reofferSlots_eq]
    exact s.reofferRetirement_retains.trans (State.reofferBuild_retains _)

/-! ### The erase engine -/

theorem State.putJournal_retains (j : Journal) : s.Retains (s.putJournal j) := by
  obtain ⟨q, hq, -, hadmits, -⟩ := s.putJournal_eq j
  rw [hq]
  exact { cells := hadmits.cells, faulty := hadmits.faulty }

theorem State.eraseFinish_retains (cursor : Option Lba) (incomplete : Bool) : s.Retains (s.eraseFinish cursor incomplete) :=
  (State.Retains.mk : s.Retains _).trans (State.putJournal_retains _ _)

theorem State.zeroiseSlot_retains (k : SlotIx) : s.Retains (s.zeroiseSlot k) :=
  (s.offer_retains .reserved (.slt k .empty) (some .erase)).trans {}

theorem State.factoryRange_retains (k : RangeIx) : s.Retains (s.factoryRange k) :=
  (s.offer_retains .reserved (.rng k (.factory k)) (some .erase)).trans {}

theorem State.clearGuard_retains : s.Retains s.clearGuard :=
  ((s.offer_retains .ordinary (.att 0) none).trans (State.offer_retains _ .ordinary _ (some .erase))).trans {}

theorem State.journalStep_retains : s.Retains s.journalStep := by
  unfold State.journalStep
  split
  · split
    · exact s.zeroiseSlot_retains _
    · exact s.putJournal_retains _
  · split
    · exact s.factoryRange_retains _
    · exact s.clearGuard_retains
  · exact .refl s

theorem State.leavePaused_retains : s.Retains s.leavePaused := by
  unfold State.leavePaused
  split
  · exact {}
  · dsimp only
    split
    · exact s.eraseFinish_retains none false
    · exact (State.Retains.mk : s.Retains _).trans (State.putJournal_retains _ _)

theorem State.pausedOrOn_retains : s.Retains s.pausedOrOn := by
  unfold State.pausedOrOn
  dsimp only
  split
  · exact (State.Retains.mk : s.Retains _).trans (State.leavePaused_retains _)
  · exact {}

theorem State.eraseEnd_retains : s.Retains s.eraseEnd := (s.setFlag_retains .eraseDone).trans {}

theorem State.ereWriteEnd_retains (cell : Cell) : s.Retains (s.ereWriteEnd cell) := by
  unfold State.ereWriteEnd
  split
  · split
    · exact s.journalStep_retains
    · exact s.putJournal_retains _
    · exact s.journalStep_retains
    · split
      · exact s.clearGuard_retains
      · exact s.putJournal_retains _
    · split
      · exact s.putJournal_retains _
      · exact s.eraseFinish_retains none false
    · exact (State.Retains.mk : s.Retains _).trans (State.pausedOrOn_retains _)
    · exact s.eraseEnd_retains
    · exact .refl s
  · exact .refl s

theorem State.tellEnd_retains (e : QueueEntry) (completed : Bool) : s.Retains (s.tellEnd e completed) := by
  unfold State.tellEnd
  split
  · exact s.chargeEnds_retains completed
  · exact s.refundEnds_retains completed
  · exact s.retirementEnds_retains
  · exact s.firstWriteEnds_retains _ completed
  · exact s.ereWriteEnd_retains _
  · exact .refl s

end

/-! ### Failed writes -/

section
variable {s : State} {w : WriteInProgress} {r : ReadBack}

/-- A write's end leaves of the cells, the marks and the flags what the read-back makes of them. -/
theorem State.writeAttemptEnds_retains (hw : s.stc.writing = some w) (he : s.stc.endsWrite w r) :
    (s.afterWrite w r).Retains (s.writeAttemptEnds r) := by
  rw [State.writeAttemptEnds_of_ends hw he]
  split
  · exact .refl _
  · exact ((State.tellEnd_retains _ _ _).trans (State.takeNext_retains _)).trans (State.reofferAfter_retains _ _)

theorem State.writeAttemptEnds_again {left : CellLeft} (hw : s.stc.writing = some w) (hattempt : w.attempt = 1)
    (hmark : s.stc.faulty[w.entry.cell.index] = false) : s.writeAttemptEnds (.differs left) =
      { s with stc := { s.stc with cells := s.stc.cells.afterMismatch w.entry.write w.seq left,
                                   writing := some { w with attempt := 2 } } } := by
  unfold State.writeAttemptEnds
  rw [hw]
  refine if_pos ?_
  simp only [Fin.getElem_fin] at hmark
  simp [Stc.triesAgain, hattempt, hmark]

/-- The cell of a failed write, by the rule of that write (R53, R73, R90, R112, R147, R154). -/
theorem Cells.afterFailure_reads (c : Cells) (e : QueueEntry) :
    (∀ x, e.write = .cfg x → (c.afterFailure e).readCfg = none) ∧
    (∀ j, e.write = .ejr j → (c.afterFailure e).readEjr = none) ∧
    (∀ k r, e.write = .rng k r → e.awaiter ≠ some .firstEnrollment → (c.afterFailure e).readRng k = none) ∧
    (∀ k r, e.write = .slt k r → e.awaiter = some .retirement ∨ e.awaiter = some .erase →
      (c.afterFailure e).readSlt k = none) ∧
    (∀ n, e = { write := .att n, awaiter := some .refund } → (c.afterFailure e).readAtt ≠ some n) := by
  obtain ⟨write, awaiter⟩ := e
  refine ⟨fun x h => ?_, fun j h => ?_, fun k r h ha => ?_, fun k r h ha => ?_, fun n h => ?_⟩
  · cases h
    rw [Cells.readCfg, Cells.afterFailure_cfg, Image.read_torn]
  · cases h
    rw [Cells.readEjr, Cells.afterFailure_ejr, Image.read_torn]
  · cases h
    rw [Cells.readRng, Cells.afterFailure_rng _ _ _ _ ha, Image.read_torn]
  · cases h
    rw [Cells.readSlt, Cells.afterFailure_slt _ _ _ _ ha, Image.read_torn]
  · cases h
    exact c.afterFailure_refund n

/-- The check that a failed charge ends (R71). -/
theorem State.chargeFails_spec (s : State) : s.chargeFails.atg = { s.atg with check := none } ∧
    s.chargeFails.slt = { s.slt with verification := none } ∧
    s.chargeFails.enu = (if s.enu.state = .checking then s.enu.toIdle else s.enu) := by
  unfold State.chargeFails State.leaveChecking
  by_cases h : s.enu.state = .checking
  · have h' : s.endCheck.dropVerification.enu.state = .checking := h
    rw [if_pos h', if_pos h]
    exact ⟨rfl, rfl, rfl⟩
  · have h' : s.endCheck.dropVerification.enu.state ≠ .checking := h
    rw [if_neg h', if_neg h]
    exact ⟨rfl, rfl, rfl⟩

end

/-- Settles O40: a second attempt, or the end as failed, whose marks and cell no block that is told takes back. -/
theorem failedWrites : Obligations.FailedWrites := by
  unfold Obligations.FailedWrites
  intro s w left hp hw
  refine ⟨_, exec_event (fun s => s.writeAttemptEnds (.differs left)) hp, fun hattempt hmark => ?_, fun hlast => ?_⟩
  · rw [State.writeAttemptEnds_again hw hattempt hmark]
    exact ⟨State.sameExcept.settled (by simp [State.sameExcept_iff]), rfl, rfl, rfl, rfl⟩
  · have hends : s.stc.endsWrite w (.differs left) := .inr ⟨⟨left, rfl⟩, hlast⟩
    have hretains := State.writeAttemptEnds_retains hw hends
    have hcells : (s.writeAttemptEnds (.differs left)).settleStandby.stc.cells =
        (s.stc.cells.afterMismatch w.entry.write w.seq left).afterFailure w.entry := hretains.cells
    obtain ⟨hcfg, hejr, hrng, hslt, hatt⟩ :=
      (s.stc.cells.afterMismatch w.entry.write w.seq left).afterFailure_reads w.entry
    rw [← hcells] at hcfg hejr hrng hslt hatt
    refine ⟨hretains.faulty, hretains.flags .storeFault (by simp [State.afterWrite, Ppt.afterWrite]), hcells, hcfg, hejr, hrng, hslt,
      hatt, fun n hentry hr hcheck => ?_⟩
    obtain ⟨c, hc⟩ := Option.isSome_iff_exists.mp hcheck
    have htell : (s.afterWrite w (.differs left)).tellEnd w.entry false =
        ((s.afterWrite w (.differs left)).markAttFaulty false).chargeFails :=
      (State.tellEnd_charge (by rw [hentry]) false).trans (State.chargeEnds_failed (by exact hc))
    obtain ⟨q, hq, -⟩ := (((s.afterWrite w (.differs left)).markAttFaulty false).chargeFails).takeNext_takes
    obtain ⟨hatg, hslt', henu⟩ := ((s.afterWrite w (.differs left)).markAttFaulty false).chargeFails_spec
    rw [State.writeAttemptEnds_of_ends hw hends, hr, if_neg (by decide),
      show decide (ReadBack.differs left = .agrees) = false from rfl, htell, hq,
      State.reofferAfter_guard (by rw [hentry]; rfl)]
    simp only [State.settleStandby_atg, State.settleStandby_slt, hatg, hslt']
    refine ⟨rfl, trivial, trivial, rfl, fun hchecking => ?_⟩
    show (((s.afterWrite w (.differs left)).markAttFaulty false).chargeFails).enu.state = .idle
    rw [henu, if_pos (by exact hchecking)]
    rfl

end Sys2Proof.Machine
end

section
/-! The end of a refund, by the cancel mark, the lock state and the purpose (R62, R73). -/

namespace Sys2Proof.Machine

set_option Elab.async false

theorem tab8_get {α : Type} (f : RangeIx → α) (k : RangeIx) : (tab8 f)[k] = f k := by fin_cases k <;> rfl

theorem RangeRecord.closedKey_defined {d : RangeDef} (h : d.cls ≠ .pub) : (RangeRecord.defined d).closedKey = d.wrapped := by
  simp [RangeRecord.closedKey, RangeRecord.isClosed, RangeRecord.wrapped?, h]

theorem RangeRecord.closedKey_none {r : RangeRecord} (h : r.isClosed = false ∨ r.wrapped? = none) : r.closedKey = none := by
  unfold RangeRecord.closedKey
  rcases h with h | h <;> simp [h]

section
variable (live : Vector RangeRecord 8) (mask : Mask)

/-- The key that an unwrap recovers of a range of the mask (R62). -/
theorem unwrapRanges_closed {k : RangeIx} {d : RangeDef} {w : Wrapped} {key : Key} (hk : maskHas mask k = true)
    (hd : live[k] = .defined d) (hc : d.cls ≠ .pub) (hw : d.wrapped = some w) :
    (unwrapRanges live mask (some key))[k] = unwrapKey w key := by
  unfold unwrapRanges
  rw [tab8_get, if_pos hk, hd]
  simp [RangeRecord.closedKey_defined hc, hw]

theorem unwrapRanges_none {k : RangeIx} {driveKey : Option Key} (h : maskHas mask k = false ∨ live[k].isClosed = false ∨
    live[k].wrapped? = none ∨ driveKey = none) : (unwrapRanges live mask driveKey)[k] = none := by
  unfold unwrapRanges
  rw [tab8_get]
  rcases h with h | h | h | h
  · rw [if_neg (by simp [h])]
  · rw [RangeRecord.closedKey_none (.inl h)]
    cases driveKey <;> simp
  · rw [RangeRecord.closedKey_none (.inr h)]
    cases driveKey <;> simp
  · simp [h]

end

section
variable {s : State} {w : WriteInProgress} {r : ReadBack} {c : CheckInProgress}

theorem State.startUnwrap_of_hold {m : MatchHold} (opens first : Bool) (h : s.slt.matchHold = some m) :
    s.startUnwrap opens first = { s with slt := { s.slt with
      matchHold := none,
      unwrap := some { driveKey := unwrapKey m.wrapped m.codeKey,
                       rangeKeys := unwrapRanges s.rgt.live s.slt.slots[m.slot].mask (unwrapKey m.wrapped m.codeKey),
                       slot := m.slot, opensSession := opens, first := first, discard := false } } } := by
  unfold State.startUnwrap
  rw [h]

theorem State.startUnwrap_eq (opens first : Bool) :
    ∃ unwrap, s.startUnwrap opens first = { s with slt := { s.slt with matchHold := none, unwrap := unwrap } } := by
  cases h : s.slt.matchHold with
  | none =>
    refine ⟨s.slt.unwrap, ?_⟩
    unfold State.startUnwrap
    rw [h]
    dsimp only
    rw [← h]
  | some m => exact ⟨_, State.startUnwrap_of_hold opens first h⟩

/-- What refund completion leaves, by the cancel mark, the lock state and the purpose (R73). -/
def State.afterRefund (s : State) (cancel : Bool) (p : Purpose) (t : State) : Prop :=
  ∃ unwrap l, t = { s with slt := { s.slt with matchHold := none, unwrap := unwrap }, lkc := l } ∧
    l.lockState = s.lkc.lockState ∧
    ((cancel = true ∨ s.lkc.lockState = some .erasing ∨ (s.unlocked ∧ p ≠ .admin) ∨
      (s.lkc.lockState = some .locked ∧ s.slt.unwrap ≠ none)) → unwrap = s.slt.unwrap ∧ l = s.lkc) ∧
    (∀ m, cancel = false → s.lkc.lockState = some .locked → s.slt.unwrap = none → s.slt.matchHold = some m →
      l = s.lkc ∧ unwrap =
        some { driveKey := unwrapKey m.wrapped m.codeKey,
               rangeKeys := unwrapRanges s.rgt.live s.slt.slots[m.slot].mask (unwrapKey m.wrapped m.codeKey),
               slot := m.slot, opensSession := decide (p = .admin), first := false, discard := false }) ∧
    (cancel = false → s.unlocked → p = .admin → l = s.lkc.openSession ∧ unwrap = s.slt.unwrap)

theorem State.not_unlocked_of_locked (h : s.lkc.lockState = some .locked) : ¬ s.unlocked := by simp [State.unlocked, h]

theorem State.afterRefund_dropHold {cancel : Bool} {p : Purpose}
    (hstart : ¬ (cancel = false ∧ s.lkc.lockState = some .locked ∧ s.slt.unwrap = none))
    (hopen : ¬ (cancel = false ∧ s.unlocked ∧ p = .admin)) : s.afterRefund cancel p s.dropHold :=
  ⟨s.slt.unwrap, s.lkc, rfl, rfl, fun _ => ⟨rfl, rfl⟩, fun _ hc hl hu => absurd ⟨hc, hl, hu⟩ hstart,
    fun hc hu hp => absurd ⟨hc, hu, hp⟩ hopen⟩

theorem State.afterRefund_unlocked (cancel : Bool) (p : Purpose) (hu : s.unlocked) :
    s.afterRefund cancel p (if !cancel && decide (p = .admin) then s.dropHold.openSession else s.dropHold) := by
  have hnot (h : s.lkc.lockState = some .locked) : False := State.not_unlocked_of_locked h hu
  by_cases hopens : (!cancel && decide (p = .admin)) = true
  · rw [if_pos hopens]
    simp only [Bool.and_eq_true, Bool.not_eq_true', decide_eq_true_eq] at hopens
    refine ⟨s.slt.unwrap, s.lkc.openSession, rfl, rfl, fun h => ?_, fun m _ hl => (hnot hl).elim, fun _ _ _ => ⟨rfl, rfl⟩⟩
    rcases h with h | h | h | h
    · simp [hopens.1] at h
    · rcases hu with hu | hu <;> cases h.symm.trans hu
    · exact absurd hopens.2 h.2
    · exact (hnot h.1).elim
  · rw [if_neg hopens]
    exact State.afterRefund_dropHold (fun h => hnot h.2.1) fun h => hopens (by simp [h.1, h.2.2])

theorem State.refundEffect_spec (s : State) (cancel : Bool) (p : Purpose) :
    s.afterRefund cancel p (s.refundEffect cancel p) := by
  unfold State.refundEffect
  split
  · next hl =>
    have hnot := State.not_unlocked_of_locked hl
    by_cases hquiet : (cancel || s.slt.unwrap.isSome) = true
    · rw [if_pos hquiet]
      exact State.afterRefund_dropHold (fun h => by simp [h.1, h.2.2] at hquiet) fun h => hnot h.2.1
    · rw [if_neg hquiet]
      simp only [Bool.or_eq_true, not_or, Bool.not_eq_true, Option.isSome_eq_false_iff, Option.isNone_iff_eq_none] at hquiet
      obtain ⟨unwrap, hstart⟩ := s.startUnwrap_eq (decide (p = .admin)) false
      refine ⟨unwrap, s.lkc, hstart, rfl, fun h => ?_, fun m _ _ _ hm => ⟨rfl, ?_⟩, fun _ hu => absurd hu hnot⟩
      · rcases h with h | h | h | h
        · simp [hquiet.1] at h
        · simp [hl] at h
        · exact absurd h.1 hnot
        · exact absurd hquiet.2 h.2
      · rw [State.startUnwrap_of_hold _ _ hm] at hstart
        exact (congrArg (fun u : State => u.slt.unwrap) hstart).symm
  · next hl => exact State.afterRefund_unlocked cancel p (.inr hl)
  · next hl => exact State.afterRefund_unlocked cancel p (.inl hl)
  · next hlocked hopened hpending =>
    refine State.afterRefund_dropHold (fun h => hlocked h.2.1) ?_
    rintro ⟨-, h | h, -⟩
    · exact hpending h
    · exact hopened h

theorem State.leaveChecking_eq (s : State) :
    s.leaveChecking = { s with enu := if s.enu.state = .checking then s.enu.toIdle else s.enu } := by
  unfold State.leaveChecking
  split <;> rfl

theorem State.markAttFaulty_eq (s : State) (completed : Bool) :
    s.markAttFaulty completed = { s with atg := { s.atg with attFaulty := s.atg.attFaulty || !completed } } := by
  unfold State.markAttFaulty
  cases completed <;> simp

/-- The end of a refund as one equation (R73). -/
theorem State.refundEnds_of_check (completed : Bool) (hc : s.atg.check = some c) : s.refundEnds completed =
    State.refundEffect { s with
      atg := { s.atg with check := none, attFaulty := s.atg.attFaulty || !completed },
      enu := if s.enu.state = .checking then s.enu.toIdle else s.enu } s.enu.cancel c.purpose := by
  unfold State.refundEnds
  rw [State.markAttFaulty_eq]
  dsimp only
  rw [hc]
  dsimp only
  rw [State.leaveChecking_eq]
  rfl

end

/-- Settles O44: the unit leaves CHECKING, and the cancel mark, the lock state and the purpose decide the effect. -/
theorem refundCompletes : Obligations.RefundCompletes := by
  unfold Obligations.RefundCompletes
  intro s w r c hp hr hw hends hentry hc
  set v : State := { s.afterWrite w r with
    atg := { s.atg with check := none, attFaulty := s.atg.attFaulty || !decide (r = .agrees) },
    enu := if s.enu.state = .checking then s.enu.toIdle else s.enu } with hv
  obtain ⟨unwrap, l, heffect, hlock, hquiet, hstarts, hopens⟩ := v.refundEffect_spec s.enu.cancel c.purpose
  have htell : (s.afterWrite w r).tellEnd w.entry (decide (r = .agrees)) =
      { v with slt := { s.slt with matchHold := none, unwrap := unwrap }, lkc := l } :=
    (State.tellEnd_refund (by rw [hentry]) _).trans ((State.refundEnds_of_check _ (by exact hc)).trans heffect)
  obtain ⟨q, hexec, -⟩ := exec_storeWriteEnd_guard hp hr hw hends (by rw [hentry]; rfl) htell
  refine ⟨_, hexec, State.sameExcept.settled (by simp [State.sameExcept_iff, hv, State.afterWrite]), rfl, ?_, fun h => ?_,
    fun h => ?_, rfl, hlock, hquiet, fun m hcancel hl hu hm => ?_, hopens⟩
  · show ({ s.atg with check := none, attFaulty := s.atg.attFaulty || !decide (r = .agrees) } : Atg) = _
    rw [decide_not]
  · show ({ (if s.enu.state = .checking then s.enu.toIdle else s.enu) with standbyTimer := _ } : Enu).atIdle
    rw [if_pos h]
    exact ⟨rfl, rfl, rfl, rfl, rfl, rfl, rfl, rfl⟩
  · show s.enu.sameEntry { (if s.enu.state = .checking then s.enu.toIdle else s.enu) with standbyTimer := _ }
    rw [if_neg h]
    rfl
  · obtain ⟨hlkc, hunwrap⟩ := hstarts m hcancel hl hu hm
    refine ⟨hlkc, _, hunwrap, rfl, rfl, rfl, rfl, decide_eq_true_iff, fun k d wrapped key hk hd hpub hwrap hkey => ?_,
      fun k hk => unwrapRanges_none _ _ hk⟩
    dsimp only at hkey ⊢
    rw [hkey]
    exact unwrapRanges_closed _ _ hk hd hpub hwrap

end Sys2Proof.Machine
end

section
/-! SUPPORT. What an unlock completion delivers (R10 to R12, R42, R63). -/

namespace Sys2Proof.Machine

set_option Elab.async false

/-- The entry unit at an unlock from LOCKED: an UNLOCK entry is abandoned, and a check is cancelled (R42). -/
def Enu.atUnlock (e : Enu) : Enu :=
  if e.state = .collecting ∧ e.purpose = some .unlock then e.toIdle else e.cancelled

theorem State.enuAtUnlock_eq (s : State) : s.enuAtUnlock = { s with enu := s.enu.atUnlock } := by
  unfold State.enuAtUnlock Enu.atUnlock
  split
  · next hstate hpurpose => rw [if_pos ⟨hstate, hpurpose⟩]
  · next hstate =>
    rw [if_neg (by simp [hstate]), State.cancelCheck_eq]
  · next hcheck hcollect =>
    rw [if_neg (fun h => hcollect h.1 h.2), Enu.cancelled, if_neg hcheck]

theorem Enu.atUnlock_other {e : Enu} (h : e.state = .idle ∨ e.state = .holdoff ∨
    (e.state = .collecting ∧ e.purpose ≠ some .unlock)) : e.atUnlock = e := by
  unfold Enu.atUnlock Enu.cancelled
  rcases h with h | h | ⟨h, hp⟩
  · simp [h]
  · simp [h]
  · simp [h, hp]

section
variable (s : State) (u : Unwrap)

theorem State.sameExcept_unlockedBy : s.sameExcept (s.unlockedBy u) [.lkc, .slt, .ppt, .mpt] := by
  simp [State.sameExcept_iff, State.unlockedBy]

/-- What an unlock completion leaves: of LKC what `unlockLkc` says, the drive key held, the notice and OPENED, and from
LOCKED the entry unit as R42 has it. -/
theorem State.deliverUnlock_spec : s.deliverUnlock u =
    { s.unlockedBy u with enu := if s.lkc.lockState = some .locked then s.enu.atUnlock else s.enu } := by
  rw [State.deliverUnlock_eq, State.enuAtUnlock_eq]
  split <;> rfl

/-- A recovered key of a range of the mask is in its position. -/
theorem State.unlockLkc_delivered {k : RangeIx} {d : RangeDef} {key : Key} (hkey : u.rangeKeys[k] = some key)
    (hd : s.rgt.live[k] = .defined d) (hpub : d.cls ≠ .pub) (hmask : maskHas s.slt.slots[u.slot].mask k = true) :
    (s.unlockLkc u).keyBuffer[k] = some { key := key, cls := d.cls } := by
  unfold State.unlockLkc State.deliverKeys
  simp [-Fin.getElem_fin, tab8_get, hkey, hd, hpub, hmask]

theorem State.unlockLkc_kept {k : RangeIx} (hkey : u.rangeKeys[k] = none) :
    (s.unlockLkc u).keyBuffer[k] = s.lkc.keyBuffer[k] := by
  unfold State.unlockLkc State.deliverKeys
  simp [-Fin.getElem_fin, tab8_get, hkey]

end

/-- Settles O45: an unwrap that is unmarked in LOCKED or BLANK is delivered, and any other is dropped. -/
theorem unlockCompletes : Obligations.UnlockCompletes := by
  unfold Obligations.UnlockCompletes
  intro s u hp hu
  refine ⟨_, exec_event State.completeUnlock hp, fun hdiscard hl => ?_, fun hdrop => ?_⟩
  · have hdeliver : s.completeUnlock =
        { s.unlockedBy u with enu := if s.lkc.lockState = some .locked then s.enu.atUnlock else s.enu } := by
      unfold State.completeUnlock
      rw [hu, ← State.deliverUnlock_spec]
      exact if_pos (by simpa [hdiscard] using hl)
    rw [hdeliver]
    refine ⟨?_, rfl, rfl, fun k d key => s.unlockLkc_delivered u, fun k => s.unlockLkc_kept u, rfl, rfl, fun h => ?_,
      fun h => ?_, rfl, rfl, rfl, ?_, fun hlocked hstate hpurpose => ?_, fun hlocked hstate => ?_, fun h => ?_⟩
    · rfl
    · simp [State.unlockedBy, State.unlockLkc, h]
    · simp [State.unlockedBy, State.unlockLkc, h]
    · exact State.sameExcept.settled (((s.sameExcept_unlockedBy u).trans (u := _) (M := [.enu])
        (by simp [State.sameExcept_iff])).mono (by simp))
    · show Enu.atIdle { (ite _ _ _ : Enu) with standbyTimer := _ } ∧ (ite _ _ _ : Enu).standby = _
      rw [if_pos hlocked, Enu.atUnlock, if_pos ⟨hstate, hpurpose⟩]
      exact ⟨⟨rfl, rfl, rfl, rfl, rfl, rfl, rfl, rfl⟩, rfl⟩
    · show Enu.sameEntry _ { (ite _ _ _ : Enu) with standbyTimer := _ }
      rw [if_pos hlocked, Enu.atUnlock, if_neg (by simp [hstate]), Enu.cancelled, if_pos hstate]
      rfl
    · show Enu.sameEntry _ { (ite _ _ _ : Enu) with standbyTimer := _ }
      split
      · next hlocked =>
        rw [Enu.atUnlock_other (h.resolve_left (by simp [hlocked]))]
        rfl
      · rfl
  · have hdropped : s.completeUnlock = { s with slt := { s.slt with unwrap := none } } := by
      unfold State.completeUnlock
      rw [hu]
      refine if_neg ?_
      rcases hdrop with h | h <;> simp [h]
    rw [hdropped]
    exact ⟨State.sameExcept.settled (by simp [State.sameExcept_iff]), rfl⟩

end Sys2Proof.Machine
end

section
/-! SUPPORT. Lock events as equations, the end of a back-off, and the enrollment build. -/

namespace Sys2Proof.Machine

set_option Elab.async false

/-! ### The enrollment build (R56) -/

/-- Settles O46: a code that another slot holds is refused, and an admitted write makes the slot ENROLLED. -/
theorem enrollBuildEnds : Obligations.EnrollBuildEnds := by
  unfold Obligations.EnrollBuildEnds
  intro s code order key hp hbuild hl
  refine ⟨_, exec_event State.enrollBuildEnds hp, fun hheld => ?_, fun hfree hcount hreserve => ?_⟩
  · have hend : s.enrollBuildEnds = (s.setBuild none).setFlag .enrollFailed := by
      unfold State.enrollBuildEnds
      rw [hbuild]
      exact if_pos (by simp [hheld])
    rw [hend]
    exact ⟨State.sameExcept.settled (by simp [State.sameExcept_iff, State.setBuild, State.setFlag]), rfl, rfl⟩
  · obtain ⟨r, hoffer, hcfg, hadmits, hsends, -⟩ := State.offer_hasRoom (s := s.spendFresh) (k := .ordinary) (a := none)
      (w := .slt order.slot (enrolledRecord code order key s.freshCount)) (Stc.hasRoom_of_free hcount hreserve _)
    have hend : s.enrollBuildEnds = ((State.setBuild { s.spendFresh.setWorking
        (.slt order.slot (enrolledRecord code order key s.freshCount)) with stc := r } none).setFlag .enrollDone) := by
      unfold State.enrollBuildEnds
      rw [hbuild]
      refine (if_neg (by simp [hfree, hl])).trans ?_
      dsimp only
      rw [hoffer]
      rfl
    rw [hend]
    obtain ⟨e, he, hw⟩ := hsends.exists
    refine ⟨State.sameExcept.settled (by simp [State.sameExcept_iff, State.setBuild, State.setFlag, State.setWorking,
      State.spendFresh]), rfl, hadmits.cells, { digits := code, salt := s.freshCount }, rfl, rfl, rfl, e, he, ?_⟩
    rw [hw]
    exact congrArg (CellWrite.slt order.slot) (by simp [State.setBuild, State.setFlag, State.setWorking, State.spendFresh])

/-! ### The back-off (R80 to R82) -/

/-- The end of a back-off as one equation (R80). -/
theorem State.endBackoff_offers (s : State) : ∃ r, s.endBackoff =
      { s with atg := { s.atg with timer := none, bko := { s.atg.bko with active := none } }, stc := r,
               ppt := s.ppt.setFlag .holdoffEnded, enu := if s.enu.state = .holdoff then s.enu.toIdle else s.enu } ∧
    r.cfg = s.stc.cfg ∧ s.stc.Admits (.bko { s.atg.bko with active := none }) none r ∧
    (s.stc.hasRoom .bko → r.sends (.bko { s.atg.bko with active := none }) none) := by
  obtain ⟨r, hoffer, hcfg, hadmits, hsends, -⟩ :=
    State.offerGuard_eq { s with atg := { s.atg with timer := none } } (.bko { s.atg.bko with active := none }) none rfl
  refine ⟨r, ?_, hcfg, hadmits, hsends⟩
  unfold State.endBackoff
  dsimp only
  rw [hoffer]
  dsimp only [State.setWorking, State.setFlag]
  by_cases hholdoff : s.enu.state = .holdoff
  · rw [if_pos hholdoff]
    exact if_pos hholdoff
  · rw [if_neg hholdoff]
    exact if_neg hholdoff

theorem State.checkpoint_of_due {s : State} {x : BackoffTimer} {a : ActiveBackoff} (ht : s.atg.timer = some x)
    (ha : s.atg.bko.active = some a) (hdue : x.checkpointDue = true) :
    s.checkpoint = { s with atg := { s.atg with timer := some { x with checkpointed := lastMultiple x.elapsed } } }.offerGuard
      (.bko { s.atg.bko with active := some { a with elapsed := lastMultiple x.elapsed } }) none := by
  unfold State.checkpoint
  rw [ht, ha]
  exact if_pos hdue

theorem State.checkpoint_of_not_due {s : State} {x : BackoffTimer} (ht : s.atg.timer = some x)
    (hdue : x.checkpointDue = false) : s.checkpoint = s := by
  unfold State.checkpoint
  rw [ht]
  split
  · next y a hy ha =>
    cases hy
    exact if_neg (by simp [hdue])
  · rfl

/-- Settles O48: a checkpoint at a multiple of 100 ticks below the preset, and the end at the preset. -/
theorem backoffCourse : Obligations.BackoffCourse := by
  unfold Obligations.BackoffCourse
  intro s timer a hp ht ha
  refine ⟨fun hlawful hmultiple habove hlast hbelow => ?_, fun hnot => ?_, fun hbelow => ?_, fun hended hstate => ?_⟩
  · have hlastMultiple : lastMultiple timer.elapsed = timer.elapsed := by
      simp [lastMultiple, Config.checkpointTicks, hmultiple]
    have hdue : timer.checkpointDue = true :=
      Bool.and_eq_true_iff.mpr ⟨decide_eq_true (show timer.checkpointed + 100 ≤ timer.elapsed by omega),
        decide_eq_true (by rw [hlastMultiple]; exact hbelow)⟩
    obtain ⟨r, hoffer, hcfg, hadmits, hsends, -⟩ := State.offerGuard_eq
      { s with atg := { s.atg with timer := some { timer with checkpointed := timer.elapsed } } }
      (.bko { s.atg.bko with active := some { a with elapsed := timer.elapsed } }) none rfl
    have hcheckpoint := State.checkpoint_of_due ht ha hdue
    rw [hlastMultiple, hoffer] at hcheckpoint
    have hexec := exec_event (c := .backoffCheckpoint) State.checkpoint hp
    rw [hcheckpoint] at hexec
    exact ⟨_, hexec, State.sameExcept.settled (by simp [State.sameExcept_iff, State.setWorking]), rfl, hadmits.cells,
      (hsends (Stc.hasRoom_of_guard hlawful rfl)).exists⟩
  · have hdue : timer.checkpointDue = false :=
      Bool.and_eq_false_iff.mpr (hnot.imp
        (fun h => decide_eq_false (show ¬ timer.checkpointed + 100 ≤ timer.elapsed by omega))
        (fun h => decide_eq_false (show ¬ timer.elapsed - timer.elapsed % 100 < timer.preset by omega)))
    have hexec := exec_event (c := .backoffCheckpoint) State.checkpoint hp
    rw [State.checkpoint_of_not_due ht hdue] at hexec
    exact ⟨_, hexec, (State.sameExcept.refl s []).settled⟩
  · have hexec := exec_event (c := .backoffEnd) State.backoffExpiry hp
    rw [State.backoffExpiry, ht, if_neg (by simp [BackoffTimer.ended, hbelow])] at hexec
    exact ⟨_, hexec, (State.sameExcept.refl s []).settled⟩
  · have hexec := exec_event (c := .backoffEnd) State.backoffExpiry hp
    obtain ⟨r, hend, hcfg, hadmits, hsends⟩ := s.endBackoff_offers
    rw [State.backoffExpiry, ht, if_pos (by simp [BackoffTimer.ended, hended]), hend, if_pos hstate] at hexec
    exact ⟨_, hexec, State.sameExcept.settled (by simp [State.sameExcept_iff]), rfl, rfl, rfl, hadmits.cells,
      fun hlawful => (hsends (Stc.hasRoom_of_guard hlawful rfl)).exists⟩

/-! ### Lock events (R4 to R6) -/

section
variable {s : State} (reason : LockReason)

theorem State.lockEvent_unlocked (h : s.unlocked) : s.lockEvent reason = s.lockProcedure reason := by
  unfold State.lockEvent
  rcases h with h | h <;> rw [h]

theorem State.lockEvent_locked (h : s.lkc.lockState = some .locked) : s.lockEvent reason = s.lockedEvent reason := by
  unfold State.lockEvent
  rw [h]

theorem State.lockEvent_closed (hu : ¬ s.unlocked) (hl : s.lkc.lockState ≠ some .locked) : s.lockEvent reason = s := by
  unfold State.lockEvent
  split
  · next h => exact absurd (.inr h) hu
  · next h => exact absurd (.inl h) hu
  · next h => exact absurd h hl
  · rfl
  · rfl
  · rfl

/-- A lock event in LOCKED: the LOCK key and the LOCK request cancel a check, and an unwrap is marked (R6). -/
theorem State.lockedEvent_eq : s.lockedEvent reason = { s with
    enu := if reason = .key ∨ reason = .panel then s.enu.cancelled else s.enu,
    slt := { s.slt with unwrap := s.slt.unwrap.map (fun u => { u with discard := true }) } } := by
  unfold State.lockedEvent
  rw [State.cancelCheck_eq]
  by_cases hreason : reason = .key ∨ reason = .panel
  · rw [if_pos (by simpa using hreason), if_pos hreason]
    dsimp only
    split
    · next u hu => rw [hu, Option.map_some]
    · next hu => rw [hu, Option.map_none, ← hu]
  · rw [if_neg (by simpa using hreason), if_neg hreason]
    dsimp only
    split
    · next u hu => rw [hu, Option.map_some]
    · next hu => rw [hu, Option.map_none, ← hu]

/-- What a lock event can change. -/
theorem State.lockEvent_frame : ∃ e t l g c d q m p, s.lockEvent reason =
      { s with enu := e, slt := t, lkc := l, rgt := g, cxm := c, dqq := d, stc := q, mpt := m, ppt := p } ∧
    q.cells = s.stc.cells ∧ q.cfg = s.stc.cfg ∧ m.attached = s.mpt.attached ∧ m.capacity = s.mpt.capacity ∧
    s.ppt.sameButFlags [.locked] p ∧ (s.stc.lawful → q.lawful) := by
  have hkeeps : s.Keeps True True (s.lockEvent reason) := s.lockEvent_keeps reason
  by_cases hu : s.unlocked
  · obtain ⟨hcells, hcfg, hattached, hcapacity⟩ := s.lockedTables_spec reason
    rw [State.lockEvent_unlocked reason hu] at hkeeps ⊢
    rw [State.lockProcedure_tables] at hkeeps ⊢
    obtain ⟨ha, hc, -⟩ := Mpt.offerOrder_frame (s.lockedTables reason).mpt (.state .locked)
    exact ⟨_, _, _, _, _, _, _, _, _, rfl, hcells, hcfg, ha.trans hattached, hc.trans hcapacity,
      (Ppt.sameButFlags.refl _ _).setFlag (by simp), hkeeps.store⟩
  · by_cases hl : s.lkc.lockState = some .locked
    · rw [State.lockEvent_locked reason hl, State.lockedEvent_eq]
      exact ⟨_, _, _, _, _, _, _, _, _, rfl, rfl, rfl, rfl, rfl, .refl _ _, id⟩
    · rw [State.lockEvent_closed reason hu hl]
      exact ⟨_, _, _, _, _, _, _, _, _, rfl, rfl, rfl, rfl, rfl, .refl _ _, id⟩

end

/-! ### The supply warning (R82, R183) -/

theorem Atg.exactRecord_of {x : Atg} {a : ActiveBackoff} {t : BackoffTimer} (ha : x.bko.active = some a)
    (ht : x.timer = some t) : x.exactRecord = some { a with elapsed := t.elapsed } := by
  unfold Atg.exactRecord
  rw [ha, ht]

/-- The effects of a falling edge after store-ready: SUPPLY, a lock event, and PFW-seen with the exact elapsed value. -/
theorem State.pfwEffects_offers (s : State) : ∃ r, s.pfwEffects =
      { ((s.setFlag .supply).lockEvent .supply) with
        atg := { s.atg with bko := { active := s.atg.exactRecord, pfwSeen := true } }, stc := r } ∧
    (s.stc.lawful → r.sends (.bko { active := s.atg.exactRecord, pfwSeen := true }) none) ∧
    ((s.setFlag .supply).lockEvent .supply).stc.Admits (.bko { active := s.atg.exactRecord, pfwSeen := true }) none r ∧
    (s.ppt.setFlag .supply).sameButFlags [.locked] ((s.setFlag .supply).lockEvent .supply).ppt := by
  obtain ⟨e, t, l, g, c, d, q, m, p, hlock, hcells, hcfg, -, -, hp, hlawful⟩ :=
    State.lockEvent_frame (s := s.setFlag .supply) .supply
  obtain ⟨r, hoffer, hrcfg, hadmits, hsends, -⟩ := State.offerGuard_eq ((s.setFlag .supply).lockEvent .supply)
    (.bko { active := s.atg.exactRecord, pfwSeen := true }) none rfl
  have hatg : ((s.setFlag .supply).lockEvent .supply).atg = s.atg := by rw [hlock]; rfl
  refine ⟨r, ?_, fun h => hsends (Stc.hasRoom_of_guard ?_ rfl), hadmits, ?_⟩
  · unfold State.pfwEffects State.pfwRecord
    rw [hatg, hoffer]
    dsimp only [State.setWorking]
    rw [hatg]
  · rw [hlock]
    exact hlawful h
  · rw [hlock]
    exact hp

/-- Settles O49: a falling edge after store-ready takes its effects, before it is marked pending, and a rise changes the
level alone. -/
theorem pfwEdgeRecorded : Obligations.PfwEdgeRecorded := by
  unfold Obligations.PfwEdgeRecorded
  intro s hp
  have hexec := exec_event (c := .pfwEdge) State.pfwEdge hp
  by_cases hlow : s.ppt.pfwLow = true
  · rw [State.pfwEdge, if_pos hlow] at hexec
    refine ⟨_, hexec, ?_, fun h => ?_, fun h => ?_, fun _ => ⟨State.sameExcept.settled (by simp [State.sameExcept_iff]), rfl⟩⟩
    · rw [hlow]
      rfl
    · rw [hlow] at h
      cases h
    · rw [hlow] at h
      cases h
  have hhigh : s.ppt.pfwLow = false := Bool.eq_false_iff.mpr hlow
  rw [State.pfwEdge, if_neg hlow, State.activeEdge] at hexec
  by_cases hready : s.stc.ready = true
  · rw [if_pos (by exact hready)] at hexec
    obtain ⟨r, heffects, hsends, -, hppt⟩ := State.pfwEffects_offers { s with ppt := { s.ppt with pfwLow := true } }
    rw [heffects] at hexec
    refine ⟨_, hexec, ?_, fun _ _ => ⟨?_, rfl, rfl, rfl, fun a x ha hx => Atg.exactRecord_of ha hx, fun h =>
      (hsends h).exists⟩, fun _ h => ?_, fun h => ?_⟩
    · rw [hhigh]
      exact (congrArg Ppt.pfwLow hppt.1)
    · exact (hppt.2 .supply (by simp)).trans (by simp)
    · rw [hready] at h
      cases h
    · exact absurd h hlow
  · rw [if_neg (by exact hready)] at hexec
    exact ⟨_, hexec, by rw [hhigh]; rfl, fun _ h => absurd h hready,
      fun _ _ => ⟨State.sameExcept.settled (by simp [State.sameExcept_iff]), rfl⟩, fun h => absurd h hlow⟩

end Sys2Proof.Machine
end

section
/-! SUPPORT. The failure decision, the refund and the retirement as equations (R53, R72, R74, R78). -/

namespace Sys2Proof.Machine

set_option Elab.async false

/-! ### Offers to a lawful store -/

section
variable {s : State}

theorem State.setWorking_lawful (w : CellWrite) (h : s.stc.lawful) : (s.setWorking w).stc.lawful := by
  cases w <;> exact h

theorem State.offer_lawful (k : OfferKind) (w : CellWrite) (a : Option Awaiter) (h : s.stc.lawful) :
    (s.offer k w a).1.stc.lawful := by
  unfold State.offer
  split
  · next q hq =>
    have hset : (State.setWorking { s with stc := q } w).stc.lawful :=
      State.setWorking_lawful w (Stc.admission_lawful h hq)
    rcases State.takeNext_eq (State.setWorking { s with stc := q } w) with ht | ht
    · rw [ht]
      exact hset
    · rw [ht]
      exact Stc.take_lawful hset
  · exact h

/-- A guard-group offer to a lawful store (R163). -/
theorem State.offerGuard_lawful (w : CellWrite) (a : Option Awaiter) (hg : w.cell.isGuard = true) (h : s.stc.lawful) :
    ∃ r, s.offerGuard w a = { s.setWorking w with stc := r } ∧ r.cfg = s.stc.cfg ∧ s.stc.Admits w a r ∧
      r.sends w a ∧ r.lawful := by
  obtain ⟨r, hoffer, hcfg, hadmits, hsends, -⟩ := State.offerGuard_eq s w a hg
  have hl : (s.offerGuard w a).stc.lawful := State.offer_lawful .ordinary w a h
  rw [hoffer] at hl
  exact ⟨r, hoffer, hcfg, hadmits, hsends (Stc.hasRoom_of_guard h hg), hl⟩

end

/-! ### The failure decision (R74) -/

theorem State.Erases.counter {s t : State} (h : s.Erases t) : t.atg.counter = s.atg.counter := by rw [h.atg]

theorem backoffPreset_pos {c : Settings} (n : Nat) (hB : 0 < c.B) (hC : 0 < c.C) : 0 < backoffPreset c n := by
  have hseconds : 0 < backoffSeconds c n := by
    unfold backoffSeconds
    dsimp only
    split
    · exact hC
    · exact Nat.lt_min.mpr ⟨Nat.mul_pos hB (Nat.two_pow_pos _), hC⟩
  unfold backoffPreset
  omega

section
variable (s : State)

/-- A back-off that begins below its preset (R78). -/
theorem State.startBackoff_offers (n elapsed : Nat) (h : elapsed < backoffPreset s.stc.cfg n) :
    ∃ r, s.startBackoff n elapsed =
      { s with
        atg := { s.atg with
          timer := some { elapsed := elapsed, preset := backoffPreset s.stc.cfg n, phase := 0,
                          checkpointed := lastMultiple elapsed },
          bko := { s.atg.bko with active := some { count := n, elapsed := elapsed } } },
        stc := r, enu := { s.enu.toIdle with state := .holdoff } } ∧ r.cfg = s.stc.cfg ∧
      s.stc.Admits (.bko { s.atg.bko with active := some { count := n, elapsed := elapsed } }) none r ∧
      (s.stc.hasRoom .bko → r.sends (.bko { s.atg.bko with active := some { count := n, elapsed := elapsed } }) none) := by
  obtain ⟨r, hoffer, hcfg, hadmits, hsends, -⟩ := State.offerGuard_eq
    { s with atg := { s.atg with timer := some { elapsed := elapsed, preset := backoffPreset s.stc.cfg n, phase := 0,
                                                 checkpointed := lastMultiple elapsed } } }
    (.bko { s.atg.bko with active := some { count := n, elapsed := elapsed } }) none rfl
  refine ⟨r, ?_, hcfg, hadmits, hsends⟩
  unfold State.startBackoff
  dsimp only
  rw [hoffer, if_neg (Nat.not_le.mpr h)]
  rfl

/-- The state in which the failure decision counts: the check over, the entry copy gone, ATTEMPT_FAILED set. -/
def State.failed : State :=
  { s with atg := { s.atg with check := none }, slt := { s.slt with verification := none },
           ppt := s.ppt.setFlag .attemptFailed }

theorem State.failureDecision_wipes (h : s.stc.cfg.W ≤ s.atg.counter) : s.failureDecision = s.failed.eraseStart :=
  if_pos h

theorem State.failureDecision_backs_off (hW : s.atg.counter < s.stc.cfg.W) (hF : s.stc.cfg.F < s.atg.counter) :
    s.failureDecision = s.failed.startBackoff s.atg.counter 0 :=
  (if_neg (Nat.not_le.mpr hW)).trans (if_pos hF)

theorem State.failureDecision_frees (hW : s.atg.counter < s.stc.cfg.W) (hF : s.atg.counter ≤ s.stc.cfg.F) :
    s.failureDecision = s.failed.leaveChecking :=
  (if_neg (Nat.not_le.mpr hW)).trans (if_neg (Nat.not_lt.mpr hF))

end

/-! ### The refund and the retirement -/

/-- The refund, at a lawful store (R72). -/
theorem State.refund_offers {s : State} (hl : s.stc.lawful) : ∃ r, s.refund =
      { s with
        atg := { s.atg with
          counter := 0, check := s.atg.check.map CheckInProgress.toRefunding, bko := { s.atg.bko with active := none },
          timer := if s.atg.bko.active.isSome then none else s.atg.timer },
        stc := r } ∧
    r.cells = s.stc.cells ∧ r.cfg = s.stc.cfg ∧ r.sends (.att 0) (some .refund) ∧
    (s.atg.bko.active.isSome = true → r.sends (.bko { s.atg.bko with active := none }) none) := by
  obtain ⟨q, hatt, hqcfg, hqadmits, hqsends, hqlawful⟩ := State.offerGuard_lawful
    (s := { s with atg := { s.atg with check := s.atg.check.map CheckInProgress.toRefunding } }) (.att 0)
    (some .refund) rfl hl
  unfold State.refund
  dsimp only
  rw [hatt]
  by_cases hactive : s.atg.bko.active.isSome = true
  · obtain ⟨r, hbko, hrcfg, hradmits, hrsends, -⟩ := State.offerGuard_lawful
      (s := { s with atg := { s.atg with check := s.atg.check.map CheckInProgress.toRefunding, counter := 0, timer := none },
                     stc := q }) (.bko { s.atg.bko with active := none }) none rfl hqlawful
    refine ⟨r, ?_, hradmits.cells.trans hqadmits.cells, hrcfg.trans hqcfg, hradmits.sends nofun hqsends,
      fun _ => hrsends⟩
    rw [if_pos hactive]
    refine (if_pos (by exact hactive)).trans (hbko.trans ?_)
    rfl
  · have hnone : s.atg.bko.active = none := by simpa using hactive
    refine ⟨q, ?_, hqadmits.cells, hqcfg, hqsends, fun h => absurd h hactive⟩
    rw [if_neg hactive]
    refine (if_neg (by exact hactive)).trans ?_
    simp [State.setWorking, ← hnone]

/-- The retirement: the record is RETIRED, and its write admitted or held (R53). -/
theorem State.retire_offers (s : State) (k : SlotIx) (i : SlotInfo) : ∃ r held, s.retire k i =
      { s with slt := { s.slt with slots := s.slt.slots.set k (.retired i), heldRetirement := held }, stc := r } ∧
    r.cells = s.stc.cells ∧
    (s.stc.hasRoom (.slt k) → held = s.slt.heldRetirement ∧ r.sends (.slt k (.retired i)) (some .retirement)) ∧
    (s.stc.admission .ordinary { write := .slt k (.retired i), awaiter := some .retirement } = none →
      held = some k ∧ r = s.stc) := by
  unfold State.retire
  cases hadm : s.stc.admission .ordinary { write := .slt k (.retired i), awaiter := some .retirement } with
  | none =>
    dsimp only
    rw [State.offer_of_refusal hadm]
    refine ⟨s.stc, some k, rfl, rfl, fun hroom => ?_, fun _ => ⟨rfl, rfl⟩⟩
    obtain ⟨q, hq, -⟩ := Stc.admission_hasRoom (k := .ordinary)
      (e := { write := .slt k (.retired i), awaiter := some .retirement }) hroom
    rw [hadm] at hq
    cases hq
  | some q =>
    obtain ⟨r, hoffer, -, hadmits, -, -⟩ := State.offer_of_admission hadm
    refine ⟨r, s.slt.heldRetirement, ?_, hadmits.cells, fun hroom => ⟨rfl, ?_⟩, fun h => nomatch h⟩
    · dsimp only
      rw [hoffer]
      rfl
    · obtain ⟨r', hoffer', -, -, hsends, -⟩ := State.offer_hasRoom (s := s) (k := .ordinary) (a := some .retirement)
        (w := .slt k (.retired i)) hroom
      rw [hoffer] at hoffer'
      rw [show r = r' from congrArg (fun p : State × Bool => p.1.stc) hoffer']
      exact hsends

/-! ### The end of a verification (R50 to R52) -/

theorem SlotRecord.hasVerifier_iff {r : SlotRecord} {v : Verifier} : r.hasVerifier v = true ↔ ∃ i w, r = .enrolled i v w := by
  cases r with
  | enrolled i x w => simp [SlotRecord.hasVerifier]
  | _ => simp [SlotRecord.hasVerifier]

section
variable {slots : Vector SlotRecord 5} {snap : List SnapSlot} {digits : List Digit}

/-- The matched slot is the first of the snapshot that matches. -/
theorem matchedSlot_eq_some {e : SnapSlot} : matchedSlot slots snap digits = some e ↔
    slotMatches slots digits e ∧ ∃ before after, snap = before ++ e :: after ∧ ∀ b ∈ before, ¬ slotMatches slots digits b := by
  have hmatch (x : SnapSlot) : (decide (x.codeLength = digits.length) && verifierAccepts x.verifier digits &&
      slots[x.slot].hasVerifier x.verifier) = true ↔ slotMatches slots digits x := by
    rw [Bool.and_eq_true, Bool.and_eq_true, decide_eq_true_eq, SlotRecord.hasVerifier_iff, and_assoc]
    rfl
  unfold matchedSlot
  rw [List.find?_eq_some_iff_append, hmatch]
  refine and_congr_right fun _ => exists_congr fun before => exists_congr fun after => and_congr_right fun _ =>
    forall₂_congr fun b _ => ?_
  rw [Bool.not_eq_true', Bool.eq_false_iff, ne_eq, hmatch]

end

section
variable {s : State} {digits : List Digit} {purpose : Purpose} {snap : List SnapSlot}

theorem State.verificationEnds_fails
    (hv : s.slt.verification = some { digits := digits, purpose := purpose, snapshot := some snap, voided := false })
    (hl : s.lkc.lockState ≠ some .erasing) (h : successSlot purpose (matchedSlot s.slt.slots snap digits) = none) :
    s.verificationEnds = s.dropVerification.failureDecision := by
  unfold State.verificationEnds
  rw [hv]
  refine (if_neg (by simp [State.dropVerification, hl])).trans ?_
  dsimp only [State.dropVerification]
  rw [h]

/-- The state with the entry copy gone and the match hold filled. -/
def State.matched (s : State) (digits : List Digit) (x : Verifier) (k : Wrapped) (slot : SlotIx) : State :=
  { s with slt := { s.slt with
      verification := none, matchHold := some { codeKey := codeKeyFor x digits, wrapped := k, slot := slot } } }

theorem State.verificationEnds_succeeds {e : SnapSlot} {i : SlotInfo} {x : Verifier} {k : Wrapped}
    (hv : s.slt.verification = some { digits := digits, purpose := purpose, snapshot := some snap, voided := false })
    (hl : s.lkc.lockState ≠ some .erasing) (h : successSlot purpose (matchedSlot s.slt.slots snap digits) = some e)
    (hslot : s.slt.slots[e.slot] = .enrolled i x k) :
    s.verificationEnds = if purpose = .unlock ∧ i.once = true then (s.matched digits x k e.slot).retire e.slot i
      else (s.matched digits x k e.slot).refund := by
  unfold State.verificationEnds
  rw [hv]
  refine (if_neg (by simp [State.dropVerification, hl])).trans ?_
  dsimp only [State.dropVerification]
  rw [h]
  dsimp only [State.fillHold]
  rw [hslot]
  dsimp only
  rw [hslot]
  dsimp only [State.matched]
  by_cases hr : purpose = .unlock ∧ i.once = true
  · rw [if_pos hr, if_pos (by simpa using hr)]
  · rw [if_neg hr, if_neg (by simpa using hr)]

end

/-- Settles O42: no slot succeeds, and the counter decides. -/
theorem verificationFails : Obligations.VerificationFails := by
  unfold Obligations.VerificationFails
  rintro s ⟨digits, purpose, snapshot, voided⟩ snap hp hv hsnap hvoided hl hno hstate hB hC
  dsimp only at hsnap hvoided hno
  subst hsnap hvoided
  have hnone : successSlot purpose (matchedSlot s.slt.slots snap digits) = none := by
    cases hm : matchedSlot s.slt.slots snap digits with
    | none => cases purpose <;> rfl
    | some e =>
      obtain ⟨hmatch, before, after, hsplit, hbefore⟩ := matchedSlot_eq_some.mp hm
      obtain ⟨hadmin, hzero⟩ := hno before after e hsplit hmatch hbefore
      rw [hadmin]
      exact if_neg hzero
  have hend := State.verificationEnds_fails hv hl hnone
  have hexec := exec_event (c := .verificationComplete) State.verificationEnds hp
  rw [hend] at hexec
  rcases Nat.lt_or_ge s.atg.counter s.stc.cfg.W with hW | hW
  · rcases Nat.lt_or_ge s.stc.cfg.F s.atg.counter with hF | hF
    · obtain ⟨r, hstart, -, -, hsends⟩ := State.startBackoff_offers s.dropVerification.failed
        s.dropVerification.atg.counter 0 (backoffPreset_pos _ hB hC)
      rw [State.failureDecision_backs_off s.dropVerification hW hF, hstart] at hexec
      exact ⟨_, hexec, (Ppt.isPending_setFlag _ _ _).trans (by simp), rfl, rfl, rfl, fun h => absurd hW (Nat.not_lt.mpr h),
        fun _ => ⟨rfl, rfl, fun h => absurd hF (Nat.not_lt.mpr h), fun _ =>
          ⟨State.sameExcept.settled (by simp [State.sameExcept_iff, State.failed, State.dropVerification]), rfl, rfl, rfl,
            fun hlawful => (hsends (Stc.hasRoom_of_guard hlawful rfl)).exists⟩⟩⟩
    · rw [State.failureDecision_frees s.dropVerification hW hF, State.leaveChecking_eq] at hexec
      refine ⟨_, hexec, (Ppt.isPending_setFlag _ _ _).trans (by simp), rfl, rfl, rfl, fun h => absurd hW (Nat.not_lt.mpr h),
        fun _ => ⟨rfl, rfl, fun _ =>
          ⟨State.sameExcept.settled (by simp [State.sameExcept_iff, State.failed, State.dropVerification]), ?_, rfl⟩,
          fun h => absurd h (Nat.not_lt.mpr hF)⟩⟩
      show (ite (s.enu.state = .checking) s.enu.toIdle s.enu).state = .idle
      rw [if_pos hstate]
      rfl
  · rw [State.failureDecision_wipes s.dropVerification hW] at hexec
    have h := s.dropVerification.failed.eraseStart_erases
    generalize s.dropVerification.failed.eraseStart = u at h hexec
    refine ⟨_, hexec, ?_, h.verification rfl, h.counter, h.check rfl, fun _ => ⟨?_, ?_, ?_, ?_, h.started, fun hlawful => ?_⟩,
      fun hlt => absurd hlt (Nat.not_lt.mpr hW)⟩
    · exact (h.flags.2 .attemptFailed (by simp)).trans (by simp [State.failed])
    · exact congrArg Lkc.lockState h.lkc
    · exact congrArg Enu.state h.enu
    · exact congrArg Ere.awaited h.ere
    · exact congrArg Ere.journal h.ere
    · rw [show u.settleStandby.ere.journal = _ from congrArg Ere.journal h.ere]
      exact (h.sends (Stc.hasRoom_of_guard hlawful rfl)).exists

/-- Settles O43: the first slot that matches succeeds, and its refund or its retirement is offered. -/
theorem verificationSucceeds : Obligations.VerificationSucceeds := by
  unfold Obligations.VerificationSucceeds
  constructor
  · rintro s ⟨digits, purpose, snapshot, voided⟩ before after e i x k hp hlawful hv hsnap hvoided hl hmatch hbefore hpurpose
      hslot
    dsimp only at hsnap hvoided hmatch hbefore hpurpose
    subst hsnap hvoided
    have hsome : successSlot purpose (matchedSlot s.slt.slots (before ++ e :: after) digits) = some e := by
      rw [matchedSlot_eq_some.mpr ⟨hmatch, before, after, rfl, hbefore⟩]
      rcases hpurpose with hunlock | ⟨hadmin, hzero⟩
      · rw [hunlock]
        rfl
      · rw [hadmin]
        exact if_pos hzero
    have hexec := exec_event (c := .verificationComplete) State.verificationEnds hp
    rw [State.verificationEnds_succeeds hv hl hsome hslot] at hexec
    by_cases honce : purpose = .unlock ∧ i.once = true
    · obtain ⟨r, held, hretire, hcells, hroom, hrefused⟩ := (s.matched digits x k e.slot).retire_offers e.slot i
      rw [if_pos honce, hretire] at hexec
      refine ⟨_, hexec, rfl, rfl, rfl, hcells, fun h => ?_, fun _ _ => ⟨State.sameExcept.settled (by
        simp [State.sameExcept_iff, State.matched]), rfl, fun hcount hreserve => ?_, fun hfull hqueue hreserve => ?_⟩⟩
      · rcases h with h | h
        · exact absurd (honce.1.symm.trans h) (by decide)
        · exact absurd (honce.2.symm.trans h) (by decide)
      · obtain ⟨hheld, hsends⟩ := hroom (Stc.hasRoom_of_free hcount hreserve _)
        exact ⟨hheld, hsends.awaited⟩
      · exact hrefused (Stc.admission_refused rfl (.inl hfull) hqueue hreserve)
    · obtain ⟨r, hrefund, hcells, -, hatt, hbko⟩ := State.refund_offers (s := s.matched digits x k e.slot) hlawful
      rw [if_neg honce, hrefund] at hexec
      exact ⟨_, hexec, rfl, rfl, rfl, hcells, fun _ => ⟨State.sameExcept.settled (by
        simp [State.sameExcept_iff, State.matched]), rfl, rfl, hatt.awaited, fun h => (hbko h).exists⟩,
        fun h h' => absurd ⟨h, h'⟩ honce⟩
  · intro s w r k record c hp hlawful hr hw hentry hends hc hbuild hretire
    obtain ⟨q, hrefund, -, -, hatt, -⟩ := State.refund_offers (s := s.afterWrite w r) hlawful
    have htell : (s.afterWrite w r).tellEnd w.entry (decide (r = .agrees)) = (s.afterWrite w r).refund := by
      rw [State.tellEnd_retirement (by rw [hentry])]
      exact if_pos (by simp [State.afterWrite, hc])
    obtain ⟨p, hexec, htakes⟩ := exec_storeWriteEnd_quiet hp hr hw hends (htell.trans hrefund) hretire hbuild
    refine ⟨_, hexec, State.sameExcept.settled (by simp [State.sameExcept_iff, State.afterWrite]), rfl, ?_,
      (htakes.sends hatt).awaited⟩
    show ({ s.atg with
      counter := 0, check := s.atg.check.map CheckInProgress.toRefunding, bko := { s.atg.bko with active := none },
      timer := if s.atg.bko.active.isSome then none else s.atg.timer } : Atg) = _
    rw [hc]
    rfl

end Sys2Proof.Machine
end

section
/-! SUPPORT. The end of an entry (R34 to R37, R69, R71, R74). -/

namespace Sys2Proof.Machine

set_option Elab.async false

/-! ### Idle entry units -/

theorem Enu.atIdle_toIdle (e : Enu) : e.toIdle.atIdle := ⟨rfl, rfl, rfl, rfl, rfl, rfl, rfl, rfl⟩

/-! ### A key event -/

section
variable {s : State} {l : LockState}

/-- What the entry unit does with a key event where the lock state is present and not ERASING (R30). -/
def State.presentKey (s : State) (l : LockState) (e : KeyEvent) : State :=
  match s.enu.state with
  | .idle => s.idleKey l e
  | .collecting => s.collectingKey e
  | .checking | .holdoff => if e = .lock then s.lockEvent .key else s

theorem State.keyEvent_present (e : KeyEvent) (hl : s.lkc.lockState = some l) (he : l ≠ .erasing) :
    s.keyEvent e = s.restartStandby.presentKey l e := by
  have hlock : s.restartStandby.lkc.lockState = some l := hl
  unfold State.keyEvent
  dsimp only
  rw [hlock]
  cases l with
  | erasing => exact absurd rfl he
  | _ => rfl

theorem State.keyEvent_absent (e : KeyEvent) (h : s.lkc.lockState = none ∨ s.lkc.lockState = some .erasing) :
    s.keyEvent e = s.restartStandby := by
  have hlock : s.restartStandby.lkc.lockState = s.lkc.lockState := rfl
  unfold State.keyEvent
  dsimp only
  rw [hlock]
  rcases h with h | h <;> rw [h]

theorem State.presentKey_idle (e : KeyEvent) (h : s.enu.state = .idle) : s.presentKey l e = s.idleKey l e := by
  unfold State.presentKey
  rw [h]

theorem State.presentKey_collecting (e : KeyEvent) (h : s.enu.state = .collecting) :
    s.presentKey l e = s.collectingKey e := by
  unfold State.presentKey
  rw [h]

theorem State.presentKey_busy (e : KeyEvent) (h : s.enu.state = .checking ∨ s.enu.state = .holdoff) :
    s.presentKey l e = if e = .lock then s.lockEvent .key else s := by
  unfold State.presentKey
  rcases h with h | h <;> rw [h]

/-- The state in which the entry unit takes a key event, the scanner as `k` (R44). -/
def State.keyTaken (s : State) (k : Ksc) : State := (s.setKsc k).restartStandby

/-- The pairing window's end is the held key's event (R28). -/
theorem State.pairingExpiry_eq {key : PadKey} (hchord : s.ksc.chord = .pairing)
    (hreached : s.ksc.pairingTimer.reached 20 = true) (hheld : s.ksc.held = some key) :
    s.pairingExpiry = (s.setKsc { s.ksc with chord := .none, pairingTimer := .stopped }).keyEvent (eventOf key) := by
  have hdue : s.ksc.pairingDue = true := Bool.and_eq_true_iff.mpr ⟨decide_eq_true hchord, hreached⟩
  unfold State.pairingExpiry
  rw [if_pos hdue]
  dsimp only
  split
  · next held hsome => rw [Option.some.inj (hsome.symm.trans hheld)]
  · next hnone => cases hnone.symm.trans hheld

end

/-! ### The end of an entry -/

section
variable {s : State}

theorem State.abandonEntry_eq (s : State) : s.abandonEntry =
    { s with ppt := if isEnrollment s.enu.purpose then s.ppt.setFlag .enrollFailed else s.ppt, enu := s.enu.toIdle } := by
  unfold State.abandonEntry
  rw [State.setFlagIf_eq]
  split <;> rfl

theorem isEnrollment_some (p : Purpose) : isEnrollment (some p) = true ↔ p = .enroll1 ∨ p = .enroll2 := by
  cases p <;> simp [isEnrollment]

theorem State.endEntry_refused (h : s.enu.buffer.length < 6 ∨ s.enu.overlong = true) : s.endEntry = s.abandonEntry :=
  if_pos (Bool.or_eq_true_iff.mpr (h.imp_left fun hlength => decide_eq_true hlength))

/-- What an entry of an allowed length comes to, by its purpose (R35 to R37). -/
def State.endAllowed (s : State) : State :=
  match s.enu.purpose with
  | some .unlock => s.enterChecking .unlock
  | some .admin => s.enterChecking .admin
  | some .enroll1 => { s with enu := s.enu.toConfirm }
  | some .enroll2 => s.endEnroll
  | none => s.abandonEntry

theorem State.endEntry_allowed (h : 6 ≤ s.enu.buffer.length) (ho : s.enu.overlong = false) : s.endEntry = s.endAllowed :=
  if_neg fun hrefused => (Bool.or_eq_true_iff.mp hrefused).elim
    (fun hlength => absurd (of_decide_eq_true hlength) (Nat.not_lt.mpr h)) (fun hover => by simp [ho] at hover)

theorem State.endAllowed_charges {p : Purpose} (hpurpose : s.enu.purpose = some p) (hp : p = .unlock ∨ p = .admin) :
    s.endAllowed = s.enterChecking p := by
  unfold State.endAllowed
  rw [hpurpose]
  rcases hp with rfl | rfl <;> rfl

theorem State.endAllowed_enroll1 (hpurpose : s.enu.purpose = some .enroll1) :
    s.endAllowed = { s with enu := s.enu.toConfirm } := by
  unfold State.endAllowed
  rw [hpurpose]

theorem State.endAllowed_enroll2 (hpurpose : s.enu.purpose = some .enroll2) : s.endAllowed = s.endEnroll := by
  unfold State.endAllowed
  rw [hpurpose]

/-- The state whose charge an entry makes: the code in the verification workspace, the unit in CHECKING (R35). -/
def State.submitted (s : State) (p : Purpose) : State :=
  { s with slt := { s.slt with
             verification := some { digits := s.enu.buffer, purpose := p, snapshot := none, voided := false } },
           enu := { s.enu.toIdle with state := .checking, purpose := some p } }

theorem State.enterChecking_eq (p : Purpose) : s.enterChecking p = (s.submitted p).charge p := rfl

theorem State.charge_faulty (p : Purpose) (h : s.atg.attFaulty = true) : s.charge p = (s.setFlag .storeFault).chargeFails :=
  if_pos h

theorem State.charge_wipes (p : Purpose) (h : s.atg.attFaulty = false) (hW : s.stc.cfg.W ≤ s.atg.counter) :
    s.charge p = s.failureDecision := by
  unfold State.charge
  rw [if_neg (by simp [h]), if_pos hW]

/-- A charge that is made raises the counter, its write on its way (R69). -/
theorem State.charge_offers (p : Purpose) (hl : s.stc.lawful) (h : s.atg.attFaulty = false)
    (hW : s.atg.counter < s.stc.cfg.W) : ∃ r, s.charge p =
      { s with atg := { s.atg with counter := s.atg.counter + 1, check := some { purpose := p, step := .charging } },
               stc := r } ∧ r.cells = s.stc.cells ∧ r.sends (.att (s.atg.counter + 1)) (some .charge) := by
  obtain ⟨r, hoffer, -, hadmits, hsends, -⟩ := State.offerGuard_lawful
    (s := { s with atg := { s.atg with check := some { purpose := p, step := .charging } } })
    (.att (s.atg.counter + 1)) (some .charge) rfl hl
  refine ⟨r, ?_, hadmits.cells, hsends⟩
  unfold State.charge
  rw [if_neg (by simp [h]), if_neg (Nat.not_le.mpr hW), hoffer]
  rfl

/-- A check that its charge fails (R71). -/
theorem State.chargeFails_eq (s : State) : s.chargeFails =
    { s with atg := { s.atg with check := none }, slt := { s.slt with verification := none },
             enu := if s.enu.state = .checking then s.enu.toIdle else s.enu } := by
  unfold State.chargeFails
  rw [State.leaveChecking_eq]
  rfl

/-! ### The confirmation of a code (R37) -/

theorem State.endEnroll_refused {order : EnrollOrder} (horder : s.enu.order = some order)
    (h : s.enu.buffer ≠ s.enu.confirm ∨ (s.lkc.lockState ≠ some .blank ∧ s.lkc.session = false)) :
    s.endEnroll = s.abandonEntry := by
  unfold State.endEnroll
  rw [horder]
  refine if_neg ?_
  rcases h with h | ⟨hl, hsession⟩
  · simp [h]
  · simp [hl, hsession]

theorem State.endEnroll_first {order : EnrollOrder} (horder : s.enu.order = some order)
    (hcode : s.enu.buffer = s.enu.confirm) (hl : s.lkc.lockState = some .blank) :
    s.endEnroll = { s with enu := s.enu.toIdle, slt := { s.slt with build := some (.firstBuilding s.enu.buffer) } } := by
  unfold State.endEnroll
  rw [horder]
  exact (if_pos (by simp [hcode, hl])).trans (if_pos hl)

theorem State.endEnroll_session {order : EnrollOrder} {key : Key} (horder : s.enu.order = some order)
    (hcode : s.enu.buffer = s.enu.confirm) (hl : s.lkc.lockState ≠ some .blank) (hsession : s.lkc.session = true)
    (hkey : s.slt.driveKey = some key) : s.endEnroll =
      { s with enu := s.enu.toIdle, slt := { s.slt with build := some (.enrolling s.enu.buffer order key false) } } := by
  unfold State.endEnroll
  rw [horder]
  refine (if_pos (by simp [hcode, hsession])).trans ((if_neg hl).trans ?_)
  unfold State.startEnrollment
  rw [show ({ s with enu := s.enu.toIdle } : State).slt.driveKey = some key from hkey]

/-- Whatever the confirmation comes to, the unit is IDLE, and the scanner stands. -/
theorem State.endEnroll_idle (s : State) : s.endEnroll.enu.atIdle ∧ s.endEnroll.ksc = s.ksc := by
  unfold State.endEnroll
  dsimp only
  split
  · split
    · split
      · exact ⟨s.enu.atIdle_toIdle, rfl⟩
      · unfold State.startEnrollment
        split <;> exact ⟨s.enu.atIdle_toIdle, rfl⟩
    · exact ⟨s.enu.atIdle_toIdle, rfl⟩
  · exact ⟨s.enu.atIdle_toIdle, rfl⟩

theorem State.charge_ksc (p : Purpose) (hl : s.stc.lawful) : (s.charge p).ksc = s.ksc := by
  by_cases hfaulty : s.atg.attFaulty = true
  · rw [State.charge_faulty p hfaulty, State.chargeFails_eq]
    rfl
  have hclear := Bool.eq_false_iff.mpr hfaulty
  rcases Nat.lt_or_ge s.atg.counter s.stc.cfg.W with hW | hW
  · obtain ⟨r, hcharge, -⟩ := State.charge_offers p hl hclear hW
    rw [hcharge]
  · rw [State.charge_wipes p hclear hW, State.failureDecision_wipes s hW]
    exact s.failed.eraseStart_erases.rest.1

theorem State.endEntry_ksc (hl : s.stc.lawful) : s.endEntry.ksc = s.ksc := by
  unfold State.endEntry
  split
  · rfl
  · split
    · exact State.charge_ksc .unlock (by exact hl)
    · exact State.charge_ksc .admin (by exact hl)
    · rfl
    · exact s.endEnroll_idle.2
    · rfl

end

/-- Settles O38: the pairing window's end is UNLOCK's key event, and the length, the purpose and the counter decide what
the entry comes to. -/
theorem entryEndsInCharge : Obligations.EntryEndsInCharge := by
  unfold Obligations.EntryEndsInCharge
  intro s p l hp hlawful hchord hreached hheld hl herasing hstate hpurpose
  have hexec := exec_event (c := .pairingTimerExpiry) State.pairingExpiry hp
  set v : State := s.keyTaken { s.ksc with chord := .none, pairingTimer := .stopped } with hv
  have hkey : (s.setKsc { s.ksc with chord := .none, pairingTimer := .stopped }).keyEvent .unlock = v.endEntry :=
    (State.keyEvent_present (s := s.setKsc { s.ksc with chord := .none, pairingTimer := .stopped }) .unlock hl herasing).trans (State.presentKey_collecting (s := v) _ hstate)
  rw [State.pairingExpiry_eq hchord hreached hheld, eventOf, hkey] at hexec
  have hbase : s.sameExcept v [.ksc] := by
    simp [State.sameExcept_iff, hv, State.keyTaken, State.restartStandby, State.setKsc, Enu.sameEntry]
  have hframe {t : State} {L : List Block} (h : v.sameExcept t L) : s.sameExcept t.settleStandby (.ksc :: L) :=
    (hbase.trans h).settled
  refine ⟨v.endEntry.settleStandby, hexec, (State.endEntry_ksc (by exact hlawful)).trans rfl, fun hrefused => ?_,
    fun hlength hover hcharge => ?_, fun hlength hover hfirst => ?_, fun hlength hover hsecond order horder => ?_⟩
  · rw [State.endEntry_refused (by exact hrefused), State.abandonEntry_eq]
    refine ⟨hframe (by simp [State.sameExcept_iff]), v.enu.atIdle_toIdle, ?_⟩
    show (if isEnrollment s.enu.purpose then s.ppt.setFlag .enrollFailed else s.ppt) = _
    rw [hpurpose]
    exact ite_congr (propext (isEnrollment_some p)) (fun _ => rfl) (fun _ => rfl)
  · rw [State.endEntry_allowed (by exact hlength) (by exact hover), State.endAllowed_charges (by exact hpurpose) hcharge,
      State.enterChecking_eq]
    refine ⟨fun hfaulty => ?_, fun hclear hW => ?_, fun hclear hW => ?_⟩
    · rw [State.charge_faulty p (by exact hfaulty), State.chargeFails_eq]
      exact ⟨hframe (by simp [State.sameExcept_iff, State.submitted]), (v.submitted p).enu.atIdle_toIdle, rfl, rfl, rfl⟩
    · rw [State.charge_wipes p (by exact hclear) (by exact hW), State.failureDecision_wipes _ (by exact hW)]
      have h := (v.submitted p).failed.eraseStart_erases
      generalize (v.submitted p).failed.eraseStart = t at h ⊢
      have hidle : t.enu.atIdle := by
        rw [h.enu]
        exact Enu.atIdle_toIdle _
      exact ⟨hidle, congrArg Lkc.lockState h.lkc, h.verification rfl, h.counter, h.check rfl, by
        rw [State.settleStandby_atg, h.atg], (h.flags.2 .attemptFailed (by simp)).trans (by simp [State.failed]), h.started,
        congrArg Ere.awaited h.ere, congrArg Ere.journal h.ere, h.store.cells,
        fun e he => h.store.owes e (by rw [he]; nofun)⟩
    · obtain ⟨r, hoffer, hcells, hsends⟩ := State.charge_offers (s := v.submitted p) p hlawful hclear hW
      rw [hoffer]
      exact ⟨hframe (by simp [State.sameExcept_iff, State.submitted]), rfl, rfl, rfl, rfl, rfl, rfl, rfl, rfl, hcells,
        hsends.awaited⟩
  · rw [State.endEntry_allowed (by exact hlength) (by exact hover), State.endAllowed_enroll1 (by rw [← hfirst]; exact hpurpose)]
    exact ⟨hframe (by simp [State.sameExcept_iff]), rfl⟩
  · rw [State.endEntry_allowed (by exact hlength) (by exact hover), State.endAllowed_enroll2 (by rw [← hsecond]; exact hpurpose)]
    refine ⟨v.endEnroll_idle.1, fun hrefused => ?_, fun hcode hblank => ?_, fun hcode hblank hsession key hkey => ?_⟩
    · rw [State.endEnroll_refused (s := v) horder (hrefused.imp_right fun h => ⟨fun hb => h.1
        (Option.some.inj (hl.symm.trans hb)), h.2⟩), State.abandonEntry_eq]
      refine ⟨hframe (by simp [State.sameExcept_iff]), if_pos ?_⟩
      show isEnrollment s.enu.purpose = true
      rw [hpurpose, hsecond]
      rfl
    · rw [State.endEnroll_first (s := v) horder hcode (hblank ▸ hl)]
      exact ⟨hframe (by simp [State.sameExcept_iff]), rfl⟩
    · rw [State.endEnroll_session (s := v) horder hcode
        (fun hb => hblank (Option.some.inj (hl.symm.trans hb))) hsession hkey]
      exact ⟨hframe (by simp [State.sameExcept_iff]), rfl⟩

end Sys2Proof.Machine
end

section
/-! SUPPORT. The first enrollment: its ranges, its writes in the queue, and their ends (R59, R60). -/

namespace Sys2Proof.Machine

set_option Elab.async false

/-! ### Offers into an empty queue -/

section
variable {s : State}

/-- The store takes no write at once: it writes one, or a restart is pending (R165, R193). -/
def State.stalls (s : State) : Prop := s.ppt.restartPending = true ∨ s.stc.writing ≠ none

theorem State.takeNext_of_stalls (h : s.stalls) : s.takeNext = s := by
  unfold State.takeNext
  split
  · rfl
  · next hrestart =>
    have hwriting : s.stc.writing ≠ none := h.resolve_left hrestart
    have htake : s.stc.take = s.stc := by
      unfold Stc.take
      split
      · next hnone _ => exact absurd hnone hwriting
      · rfl
    rw [htake]

theorem Stc.admission_appends {q : Stc} {k : OfferKind} {e : QueueEntry} (hg : e.cell.isGuard = false)
    (hqueue : holdsCell q.queue e.cell = false) (hreserve : q.reserve = []) (hroom : settingsCount q.queue < 5) :
    q.admission k e = some { q with queue := q.queue ++ [e] } := by
  have hlimit : settingsLimit = 5 := rfl
  unfold Stc.admission
  rw [if_neg (Bool.eq_false_iff.mp hqueue), if_neg (by simp [hreserve, holdsCell_nil]), if_neg (Bool.eq_false_iff.mp hg),
    if_pos (by simp [hreserve, hlimit, hroom])]

/-- The working copy has the value that the write carries. -/
def State.current (s : State) (w : CellWrite) : Prop := w.cell.isGuard = false ∧ w.cell ≠ .cfg ∧ s.setWorking w = s

theorem State.current.withStc {w : CellWrite} (h : s.current w) (q : Stc) : State.current { s with stc := q } w := by
  obtain ⟨hg, hcfg, hset⟩ := h
  refine ⟨hg, hcfg, ?_⟩
  cases w with
  | cfg c => exact absurd rfl hcfg
  | slt k r => exact congrArg (fun u : State => { u with stc := q }) hset
  | rng k r => exact congrArg (fun u : State => { u with stc := q }) hset
  | att n => cases hg
  | bko r => cases hg
  | ejr j => cases hg

theorem State.offer_current {k : OfferKind} {w : CellWrite} {a : Option Awaiter} {q : Stc} (h : s.current w)
    (hq : s.stc.admission k { write := w, awaiter := a } = some q) :
    s.offer k w a = (State.takeNext { s with stc := q }, true) := by
  unfold State.offer
  rw [hq]
  exact congrArg (fun u : State => (u.takeNext, true)) (h.withStc q).2.2

theorem State.offerFirst_cons (w : CellWrite) (rest : List CellWrite) : s.offerFirst (w :: rest) =
    (((s.offer .ordinary w (some .firstEnrollment)).1.offerFirst rest).1,
      if (s.offer .ordinary w (some .firstEnrollment)).2 then
        ((s.offer .ordinary w (some .firstEnrollment)).1.offerFirst rest).2
      else w :: ((s.offer .ordinary w (some .firstEnrollment)).1.offerFirst rest).2) := rfl

/-- Of several writes that carry what the working copies have, each is admitted or held, and the store alone changes. -/
theorem State.offerFirst_owes (l : List CellWrite) : ∀ s : State, (∀ w ∈ l, s.current w) →
    (l.map CellWrite.cell).Nodup →
    ∃ r, (s.offerFirst l).1 = { s with stc := r } ∧ r.cells = s.stc.cells ∧
      (∀ x : QueueEntry, x.cell ∉ l.map CellWrite.cell → (r.owes x ↔ s.stc.owes x)) ∧
      ∀ w ∈ l, w ∈ (s.offerFirst l).2 ∨ ∃ e, r.owes e ∧ e.write = w ∧ e.awaiter ≠ none := by
  induction l with
  | nil => exact fun s _ _ => ⟨s.stc, rfl, rfl, fun _ _ => Iff.rfl, fun w hw => nomatch hw⟩
  | cons w rest ih =>
    intro s hcurrent hnodup
    obtain ⟨hfresh, hrest⟩ := List.nodup_cons.mp hnodup
    rw [State.offerFirst_cons]
    cases hadm : s.stc.admission .ordinary { write := w, awaiter := some .firstEnrollment } with
    | none =>
      obtain ⟨r, hstate, hcells, howes, hwrites⟩ := ih s (fun v hv => hcurrent v (.tail _ hv)) hrest
      rw [State.offer_of_refusal hadm]
      refine ⟨r, hstate, hcells, fun x hx => howes x fun h => hx (.tail _ h), fun v hv => ?_⟩
      rcases List.mem_cons.mp hv with rfl | hv
      · exact .inl (List.mem_cons_self ..)
      · exact (hwrites v hv).imp_left fun h => .tail _ h
    | some q =>
      obtain ⟨p, hoffer, -, hadmits, -, -⟩ := State.offer_of_admission hadm
      rw [(hcurrent w (List.mem_cons_self ..)).2.2] at hoffer
      obtain ⟨r, hstate, hcells, howes, hwrites⟩ := ih { s with stc := p }
        (fun v hv => (hcurrent v (.tail _ hv)).withStc p) hrest
      rw [hoffer]
      refine ⟨r, hstate, hcells.trans hadmits.cells, fun x hx => ?_, fun v hv => ?_⟩
      · rw [List.map_cons, List.mem_cons, not_or] at hx
        exact (howes x hx.2).trans (hadmits.owes x hx.1)
      · rcases List.mem_cons.mp hv with rfl | hv
        · obtain ⟨e, he, hwrite, ha⟩ := hadmits.owed
          refine .inr ⟨e, (howes e ?_).mpr he, hwrite, by simp [ha .firstEnrollment rfl]⟩
          rw [QueueEntry.cell, hwrite]
          exact hfresh
        · exact hwrites v hv

/-- The entry of a first enrollment's write. -/
def firstEntry (w : CellWrite) : QueueEntry := { write := w, awaiter := some .firstEnrollment }

theorem settingsCount_append_settings (queue : List QueueEntry) (e : QueueEntry) (h : e.cell.isGuard = false) :
    settingsCount (queue ++ [e]) = settingsCount queue + 1 := by
  simp [settingsCount, List.countP_append, h]

/-- Where the store takes nothing at once, the queue takes the writes in their order up to its limit, and the others are
held. -/
theorem State.offerFirst_stalled (l : List CellWrite) : ∀ s : State, s.stalls → s.stc.reserve = [] →
    (∀ w ∈ l, s.current w) → (s.stc.queue.map QueueEntry.cell ++ l.map CellWrite.cell).Nodup →
    s.offerFirst l = ({ s with stc := { s.stc with
        queue := s.stc.queue ++ (l.take (5 - settingsCount s.stc.queue)).map firstEntry } },
      l.drop (5 - settingsCount s.stc.queue)) := by
  induction l with
  | nil => intro s _ _ _ _; simp [State.offerFirst]
  | cons w rest ih =>
    intro s hstalls hreserve hcurrent hnodup
    have hw := hcurrent w (List.mem_cons_self ..)
    have hrest : ∀ v ∈ rest, s.current v := fun v hv => hcurrent v (.tail _ hv)
    have hsplit := List.nodup_append.mp hnodup
    have hfree : holdsCell s.stc.queue w.cell = false :=
      holdsCell_eq_false.mpr fun h => hsplit.2.2 _ h _ (List.mem_cons_self ..) rfl
    rw [State.offerFirst_cons]
    rcases Nat.lt_or_ge (settingsCount s.stc.queue) 5 with hroom | hfull
    · have hadm := Stc.admission_appends (k := .ordinary) (e := firstEntry w) hw.1 hfree hreserve hroom
      have hoffer := (State.offer_current hw hadm).trans
        (congrArg (·, true) (State.takeNext_of_stalls (by exact hstalls)))
      have hcount := settingsCount_append_settings s.stc.queue (firstEntry w) hw.1
      have hnext := ih { s with stc := { s.stc with queue := s.stc.queue ++ [firstEntry w] } } hstalls hreserve
        (fun v hv => (hrest v hv).withStc _) (by simpa [firstEntry, QueueEntry.cell] using hnodup)
      dsimp only at hnext
      rw [hcount] at hnext
      rw [hoffer, hnext, show 5 - settingsCount s.stc.queue = 5 - (settingsCount s.stc.queue + 1) + 1 by omega]
      simp
    · have hzero : 5 - settingsCount s.stc.queue = 0 := by omega
      have hadm := Stc.admission_refused (e := firstEntry w) hw.1 (.inl hfull) hfree (by rw [hreserve, holdsCell_nil])
      have hnext := ih s hstalls hreserve hrest (hnodup.sublist (by simp))
      rw [hzero] at hnext ⊢
      rw [State.offer_of_refusal hadm, hnext]
      simp

/-- An empty queue that the store writes from takes the first of the writes at once, and the others as a queue does. -/
theorem State.offerFirst_empty {w : CellWrite} {rest : List CellWrite} (hwriting : s.stc.writing = none)
    (hrestart : s.ppt.restartPending = false) (hqueue : s.stc.queue = []) (hreserve : s.stc.reserve = [])
    (hcurrent : ∀ v ∈ w :: rest, s.current v) (hnodup : ((w :: rest).map CellWrite.cell).Nodup) :
    ∃ seq x, s.offerFirst (w :: rest) = ({ s with stc := { s.stc with
        queue := (rest.take 5).map firstEntry, reserve := [], seq := seq, writing := some x } }, rest.drop 5) ∧
      x.entry = firstEntry w := by
  have hw := hcurrent w (List.mem_cons_self ..)
  have hadm := Stc.admission_appends (q := s.stc) (k := .ordinary) (e := firstEntry w) hw.1
    (by rw [hqueue, holdsCell_nil]) hreserve (by rw [hqueue]; decide)
  have htake : ∃ seq x, Stc.take { s.stc with queue := s.stc.queue ++ [firstEntry w] } =
      { s.stc with queue := [], reserve := [], seq := seq, writing := some x } ∧ x.entry = firstEntry w := by
    unfold Stc.take
    dsimp only
    have hnext : nextEntry [firstEntry w] = some (firstEntry w) := by
      unfold nextEntry
      cases h : (firstEntry w).cell.isGuard <;> simp [h]
    rw [hwriting, hqueue, List.nil_append, hnext]
    dsimp only
    rw [hreserve, List.eraseP_cons_of_pos (by simp)]
    exact ⟨_, _, rfl, rfl⟩
  obtain ⟨seq, x, htake, hx⟩ := htake
  have hoffer := (State.offer_current hw hadm).trans (congrArg (·, true) (State.takeNext_of_running (by exact hrestart)))
  dsimp only at hoffer
  rw [htake] at hoffer
  refine ⟨seq, x, ?_, hx⟩
  have hrest := State.offerFirst_stalled rest
    { s with stc := { s.stc with queue := [], reserve := [], seq := seq, writing := some x } } (.inr nofun) rfl
    (fun v hv => (hcurrent v (.tail _ hv)).withStc _) (by simpa using (List.nodup_cons.mp hnodup).2)
  rw [State.offerFirst_cons, hoffer, hrest]
  rfl

end

/-! ### The ranges of a first enrollment -/

/-- The ranges of a list made UNUSED, their positions zeroised. -/
theorem State.clearRanges_spec (l : List RangeIx) : ∀ s : State, ∃ live staged buffer,
    l.foldl (fun s k => (s.setBoth k .unused).setPosition k none) s =
      { s with rgt := { s.rgt with live := live, staged := staged }, lkc := { s.lkc with keyBuffer := buffer } } ∧
    ∀ k : RangeIx, live[k] = (if k ∈ l then .unused else s.rgt.live[k]) ∧
      staged[k] = (if k ∈ l then .unused else s.rgt.staged[k]) ∧
      buffer[k] = (if k ∈ l then none else s.lkc.keyBuffer[k]) := by
  induction l with
  | nil => exact fun s => ⟨_, _, _, rfl, fun k => ⟨rfl, rfl, rfl⟩⟩
  | cons j rest ih =>
    intro s
    obtain ⟨live, staged, buffer, hfold, hget⟩ := ih ((s.setBoth j .unused).setPosition j none)
    refine ⟨live, staged, buffer, hfold, fun k => ?_⟩
    obtain ⟨hlive, hstaged, hbuffer⟩ := hget k
    rw [hlive, hstaged, hbuffer]
    dsimp only [State.setBoth, State.setPosition]
    rw [getElem_set_fin, getElem_set_fin, getElem_set_fin]
    by_cases hk : k ∈ rest
    · simp [hk]
    · by_cases hj : j = k
      · simp [hj]
      · simp [hk, hj, Ne.symm hj]

theorem mem_staleRanges {live : Vector RangeRecord 8} {k : RangeIx} :
    k ∈ staleRanges live ↔ k ≠ 0 ∧ live[k] ≠ .unused := by
  simp [-Fin.getElem_fin, staleRanges, mem_allRanges]

theorem staleRanges_eq (live : Vector RangeRecord 8) :
    staleRanges live = [1, 2, 3, 4, 5, 6, 7].filter (fun k : RangeIx => live[k] ≠ .unused) := by
  have hall : allRanges = 0 :: [1, 2, 3, 4, 5, 6, 7] := rfl
  unfold staleRanges
  rw [hall, List.filter_cons_of_neg (by simp)]
  refine List.filter_congr fun k hk => ?_
  have hne : k ≠ 0 := fun h => absurd (h ▸ hk) (by decide)
  by_cases hunused : live[k] = .unused <;> simp [-Fin.getElem_fin, hne, hunused]

/-- The range table and the key buffer of a first enrollment (R59). -/
theorem State.firstRanges_spec (s : State) (wrapped : Wrapped) : ∃ live staged buffer,
    s.firstRanges wrapped = { s with
      rgt := { live := live, staged := staged, dirty := false }, lkc := { s.lkc with keyBuffer := buffer } } ∧
    live[(0 : RangeIx)] = .factoryZero (some wrapped) ∧ (∀ k : RangeIx, k ≠ 0 → live[k] = .unused) ∧
    (∀ k : RangeIx, k = 0 ∨ k ∈ staleRanges s.rgt.live → staged[k] = live[k]) ∧
    (∀ k : RangeIx, k ≠ 0 → k ∉ staleRanges s.rgt.live → staged[k] = s.rgt.staged[k]) ∧
    ∀ k : RangeIx, buffer[k] = if k ∈ staleRanges s.rgt.live then none else s.lkc.keyBuffer[k] := by
  obtain ⟨live, staged, buffer, hfold, hget⟩ :=
    State.clearRanges_spec (staleRanges s.rgt.live) (s.setBoth 0 (.factoryZero (some wrapped)))
  have hzero : (0 : RangeIx) ∉ staleRanges s.rgt.live := fun h => (mem_staleRanges.mp h).1 rfl
  have hlive (k : RangeIx) : (s.setBoth 0 (.factoryZero (some wrapped))).rgt.live[k] =
      if 0 = k then .factoryZero (some wrapped) else s.rgt.live[k] := getElem_set_fin _ _ _ _
  have hstaged (k : RangeIx) : (s.setBoth 0 (.factoryZero (some wrapped))).rgt.staged[k] =
      if 0 = k then .factoryZero (some wrapped) else s.rgt.staged[k] := getElem_set_fin _ _ _ _
  refine ⟨live, staged, buffer, ?_, ?_, fun k hk => ?_, fun k hk => ?_, fun k hk hstale => ?_, fun k => (hget k).2.2⟩
  · unfold State.firstRanges
    dsimp only
    rw [hfold]
    rfl
  · rw [(hget 0).1, if_neg hzero, hlive, if_pos rfl]
  · rw [(hget k).1, hlive]
    split
    · rfl
    · next hstale =>
      rw [if_neg (Ne.symm hk)]
      exact by_contra fun h => hstale (mem_staleRanges.mpr ⟨hk, h⟩)
  · rw [(hget k).1, (hget k).2.1]
    rcases hk with rfl | hk
    · rw [if_neg hzero, if_neg hzero, hlive, hstaged, if_pos rfl, if_pos rfl]
    · rw [if_pos hk, if_pos hk]
  · rw [(hget k).2.1, if_neg hstale, hstaged, if_neg (Ne.symm hk)]

/-- The writes of a first enrollment, in their order (R59). -/
def firstWrites (wrapped : Wrapped) (stale : List RangeIx) (record : SlotRecord) : List CellWrite :=
  .rng 0 (.factoryZero (some wrapped)) :: stale.map (fun k => .rng k .unused) ++ [.slt 0 record]

theorem firstWrites_nodup (wrapped : Wrapped) (live : Vector RangeRecord 8) (record : SlotRecord) :
    ((firstWrites wrapped (staleRanges live) record).map CellWrite.cell).Nodup := by
  have hcells : (firstWrites wrapped (staleRanges live) record).map CellWrite.cell =
      Cell.rng 0 :: ((staleRanges live).map Cell.rng ++ [.slt 0]) := by
    simp [firstWrites, Function.comp_def, CellWrite.cell]
  have hrange : Function.Injective Cell.rng := fun a b h => by cases h; rfl
  have hstale : (staleRanges live).Nodup := List.Nodup.filter _ (by decide)
  rw [hcells, List.nodup_cons, List.nodup_append]
  refine ⟨?_, hstale.map hrange, by simp, by simp⟩
  simp only [List.mem_append, List.mem_map, not_or, List.mem_singleton]
  refine ⟨?_, nofun⟩
  rintro ⟨k, hk, hzero⟩
  exact (mem_staleRanges.mp hk).1 (hrange hzero)

/-! ### The end of a first-enrollment build -/

section
variable {s : State} {code : List Digit}

/-- The verifier's record of a first enrollment. -/
def firstRecord (s : State) (code : List Digit) : SlotRecord :=
  enrolledRecord code firstOrder (.drive (s.freshCount + 1)) s.freshCount

/-- The range key of a first enrollment, wrapped under its drive key. -/
def firstRangeKey (s : State) : Wrapped := { key := .range (s.freshCount + 2), under := .drive (s.freshCount + 1) }

/-- The state that offers the writes of a first enrollment. -/
def State.firstOffering (s : State) (code : List Digit) (live staged : Vector RangeRecord 8)
    (buffer : Vector (Option BufferKey) 8) : State :=
  { s with
    freshCount := s.freshCount + 3, rgt := { live := live, staged := staged, dirty := false },
    lkc := { s.lkc with keyBuffer := buffer },
    slt := { s.slt with slots := s.slt.slots.set 0 (firstRecord s code) } }

theorem State.firstBuildEnds_eq (hbuild : s.slt.build = some (.firstBuilding code))
    {live staged : Vector RangeRecord 8} {buffer : Vector (Option BufferKey) 8}
    (hranges : s.spendFresh.spendFresh.spendFresh.firstRanges (firstRangeKey s) = { s.spendFresh.spendFresh.spendFresh with
      rgt := { live := live, staged := staged, dirty := false }, lkc := { s.lkc with keyBuffer := buffer } }) :
    s.firstBuildEnds =
      ((s.firstOffering code live staged buffer).offerFirst
        (firstWrites (firstRangeKey s) (staleRanges s.rgt.live) (firstRecord s code))).1.setBuild
        (some (.firstWriting ((s.firstOffering code live staged buffer).offerFirst
          (firstWrites (firstRangeKey s) (staleRanges s.rgt.live) (firstRecord s code))).2 false
          (.code code s.freshCount) { key := .drive (s.freshCount + 1), under := .code code s.freshCount })) := by
  have hoffering : (s.spendFresh.spendFresh.spendFresh.firstRanges (firstRangeKey s)).setWorking
      (.slt 0 (firstRecord s code)) = s.firstOffering code live staged buffer := by
    rw [hranges]
    rfl
  unfold State.firstBuildEnds
  rw [hbuild]
  dsimp only
  rw [show ({ key := .range (s.freshCount + 2), under := .drive (s.freshCount + 1) } : Wrapped) = firstRangeKey s from rfl,
    show enrolledRecord code firstOrder (.drive (s.freshCount + 1)) s.freshCount = firstRecord s code from rfl, hoffering]
  rfl

theorem Vector.set_of_getElem_eq {α : Type} {n : Nat} {v : Vector α n} {k : Fin n} {x : α} (h : v[k] = x) :
    v.set k x = v := by
  subst h
  exact Vector.set_getElem_self _

/-- The writes of a first enrollment carry what the working copies have. -/
theorem State.firstOffering_current {live staged : Vector RangeRecord 8} {buffer : Vector (Option BufferKey) 8}
    (hzero : live[(0 : RangeIx)] = .factoryZero (some (firstRangeKey s))) (hlive : ∀ k : RangeIx, k ≠ 0 → live[k] = .unused) :
    ∀ w ∈ firstWrites (firstRangeKey s) (staleRanges s.rgt.live) (firstRecord s code),
      (s.firstOffering code live staged buffer).current w := by
  have hrange {k : RangeIx} {r : RangeRecord} (h : live[k] = r) :
      (s.firstOffering code live staged buffer).current (.rng k r) := by
    refine ⟨rfl, nofun, ?_⟩
    show ({ s.firstOffering code live staged buffer with
      rgt := { live := live.set k r, staged := staged, dirty := false } } : State) = _
    rw [Vector.set_of_getElem_eq h]
    rfl
  intro w hw
  simp only [firstWrites, List.cons_append, List.mem_cons, List.mem_append, List.mem_map, List.not_mem_nil,
    or_false] at hw
  rcases hw with rfl | ⟨k, hk, rfl⟩ | rfl
  · exact hrange hzero
  · exact hrange (hlive k (mem_staleRanges.mp hk).1)
  · refine ⟨rfl, nofun, ?_⟩
    exact congrArg (fun slots => { s.firstOffering code live staged buffer with slt := { s.slt with slots := slots } })
      (Vector.set_of_getElem_eq (v := s.slt.slots.set 0 (firstRecord s code)) (k := (0 : SlotIx))
        ((getElem_set_fin s.slt.slots 0 0 (firstRecord s code)).trans (if_pos rfl)))

/-- An empty queue takes the writes of a list in their order before those held (R59). -/
theorem State.offerFirst_order {writes : List CellWrite} (hne : writes ≠ []) (hqueue : s.stc.queue = [])
    (hreserve : s.stc.reserve = []) (hcurrent : ∀ v ∈ writes, s.current v)
    (hnodup : (writes.map CellWrite.cell).Nodup) : ∃ taken : List QueueEntry,
      taken = (if s.stc.writing = none then
        ((s.offerFirst writes).1.stc.writing.map WriteInProgress.entry).toList else []) ∧
      (taken ++ (s.offerFirst writes).1.stc.queue).map QueueEntry.write ++ (s.offerFirst writes).2 = writes ∧
      ∀ e ∈ taken ++ (s.offerFirst writes).1.stc.queue, e.awaiter = some .firstEnrollment := by
  obtain ⟨w, rest, rfl⟩ := List.exists_cons_of_ne_nil hne
  have hwrites (l : List CellWrite) : (l.map firstEntry).map QueueEntry.write = l := by
    simp [firstEntry, Function.comp_def]
  have hawaiters {l : List CellWrite} {e : QueueEntry} (he : e ∈ l.map firstEntry) : e.awaiter = some .firstEnrollment := by
    obtain ⟨v, -, rfl⟩ := List.mem_map.mp he
    rfl
  by_cases hstalls : s.stalls
  · rw [State.offerFirst_stalled _ s hstalls hreserve hcurrent (by rw [hqueue]; exact hnodup), hqueue]
    dsimp only
    refine ⟨[], ?_, ?_, fun e he => hawaiters he⟩
    · split
      · next h => rw [h]; rfl
      · rfl
    · rw [List.nil_append, List.nil_append, hwrites, List.take_append_drop]
  · obtain ⟨hrestart, hwriting⟩ := not_or.mp hstalls
    have hwriting : s.stc.writing = none := not_not.mp hwriting
    obtain ⟨seq, x, hoffer, hx⟩ := State.offerFirst_empty hwriting (Bool.eq_false_iff.mpr hrestart) hqueue hreserve
      hcurrent hnodup
    rw [hoffer, if_pos hwriting]
    dsimp only
    refine ⟨[firstEntry w], ?_, ?_, fun e he => ?_⟩
    · rw [Option.map_some, hx]
      rfl
    · rw [List.map_append, hwrites, List.append_assoc, List.take_append_drop]
      rfl
    · rcases List.mem_append.mp he with h | h
      · rw [List.mem_singleton.mp h]
        rfl
      · exact hawaiters h

end

end Sys2Proof.Machine
end

section
/-! SUPPORT. The ends of a first enrollment's writes (R60). -/

namespace Sys2Proof.Machine

set_option Elab.async false

section
variable {s : State} {failed : Bool} {codeKey : Key} {wrapped : Wrapped} {held : List CellWrite}

/-! ### The blocks that the end of a write changes -/

/-- SLT, STC and the flags apart nothing changes. -/
def State.slotsOnly (s t : State) : Prop := ∃ slt q p, t = { s with slt := slt, stc := q, ppt := p }

theorem State.slotsOnly.trans {t u : State} (h : s.slotsOnly t) (k : t.slotsOnly u) : s.slotsOnly u := by
  obtain ⟨_, _, _, rfl⟩ := h
  obtain ⟨_, _, _, rfl⟩ := k
  exact ⟨_, _, _, rfl⟩

theorem State.offer_slt_slotsOnly (kind : OfferKind) (k : SlotIx) (r : SlotRecord) (a : Option Awaiter) :
    s.slotsOnly (s.offer kind (.slt k r) a).1 := by
  cases h : s.stc.admission kind { write := .slt k r, awaiter := a } with
  | none =>
    rw [State.offer_of_refusal h]
    exact ⟨_, _, _, rfl⟩
  | some q =>
    obtain ⟨r', hoffer, -⟩ := State.offer_of_admission h
    rw [hoffer]
    exact ⟨_, _, _, rfl⟩

theorem State.offerEmptyZero_slotsOnly : s.slotsOnly s.offerEmptyZero := by
  unfold State.offerEmptyZero
  dsimp only
  split
  · exact State.slotsOnly.trans (State.offer_slt_slotsOnly _ _ _ _) ⟨_, _, _, rfl⟩
  · exact State.slotsOnly.trans (State.offer_slt_slotsOnly _ _ _ _) ⟨_, _, _, rfl⟩

/-! ### The build workspace after the end of a write -/

theorem State.firstWriteEnds_range (hbuild : s.slt.build = some (.firstWriting held failed codeKey wrapped)) {cell : Cell}
    (hcell : cell ≠ .slt 0) (completed : Bool) :
    s.firstWriteEnds cell completed = s.setBuild (some (.firstWriting held (failed || !completed) codeKey wrapped)) := by
  unfold State.firstWriteEnds
  rw [hbuild]
  exact if_neg hcell

theorem State.firstWriteEnds_done (hbuild : s.slt.build = some (.firstWriting held false codeKey wrapped)) :
    s.firstWriteEnds (.slt 0) true = { s with
      slt := { s.slt with
        build := none, matchHold := none,
        unwrap := some { driveKey := unwrapKey wrapped codeKey,
                         rangeKeys := unwrapRanges s.rgt.live s.slt.slots[(0 : SlotIx)].mask (unwrapKey wrapped codeKey),
                         slot := 0, opensSession := true, first := true, discard := false } },
      ppt := s.ppt.setFlag .enrollDone } := by
  unfold State.firstWriteEnds
  rw [hbuild]
  refine (if_pos rfl).trans ((if_neg (by decide)).trans ?_)
  exact State.startUnwrap_of_hold (m := { codeKey := codeKey, wrapped := wrapped, slot := 0 }) true true rfl

theorem State.firstWriteEnds_lost (hbuild : s.slt.build = some (.firstWriting held failed codeKey wrapped)) :
    s.firstWriteEnds (.slt 0) false = ((s.setFlag .enrollFailed).setWorking (.slt 0 .empty)).setBuild none := by
  unfold State.firstWriteEnds
  rw [hbuild]
  refine (if_pos rfl).trans ((if_pos (by simp)).trans ?_)
  rfl

theorem State.firstWriteEnds_undone (hbuild : s.slt.build = some (.firstWriting held true codeKey wrapped)) :
    s.firstWriteEnds (.slt 0) true = (s.setFlag .enrollFailed).offerEmptyZero := by
  unfold State.firstWriteEnds
  rw [hbuild]
  exact (if_pos rfl).trans ((if_pos (by simp)).trans (if_pos rfl))

/-- What the build workspace can hold once the write has ended. -/
def Build.afterFirst (b : Option Build) : Prop :=
  b = none ∨ b = some .firstRefused ∨ ∃ failed codeKey wrapped, b = some (.firstWriting [] failed codeKey wrapped)

theorem State.reofferAfter_slotsOnly (cell : Cell) (hretire : s.slt.heldRetirement = none)
    (hbuild : Build.afterFirst s.slt.build) : s.slotsOnly (s.reofferAfter cell) := by
  unfold State.reofferAfter
  split
  · exact ⟨_, _, _, rfl⟩
  · rw [State.reofferSlots_eq]
    unfold State.reofferRetirement
    rw [hretire]
    unfold State.reofferBuild
    rcases hbuild with h | h | ⟨f, c, k, h⟩ <;> rw [h]
    · exact ⟨_, _, _, rfl⟩
    · exact State.offerEmptyZero_slotsOnly
    · exact ⟨_, _, _, rfl⟩

/-- With nothing held, a first enrollment that goes on has nothing to offer again. -/
theorem State.reofferAfter_writing (cell : Cell) (hretire : s.slt.heldRetirement = none)
    (hbuild : s.slt.build = some (.firstWriting [] failed codeKey wrapped)) : s.reofferAfter cell = s := by
  unfold State.reofferAfter
  split
  · rfl
  · rw [State.reofferSlots_eq]
    unfold State.reofferRetirement
    rw [hretire]
    unfold State.reofferBuild
    rw [hbuild]
    dsimp only [State.offerFirst, State.setBuild]
    rw [← hbuild]

theorem State.offerEmptyZero_build : s.offerEmptyZero.slt.heldRetirement = s.slt.heldRetirement ∧
    Build.afterFirst s.offerEmptyZero.slt.build := by
  unfold State.offerEmptyZero
  cases h : s.stc.admission .ordinary { write := .slt 0 .empty, awaiter := none } with
  | none =>
    rw [State.offer_of_refusal h]
    exact ⟨rfl, .inr (.inl rfl)⟩
  | some q =>
    obtain ⟨r, hoffer, -⟩ := State.offer_of_admission h
    rw [hoffer]
    exact ⟨rfl, .inl rfl⟩

/-- The end of a first enrollment's write: the blocks it changes, and what it leaves to offer again. -/
theorem State.firstWriteEnds_slotsOnly (hbuild : s.slt.build = some (.firstWriting [] failed codeKey wrapped)) (cell : Cell)
    (completed : Bool) : s.slotsOnly (s.firstWriteEnds cell completed) ∧
      (s.firstWriteEnds cell completed).slt.heldRetirement = s.slt.heldRetirement ∧
      Build.afterFirst (s.firstWriteEnds cell completed).slt.build := by
  by_cases hcell : cell = .slt 0
  · subst hcell
    cases completed with
    | false =>
      rw [State.firstWriteEnds_lost hbuild]
      exact ⟨⟨_, _, _, rfl⟩, rfl, .inl rfl⟩
    | true =>
      cases failed with
      | false =>
        rw [State.firstWriteEnds_done hbuild]
        exact ⟨⟨_, _, _, rfl⟩, rfl, .inl rfl⟩
      | true =>
        rw [State.firstWriteEnds_undone hbuild]
        have hflag : s.slotsOnly (s.setFlag .enrollFailed) := ⟨_, _, _, rfl⟩
        exact ⟨hflag.trans State.offerEmptyZero_slotsOnly, State.offerEmptyZero_build⟩
  · rw [State.firstWriteEnds_range hbuild hcell]
    exact ⟨⟨_, _, _, rfl⟩, rfl, .inr (.inr ⟨_, _, _, rfl⟩)⟩

end

/-- Settles O47: the tables, the slot and the queue of the build, and the three ends of its writes. -/
theorem firstEnrollBuildEnds : Obligations.FirstEnrollBuildEnds := by
  unfold Obligations.FirstEnrollBuildEnds
  constructor
  · intro s code codeKey driveKey range stale writes hp hbuild hcode hdrive hrange hstale hwrites
    obtain ⟨live, staged, buffer, hranges, hzero, hlive, hstaged, hother, hbuffer⟩ :=
      s.spendFresh.spendFresh.spendFresh.firstRanges_spec (firstRangeKey s)
    rw [← staleRanges_eq] at hstale
    have hend := State.firstBuildEnds_eq hbuild hranges
    have hcurrent := State.firstOffering_current (code := code) (staged := staged) (buffer := buffer) hzero hlive
    have hnodup := firstWrites_nodup (firstRangeKey s) s.rgt.live (firstRecord s code)
    have hlist : writes = firstWrites (firstRangeKey s) (staleRanges s.rgt.live) (firstRecord s code) := by
      rw [hwrites, hstale, hrange, hcode, hdrive]
      rfl
    subst hlist
    obtain ⟨r, hstate, hcells, -, howes⟩ := State.offerFirst_owes _ _ hcurrent hnodup
    have hexec := exec_event (c := .firstEnrollBuildComplete) State.firstBuildEnds hp
    rw [hend, hstate] at hexec
    refine ⟨_, _, hexec, State.sameExcept.settled (by simp [State.sameExcept_iff, State.firstOffering, State.setBuild]), rfl,
      ?_, by rw [hrange, hdrive]; exact hzero, hlive, fun k hk => hstaged k (hk.imp_right fun h => hstale ▸ h),
      fun k hk hn => hother k hk fun h => hn (hstale ▸ h), rfl, rfl, fun k => ?_, hcells, fun _ => howes,
      fun hqueue hreserve => ?_⟩
    · rw [hcode, hdrive]
      rfl
    · rw [hstale]
      exact hbuffer k
    · have horder := State.offerFirst_order (s := s.firstOffering code live staged buffer)
        (writes := firstWrites (firstRangeKey s) (staleRanges s.rgt.live) (firstRecord s code)) nofun hqueue hreserve
        hcurrent hnodup
      rw [hstate] at horder
      exact horder
  · intro s w r failed codeKey wrapped hp hr hw hends hbuild hretire hawaiter
    have hbuild' : (s.afterWrite w r).slt.build = some (.firstWriting [] failed codeKey wrapped) := hbuild
    have htell := State.tellEnd_firstEnrollment (s := s.afterWrite w r) hawaiter (decide (r = .agrees))
    obtain ⟨hslots, hretire', hafter⟩ :=
      State.firstWriteEnds_slotsOnly hbuild' w.entry.cell (decide (r = .agrees))
    have hexec := exec_storeWriteEnd hp hr hw hends
    have htold (hcell : w.entry.cell = .slt 0) (completed : Bool) (h : decide (r = .agrees) = completed) :
        (s.afterWrite w r).firstWriteEnds w.entry.cell (decide (r = .agrees)) =
          (s.afterWrite w r).firstWriteEnds (.slt 0) completed := by rw [hcell, h]
    refine ⟨_, hexec, ?_, fun k record hwrite => ?_, fun record hwrite hagrees hclear => ?_,
      fun record hwrite hfailed hcount hreserve => ?_⟩
    · obtain ⟨q, htake, -⟩ := ((s.afterWrite w r).tellEnd w.entry (decide (r = .agrees))).takeNext_takes
      rw [htake, htell]
      have hreoffer := State.reofferAfter_slotsOnly (s := { (s.afterWrite w r).firstWriteEnds w.entry.cell
        (decide (r = .agrees)) with stc := q }) w.entry.cell (hretire'.trans hretire) hafter
      obtain ⟨slt, q', p, hall⟩ :=
        State.slotsOnly.trans (s := s) ⟨_, _, _, rfl⟩ (hslots.trans (.trans ⟨_, _, _, rfl⟩ hreoffer))
      rw [hall]
      exact State.sameExcept.settled (by simp [State.sameExcept_iff])
    · have hcell : w.entry.cell ≠ .slt 0 := by
        rw [QueueEntry.cell, hwrite]
        nofun
      rw [State.firstWriteEnds_range hbuild' hcell] at htell
      obtain ⟨q, htake, -⟩ := ((s.afterWrite w r).tellEnd w.entry (decide (r = .agrees))).takeNext_takes
      rw [htake, htell, State.reofferAfter_writing (s := { (s.afterWrite w r).setBuild
        (some (.firstWriting [] (failed || !decide (r = .agrees)) codeKey wrapped)) with stc := q }) _ hretire rfl]
      refine ⟨rfl, ?_⟩
      rw [decide_not]
      rfl
    · have hcell : w.entry.cell = .slt 0 := congrArg CellWrite.cell hwrite
      have hdone := (htold hcell true (decide_eq_true hagrees)).trans (State.firstWriteEnds_done (hclear ▸ hbuild'))
      obtain ⟨q, hquiet, -⟩ := exec_storeWriteEnd_quiet hp hr hw hends (htell.trans hdone) hretire rfl
      have ht := Host.Outcome.next.inj (hexec.symm.trans hquiet)
      rw [ht]
      refine ⟨?_, rfl⟩
      show (s.ppt.afterWrite r).setFlag .enrollDone = _
      rw [Ppt.afterWrite, if_pos hagrees]
    · have hcell : w.entry.cell = .slt 0 := congrArg CellWrite.cell hwrite
      by_cases hagrees : r = .agrees
      · have hbuild'' : (s.afterWrite w r).slt.build = some (.firstWriting [] true codeKey wrapped) :=
          hbuild'.trans (by rw [hfailed.resolve_right (not_not.mpr hagrees)])
        obtain ⟨p, hoffer, -, -, hsends, -⟩ := State.offer_hasRoom (s := (s.afterWrite w r).setFlag .enrollFailed)
          (k := .ordinary) (a := none) (w := .slt 0 .empty) (Stc.hasRoom_of_free hcount hreserve _)
        have hempty : ((s.afterWrite w r).setFlag .enrollFailed).offerEmptyZero =
            State.setBuild { ((s.afterWrite w r).setFlag .enrollFailed).setWorking (.slt 0 .empty) with stc := p } none := by
          unfold State.offerEmptyZero
          rw [hoffer]
          rfl
        have hundone := (htold hcell true (decide_eq_true hagrees)).trans ((State.firstWriteEnds_undone hbuild'').trans hempty)
        obtain ⟨q, hquiet, htakes⟩ := exec_storeWriteEnd_quiet hp hr hw hends (htell.trans hundone) hretire rfl
        have ht := Host.Outcome.next.inj (hexec.symm.trans hquiet)
        rw [ht]
        obtain ⟨e, he, hwrite⟩ := (htakes.sends hsends).exists
        exact ⟨rfl, rfl, fun _ => ⟨e, .inl he, hwrite⟩⟩
      · have hlost := (htold hcell false (decide_eq_false hagrees)).trans (State.firstWriteEnds_lost hbuild')
        obtain ⟨q, hquiet, -⟩ := exec_storeWriteEnd_quiet hp hr hw hends (htell.trans hlost) hretire rfl
        have ht := Host.Outcome.next.inj (hexec.symm.trans hquiet)
        rw [ht]
        exact ⟨rfl, rfl, fun h => absurd h hagrees⟩

end Sys2Proof.Machine
end

section
/-! SUPPORT. The outbound queue and the transaction: what is read out, what the frame does, and what the queue takes after
it (R174, R177, R178). -/

namespace Sys2Proof.Machine

set_option Elab.async false

/-! ### Offers to the outbound queue -/

section
variable {m : Mpt} {f a : OutFrame}

theorem Mpt.offerOrder_eq (m : Mpt) (f : OutFrame) : (m.offerOrder f).1 =
    { m with outbound := (m.offerOrder f).1.outbound, statePending := (m.offerOrder f).1.statePending } := by
  unfold Mpt.offerOrder Mpt.appendOrder
  repeat' split
  all_goals rfl

theorem Mpt.offerOrder_room (h : m.outbound.length < 8) (hf : f.isState = false) :
    m.offerOrder f = ({ m with outbound := m.outbound ++ [f] }, true) := by
  unfold Mpt.offerOrder
  rw [if_pos (by exact h), Mpt.appendOrder, hf]
  rfl

/-- A queue with room, or with a notice to make room, takes the frame at its tail (R178). -/
theorem Mpt.offerOrder_taken (h : takesOrder m.outbound) :
    (m.offerOrder f).2 = true ∧ (m.offerOrder f).1.outbound.getLast? = some f := by
  have hlast (p : Mpt) : (p.appendOrder f).outbound.getLast? = some f := by
    rw [Mpt.appendOrder, List.getLast?_concat]
  unfold Mpt.offerOrder
  split
  · exact ⟨rfl, hlast _⟩
  · next hfull =>
    obtain ⟨g, hg, hstate⟩ := h.resolve_left hfull
    rw [if_pos (List.any_eq_true.mpr ⟨g, hg, hstate⟩)]
    exact ⟨rfl, hlast _⟩

/-- A full queue without a notice takes no frame but marks a STATE pending (R178). -/
theorem Mpt.offerOrder_full (h : ¬ takesOrder m.outbound) (hf : f.isState = false) : m.offerOrder f = (m, false) := by
  obtain ⟨hfull, hstate⟩ := not_or.mp h
  unfold Mpt.offerOrder
  rw [if_neg (by exact hfull), if_neg, if_neg (by simp [hf])]
  rw [List.any_eq_true]
  exact hstate

/-- An offer marks a STATE pending only in a full queue. -/
theorem Mpt.offerOrder_pending (h : m.statePending = false) (f : OutFrame) :
    (m.offerOrder f).1.statePending = false ∨ 8 ≤ (m.offerOrder f).1.outbound.length := by
  unfold Mpt.offerOrder
  split
  · refine .inl ?_
    unfold Mpt.appendOrder
    split
    · rfl
    · exact h
  · next hfull =>
    have hlength : 8 ≤ m.outbound.length := Nat.not_lt.mp hfull
    split
    · next hany =>
      obtain ⟨g, hg, hstate⟩ := List.any_eq_true.mp hany
      refine .inr ?_
      rw [Mpt.appendOrder, List.length_append, List.length_eraseP_of_mem hg hstate, List.length_singleton]
      omega
    · split
      · exact .inr hlength
      · exact .inl h

theorem OutFrame.not_state_of_answer (h : f.isAnswer = true) : f.isState = false := by
  cases f <;> first | rfl | cases h

/-- An answer at the head stays there (R177). -/
theorem Mpt.offerOrder_head (h : m.outbound.head? = some a) (ha : a.isAnswer = true) :
    (m.offerOrder f).1.outbound.head? = some a := by
  obtain ⟨rest, hcons⟩ : ∃ rest, m.outbound = a :: rest := by
    cases hm : m.outbound with
    | nil => simp [hm] at h
    | cons b rest => exact ⟨rest, by simpa [hm] using h⟩
  unfold Mpt.offerOrder Mpt.appendOrder
  split
  · simp [hcons]
  · split
    · simp [hcons, OutFrame.not_state_of_answer ha]
    · split <;> exact h

end

/-! ### The end of a transaction -/

section
variable {s u v : State} {read : Bool}

/-- What follows the frame of a transaction: an owed SWEEP and a pending STATE (R178). -/
def State.finish (s : State) (read : Bool) : State := (if read then s.reofferSweep else s).placePending

theorem exec_media {sent : Bool} (hp : s.powered = true) : exec (.mediaTransaction sent) s =
    .next ((s.readOut sent).1.finish (s.readOut sent).2).settleStandby := exec_event (fun s => s.transaction sent id) hp

/-- A command that is a frame of a transaction. -/
theorem exec_frame {c : Instr} {sent : Bool} (handle : State → State) (hp : s.powered = true)
    (h : exec c s = s.event (fun s => s.transaction sent handle) := by rfl) :
    exec c s = .next ((handle (s.readOut sent).1).finish (s.readOut sent).2).settleStandby :=
  exec_event (fun s => s.transaction sent handle) hp h

theorem State.reofferSweep_eq (s : State) : ∃ owed, s.reofferSweep =
    { s with mpt := s.reofferSweep.mpt, ere := { s.ere with sweepOwed := owed } } ∧
    s.reofferSweep.mpt = { s.mpt with
      outbound := s.reofferSweep.mpt.outbound, statePending := s.reofferSweep.mpt.statePending } := by
  unfold State.reofferSweep
  split
  · split
    · next o _ _ => exact ⟨!(s.mpt.offerOrder (.sweep o.start o.count)).2, rfl, Mpt.offerOrder_eq _ _⟩
    · exact ⟨s.ere.sweepOwed, rfl, rfl⟩
  · exact ⟨s.ere.sweepOwed, rfl, rfl⟩

theorem State.placePending_eq (s : State) : s.placePending = { s with mpt := { s.mpt with
    outbound := s.placePending.mpt.outbound, statePending := s.placePending.mpt.statePending } } := by
  unfold State.placePending
  split
  · split <;> rfl
  · rfl

/-- What the end of a transaction can change: the queue, the STATE-pending mark and the owing of a SWEEP. -/
theorem State.finish_eq (s : State) (read : Bool) : s.finish read = { s with
    mpt := { s.mpt with outbound := (s.finish read).mpt.outbound, statePending := (s.finish read).mpt.statePending },
    ere := { s.ere with sweepOwed := (s.finish read).ere.sweepOwed } } := by
  have hbase : ∃ o p w, (if read then s.reofferSweep else s) =
      { s with mpt := { s.mpt with outbound := o, statePending := p }, ere := { s.ere with sweepOwed := w } } := by
    split
    · obtain ⟨owed, h, hm⟩ := s.reofferSweep_eq
      rw [h, hm]
      exact ⟨_, _, _, rfl⟩
    · exact ⟨_, _, _, rfl⟩
  obtain ⟨o, p, w, h⟩ := hbase
  unfold State.finish
  rw [h, State.placePending_eq]

@[simp] theorem State.finish_ksc : (s.finish read).ksc = s.ksc := by rw [State.finish_eq]
@[simp] theorem State.finish_enu : (s.finish read).enu = s.enu := by rw [State.finish_eq]
@[simp] theorem State.finish_slt : (s.finish read).slt = s.slt := by rw [State.finish_eq]
@[simp] theorem State.finish_atg : (s.finish read).atg = s.atg := by rw [State.finish_eq]
@[simp] theorem State.finish_lkc : (s.finish read).lkc = s.lkc := by rw [State.finish_eq]
@[simp] theorem State.finish_rgt : (s.finish read).rgt = s.rgt := by rw [State.finish_eq]
@[simp] theorem State.finish_cxm : (s.finish read).cxm = s.cxm := by rw [State.finish_eq]
@[simp] theorem State.finish_dqq : (s.finish read).dqq = s.dqq := by rw [State.finish_eq]
@[simp] theorem State.finish_stc : (s.finish read).stc = s.stc := by rw [State.finish_eq]
@[simp] theorem State.finish_ppt : (s.finish read).ppt = s.ppt := by rw [State.finish_eq]
@[simp] theorem State.finish_powered : (s.finish read).powered = s.powered := by rw [State.finish_eq]
@[simp] theorem State.finish_freshCount : (s.finish read).freshCount = s.freshCount := by rw [State.finish_eq]
@[simp] theorem State.finish_pending : (s.finish read).pending = s.pending := by rw [State.finish_eq]

theorem Mpt.eq_but_queue {m n : Mpt} (ht : m.transaction = n.transaction) (ha : m.attached = n.attached)
    (hc : m.capacity = n.capacity) : m = { n with outbound := m.outbound, statePending := m.statePending } := by
  rw [← ht, ← ha, ← hc]

theorem Ere.eq_but_owed {d e : Ere} (hj : d.journal = e.journal) (ha : d.awaited = e.awaited)
    (hs : d.sweepState = e.sweepState) (ho : d.order = e.order) (hr : d.retry = e.retry) :
    d = { e with sweepOwed := d.sweepOwed } := by
  rw [← hj, ← ha, ← hs, ← ho, ← hr]

@[simp] theorem State.finish_transaction : (s.finish read).mpt.transaction = s.mpt.transaction := by rw [State.finish_eq]
@[simp] theorem State.finish_attached : (s.finish read).mpt.attached = s.mpt.attached := by rw [State.finish_eq]
@[simp] theorem State.finish_capacity : (s.finish read).mpt.capacity = s.mpt.capacity := by rw [State.finish_eq]
@[simp] theorem State.finish_journal : (s.finish read).ere.journal = s.ere.journal := by rw [State.finish_eq]
@[simp] theorem State.finish_awaited : (s.finish read).ere.awaited = s.ere.awaited := by rw [State.finish_eq]
@[simp] theorem State.finish_sweepState : (s.finish read).ere.sweepState = s.ere.sweepState := by rw [State.finish_eq]
@[simp] theorem State.finish_order : (s.finish read).ere.order = s.ere.order := by rw [State.finish_eq]
@[simp] theorem State.finish_retry : (s.finish read).ere.retry = s.ere.retry := by rw [State.finish_eq]

/-- With no STATE pending, or no room for it, and no SWEEP to offer again, the end of a transaction changes nothing. -/
theorem State.finish_quiet (hstate : s.mpt.statePending = false ∨ 8 ≤ s.mpt.outbound.length)
    (hsweep : s.ere.sweepOwed = false ∨ s.ere.order = none ∨ read = false) : s.finish read = s := by
  have hbase : (if read then s.reofferSweep else s) = s := by
    split
    · next hread =>
      unfold State.reofferSweep
      split
      · next o ho =>
        rw [if_neg]
        rcases hsweep with h | h | h
        · simp [h]
        · rw [ho] at h
          cases h
        · rw [hread] at h
          cases h
      · rfl
    · rfl
  unfold State.finish State.placePending
  rw [hbase]
  split
  · refine if_neg fun hplaced => ?_
    rw [Bool.and_eq_true, decide_eq_true_eq] at hplaced
    rcases hstate with h | h
    · exact absurd (hplaced.1.symm.trans h) (by decide)
    · exact absurd hplaced.2 (Nat.not_lt.mpr h)
  · rfl

theorem State.placePending_head {a : OutFrame} (h : s.mpt.outbound.head? = some a) :
    s.placePending.mpt.outbound.head? = some a := by
  unfold State.placePending
  split
  · split
    · simp [Mpt.appendOrder, h]
    · exact h
  · exact h

theorem State.finish_head {a : OutFrame} (h : s.mpt.outbound.head? = some a) (ha : a.isAnswer = true) :
    (s.finish read).mpt.outbound.head? = some a := by
  unfold State.finish
  refine State.placePending_head ?_
  split
  · unfold State.reofferSweep
    split
    · split
      · exact Mpt.offerOrder_head h ha
      · exact h
    · exact h
  · exact h

/-- What a frame changes is what it changes between the ends of the two transactions, the queue and its marks apart. -/
theorem State.finish_sameExcept {L : List Block} (h : u.sameExcept v L) :
    (u.finish read).settleStandby.sameExcept (v.finish read).settleStandby (.mpt :: .ere :: L) := by
  have hfinish (x : State) : x.sameExcept (x.finish read) [.mpt, .ere] := by
    rw [State.finish_eq]
    simp [State.sameExcept_iff]
  exact ((((hfinish u).symm.trans h).trans (hfinish v)).mono (by simp; tauto)).settle

/-- A frame that is answered: the answer at the head, and the queue behind it as the transaction leaves it. -/
theorem State.answers_of_finish {answer : OutFrame} (ha : answer.isAnswer = true)
    (hm : v.mpt = u.mpt.placeAnswer answer) (he : v.ere = u.ere) (hs : u.mpt.statePending = s.mpt.statePending)
    (hw : u.ere.sweepOwed = s.ere.sweepOwed) :
    s.answers (u.finish read).settleStandby (v.finish read).settleStandby answer := by
  refine ⟨State.finish_head (by rw [hm]; rfl) ha, ?_, ?_, fun hstate hsweep => ?_⟩
  · exact Mpt.eq_but_queue (by simp [hm, Mpt.placeAnswer]) (by simp [hm, Mpt.placeAnswer]) (by simp [hm, Mpt.placeAnswer])
  · exact Ere.eq_but_owed (by simp [he]) (by simp [he]) (by simp [he]) (by simp [he]) (by simp [he])
  · have hv : v.finish read = v := State.finish_quiet (.inl (by rw [hm]; exact hs.trans hstate)) (.inl (by rw [he]; exact hw.trans hsweep))
    have hu : u.finish read = u := State.finish_quiet (.inl (hs.trans hstate)) (.inl (hw.trans hsweep))
    rw [hv, hu]
    exact ⟨hm, he⟩

end

/-! ### The reading out -/

section
variable {s : State} {sent : Bool}

/-- A context entry but for its reply timer. -/
def ContextEntry.untimed : ContextEntry → ContextEntry
  | .loading r o n _ => .loading r o n .stopped
  | .purging r o _ => .purging r o .stopped
  | e => e

theorem ContextEntry.untimed_loaded {e : ContextEntry} {r : RangeIx} {o : Byte} :
    e.untimed = .loaded r o ↔ e = .loaded r o := by
  cases e <;> simp [ContextEntry.untimed]

theorem ContextEntry.untimed_empty {e : ContextEntry} : e.untimed = .empty ↔ e = .empty := by
  cases e <;> simp [ContextEntry.untimed]

theorem ContextEntry.heldRange_untimed (e : ContextEntry) : e.untimed.heldRange = e.heldRange := by
  cases e <;> rfl

/-- The entries of two context maps agree but for their reply timers. -/
def sameLoads (a b : Vector ContextEntry 4) : Prop := ∀ i : CtxIx, a[i].untimed = b[i].untimed

theorem sameLoads.loaded {a b : Vector ContextEntry 4} (h : sameLoads a b) (i : CtxIx) (r : RangeIx) (o : Byte) :
    a[i] = .loaded r o ↔ b[i] = .loaded r o := by
  rw [← ContextEntry.untimed_loaded, h i, ContextEntry.untimed_loaded]

theorem sameLoads.empty {a b : Vector ContextEntry 4} (h : sameLoads a b) (i : CtxIx) : a[i] = .empty ↔ b[i] = .empty := by
  rw [← ContextEntry.untimed_empty, h i, ContextEntry.untimed_empty]

theorem sameLoads.heldRange {a b : Vector ContextEntry 4} (h : sameLoads a b) (i : CtxIx) :
    a[i].heldRange = b[i].heldRange := by
  rw [← ContextEntry.heldRange_untimed, h i, ContextEntry.heldRange_untimed]

theorem sameLoads.loading {a b : Vector ContextEntry 4} (h : sameLoads a b) {i : CtxIx} {r : RangeIx} {o : Byte} {n : Nat}
    {t : ReplyTimer} (hb : b[i] = .loading r o n t) : ∃ t', a[i] = .loading r o n t' := by
  have := h i
  rw [hb] at this
  cases ha : a[i] with
  | loading r' o' n' t' =>
    rw [ha] at this
    simp only [ContextEntry.untimed, ContextEntry.loading.injEq] at this
    obtain ⟨rfl, rfl, rfl, -⟩ := this
    exact ⟨t', rfl⟩
  | _ =>
    rw [ha] at this
    cases this

theorem sameLoads.purging {a b : Vector ContextEntry 4} (h : sameLoads a b) {i : CtxIx} {r : RangeIx} {o : Byte}
    {t : ReplyTimer} (hb : b[i] = .purging r o t) : ∃ t', a[i] = .purging r o t' := by
  have := h i
  rw [hb] at this
  cases ha : a[i] with
  | purging r' o' t' =>
    rw [ha] at this
    simp only [ContextEntry.untimed, ContextEntry.purging.injEq] at this
    obtain ⟨rfl, rfl, -⟩ := this
    exact ⟨t', rfl⟩
  | _ =>
    rw [ha] at this
    cases this

theorem sameLoads.symm {a b : Vector ContextEntry 4} (h : sameLoads a b) : sameLoads b a := fun i => (h i).symm

theorem sameLoads_set {a : Vector ContextEntry 4} {i : CtxIx} {e : ContextEntry} (h : e.untimed = a[i].untimed) :
    sameLoads (a.set i e) a := by
  intro j
  rw [getElem_set_fin]
  split
  · next hij => rw [h, hij]
  · rfl

/-- The reading of a frame changes at most the reply timer of its context's entry (R130, R135). -/
theorem State.frameRead_eq (s : State) (f : OutFrame) : ∃ es, s.frameRead f = { s with cxm := { s.cxm with entries := es } } ∧
    sameLoads es s.cxm.entries := by
  have hsame : ∃ es, s = { s with cxm := { s.cxm with entries := es } } ∧ sameLoads es s.cxm.entries :=
    ⟨_, rfl, fun _ => rfl⟩
  unfold State.frameRead
  split
  · exact hsame
  split
  · split
    · next h =>
      split
      · exact ⟨_, rfl, sameLoads_set (by rw [h]; rfl)⟩
      · exact hsame
    · exact hsame
  · split
    · next h =>
      split
      · exact ⟨_, rfl, sameLoads_set (by rw [h]; rfl)⟩
      · exact hsame
    · exact hsame
  · exact hsame

/-- What is read out (R174): the head frame where it was sent or is an answer, with the reply timer that waits for it. -/
theorem State.readOut_eq (s : State) (sent : Bool) : ∃ o es, (s.readOut sent).1 =
      { s with mpt := { s.mpt with transaction := none, outbound := o }, cxm := { s.cxm with entries := es } } ∧
    sameLoads es s.cxm.entries ∧ (o = s.mpt.outbound ∨ (s.readOut sent).2 = true ∧ ∃ f, s.mpt.outbound = f :: o) ∧
    (s.mpt.outbound = [] → (s.readOut sent).2 = false) := by
  unfold State.readOut
  dsimp only
  split
  · next f rest hout =>
    split
    · obtain ⟨es, hread, hloads⟩ :=
        State.frameRead_eq { s with mpt := { s.mpt with transaction := none, outbound := rest } } f
      rw [hread]
      exact ⟨rest, es, rfl, hloads, .inr ⟨rfl, f, hout⟩, fun h => by rw [hout] at h; cases h⟩
    · exact ⟨_, _, rfl, fun _ => rfl, .inl rfl, fun _ => rfl⟩
  · exact ⟨_, _, rfl, fun _ => rfl, .inl rfl, fun _ => rfl⟩

end

end Sys2Proof.Machine
end

section
/-! SUPPORT. The erase engine's steps as equations (R147 to R154). -/

namespace Sys2Proof.Machine

set_option Elab.async false

section
variable (s : State)

/-! ### What the engine offers -/

theorem State.zeroiseSlot_offers (k : SlotIx) : ∃ q, s.zeroiseSlot k =
      { s with slt := { s.slt with slots := s.slt.slots.set k .empty }, ere := { s.ere with awaited := some (.slt k) },
               stc := q } ∧ s.stc.Admits (.slt k .empty) (some .erase) q := by
  obtain ⟨q, hoffer, -, hadmits⟩ := s.offerReserved_eq (.slt k .empty) (some .erase)
  refine ⟨q, ?_, hadmits⟩
  unfold State.zeroiseSlot
  rw [hoffer]
  rfl

theorem State.factoryRange_offers (k : RangeIx) : ∃ q, s.factoryRange k =
      { s with rgt := { s.rgt with live := s.rgt.live.set k (.factory k), staged := s.rgt.staged.set k (.factory k) },
               ere := { s.ere with awaited := some (.rng k) }, stc := q } ∧
    s.stc.Admits (.rng k (.factory k)) (some .erase) q := by
  obtain ⟨q, hoffer, -, hadmits⟩ := s.offerReserved_eq (.rng k (.factory k)) (some .erase)
  refine ⟨q, ?_, hadmits⟩
  unfold State.factoryRange
  rw [hoffer]
  rfl

theorem State.clearGuard_offers : ∃ q, s.clearGuard =
      { s with atg := { s.atg with counter := 0, bko := { s.atg.bko with active := none } },
               ere := { s.ere with awaited := some .bko }, stc := q } ∧
    (s.stc.lawful → q.sends (.att 0) none ∧ q.sends (.bko { s.atg.bko with active := none }) (some .erase)) := by
  obtain ⟨p, hatt, -, hpadmits, hpsends, -⟩ := s.offerGuard_eq (.att 0) none rfl
  obtain ⟨q, hbko, -, hqadmits, hqsends, -⟩ := State.offerGuard_eq (s.offerGuard (.att 0) none)
    (.bko { s.atg.bko with active := none }) (some .erase) rfl
  have hlawful : s.stc.lawful → (s.offerGuard (.att 0) none).stc.lawful := State.offer_lawful .ordinary (.att 0) none
  unfold State.clearGuard
  dsimp only
  have hbko' : (s.offerGuard (.att 0) none).atg.bko = s.atg.bko := by
    rw [hatt]
    rfl
  rw [hbko', hbko]
  rw [hatt] at hlawful hqadmits hqsends ⊢
  exact ⟨q, rfl, fun hl => ⟨hqadmits.sends nofun (hpsends (Stc.hasRoom_of_guard hl rfl)),
    hqsends (Stc.hasRoom_of_guard (hlawful hl) rfl)⟩⟩

/-- A journal write at a lawful store is on its way and awaited. -/
def State.journalSent (s : State) : Prop := s.ere.awaited = some .ejr → s.stc.sends (.ejr s.ere.journal) (some .erase)

theorem State.putJournal_sent (j : Journal) (hl : s.stc.lawful) : (s.putJournal j).journalSent := by
  obtain ⟨q, hput, -, -, hsends, -⟩ := s.putJournal_eq j
  rw [hput]
  exact fun _ => hsends (Stc.hasRoom_of_guard hl rfl)

/-- The end of a sweep or of the ranges: the IDLE record, and no order (R150, R154). -/
theorem State.eraseFinish_offers (cursor : Option Lba) (incomplete : Bool) : ∃ q, s.eraseFinish cursor incomplete =
      { s with ere := { s.ere with
                 order := none, sweepOwed := false, awaited := some .ejr,
                 journal := { phase := .idle, next := none, cursor := cursor, sweepEnd := none, incomplete := incomplete } },
               stc := q } ∧ q.cells = s.stc.cells := by
  obtain ⟨q, hput, -, hadmits, -⟩ := State.putJournal_eq { s with ere := { s.ere with order := none, sweepOwed := false } }
    { phase := .idle, next := none, cursor := cursor, sweepEnd := none, incomplete := incomplete }
  exact ⟨q, hput, hadmits.cells⟩

theorem State.giveOrder_eq (cursor sweepEnd : Lba) : ∃ owed, s.giveOrder cursor sweepEnd =
      { s with ere := { s.ere with order := some (chunkAt cursor sweepEnd), retry := 1, sweepState := some .ordered,
                                   sweepOwed := owed },
               mpt := (s.mpt.offerOrder (.sweep cursor (chunkAt cursor sweepEnd).count)).1 } ∧
    (s.mpt.outbound.length < 8 → owed = false) := by
  refine ⟨!(s.mpt.offerOrder (.sweep cursor (chunkAt cursor sweepEnd).count)).2, rfl, fun h => ?_⟩
  rw [Mpt.offerOrder_room h rfl]
  rfl

end

/-! ### The steps by the journal's phase -/

section
variable {s : State}

theorem State.leavePaused_gives {cursor sweepEnd : Lba} (hc : s.ere.journal.cursor = some cursor)
    (he : s.ere.journal.sweepEnd = some sweepEnd) : s.leavePaused = s.giveOrder cursor sweepEnd := by
  unfold State.leavePaused
  rw [hc, he]

theorem State.leavePaused_records {capacity : BitVec 64} (hc : s.ere.journal.cursor = none)
    (hcap : s.mpt.capacity = some capacity) (hne : capacity ≠ 0) : s.leavePaused =
      State.putJournal { s with ere := { s.ere with sweepState := some .recording } }
        { phase := .sweep, next := none, cursor := some 0, sweepEnd := some (sweepEndOf capacity), incomplete := false } := by
  unfold State.leavePaused
  rw [hc]
  dsimp only
  rw [hcap]
  exact if_neg hne

theorem State.leavePaused_finishes (hc : s.ere.journal.cursor = none) (hcap : s.mpt.capacity = some 0) :
    s.leavePaused = s.eraseFinish none false := by
  unfold State.leavePaused
  rw [hc]
  dsimp only
  rw [hcap]
  exact if_pos rfl

theorem State.leavePaused_frame (s : State) : ∃ d q m, s.leavePaused = { s with ere := d, stc := q, mpt := m } := by
  unfold State.leavePaused
  split
  · exact ⟨_, _, _, rfl⟩
  · dsimp only
    split
    · obtain ⟨q, hfinish, -⟩ := s.eraseFinish_offers none false
      exact ⟨_, q, _, hfinish⟩
    · obtain ⟨q, hput, -⟩ := State.putJournal_eq { s with ere := { s.ere with sweepState := some .recording } }
        { phase := .sweep, next := none, cursor := some 0, sweepEnd := some (sweepEndOf (s.mpt.capacity.getD 0)),
          incomplete := false }
      exact ⟨_, q, _, hput⟩

theorem State.pausedOrOn_off (h : s.mpt.attached = false) :
    s.pausedOrOn = { s with ere := { s.ere with sweepState := some .paused } } := if_neg (by simp [h])

theorem State.pausedOrOn_on (h : s.mpt.attached = true) :
    s.pausedOrOn = State.leavePaused { s with ere := { s.ere with sweepState := some .paused } } := if_pos h

theorem State.journalStep_zeroise {k : SlotIx} (hp : s.ere.journal.phase = .zeroise) (hn : s.ere.journal.next = some k.val) :
    s.journalStep = s.zeroiseSlot k := by
  unfold State.journalStep
  rw [hp, hn]
  exact dif_pos k.isLt

theorem State.journalStep_ranges {k : RangeIx} (hp : s.ere.journal.phase = .ranges) (hn : s.ere.journal.next = some k.val) :
    s.journalStep = s.factoryRange k := by
  unfold State.journalStep
  rw [hp, hn]
  exact dif_pos k.isLt

variable {cell : Cell}

theorem State.ereWriteEnd_journal (ha : s.ere.awaited = some .ejr)
    (hp : s.ere.journal.phase = .zeroise ∨ s.ere.journal.phase = .ranges) : s.ereWriteEnd .ejr = s.journalStep := by
  unfold State.ereWriteEnd
  rw [if_pos ha]
  rcases hp with hp | hp <;> rw [hp]

theorem State.ereWriteEnd_sweep (ha : s.ere.awaited = some .ejr) (hp : s.ere.journal.phase = .sweep) :
    s.ereWriteEnd .ejr = State.pausedOrOn { s with ere := { s.ere with awaited := none } } := by
  unfold State.ereWriteEnd
  rw [if_pos ha, hp]

theorem State.ereWriteEnd_idle (ha : s.ere.awaited = some .ejr) (hp : s.ere.journal.phase = .idle) :
    s.ereWriteEnd .ejr = s.eraseEnd := by
  unfold State.ereWriteEnd
  rw [if_pos ha, hp]

theorem State.ereWriteEnd_slot {k : SlotIx} (ha : s.ere.awaited = some (.slt k)) (hp : s.ere.journal.phase = .zeroise) :
    s.ereWriteEnd (.slt k) = s.putJournal (if k = 4 then .at .ranges 0 else .at .zeroise (k.val + 1)) := by
  unfold State.ereWriteEnd
  rw [if_pos ha, hp]

theorem State.ereWriteEnd_range {k : RangeIx} (ha : s.ere.awaited = some (.rng k)) (hp : s.ere.journal.phase = .ranges) :
    s.ereWriteEnd (.rng k) = if k = 7 then s.clearGuard else s.putJournal (.at .ranges (k.val + 1)) := by
  unfold State.ereWriteEnd
  rw [if_pos ha, hp]

theorem State.ereWriteEnd_guard (ha : s.ere.awaited = some .bko) (hp : s.ere.journal.phase = .ranges) :
    s.ereWriteEnd .bko = if s.stc.cfg.sweep then
        s.putJournal { phase := .sweep, next := none, cursor := none, sweepEnd := none, incomplete := false }
      else s.eraseFinish none false := by
  unfold State.ereWriteEnd
  rw [if_pos ha, hp]

theorem State.journalStep_sent (hl : s.stc.lawful) (hr : s.ere.journal.inRange = true)
    (hp : s.ere.journal.phase = .zeroise ∨ s.ere.journal.phase = .ranges) : s.journalStep.journalSent := by
  have hnext : s.ere.journal.next ≠ none := by
    intro hn
    unfold Journal.inRange at hr
    rcases hp with hp | hp <;> simp [hp, hn] at hr
  obtain ⟨k, hk⟩ := Option.ne_none_iff_exists'.mp hnext
  unfold State.journalStep
  rcases hp with hp | hp
  · rw [hp, hk]
    dsimp only
    split
    · exact nofun
    · exact s.putJournal_sent _ hl
  · rw [hp, hk]
    dsimp only
    split
    · exact nofun
    · exact nofun

theorem State.leavePaused_sent (hl : s.stc.lawful) (ha : s.ere.awaited = none) : s.leavePaused.journalSent := by
  unfold State.leavePaused
  split
  · exact fun h => nomatch ha.symm.trans h
  · dsimp only
    split
    · exact State.putJournal_sent _ _ hl
    · exact State.putJournal_sent _ _ hl

/-- The engine's steps leave of SLT everything but the slot records. -/
def State.slotsStand (s t : State) : Prop := ∃ slots, t.slt = { s.slt with slots := slots }

theorem State.putJournal_slotsStand (j : Journal) : s.slotsStand (s.putJournal j) := by
  obtain ⟨q, hput, -⟩ := s.putJournal_eq j
  rw [hput]
  exact ⟨_, rfl⟩

theorem State.eraseFinish_slotsStand (cursor : Option Lba) (incomplete : Bool) :
    s.slotsStand (s.eraseFinish cursor incomplete) := by
  obtain ⟨q, hfinish, -⟩ := s.eraseFinish_offers cursor incomplete
  rw [hfinish]
  exact ⟨_, rfl⟩

theorem State.clearGuard_slotsStand : s.slotsStand s.clearGuard := by
  obtain ⟨q, hclear, -⟩ := s.clearGuard_offers
  rw [hclear]
  exact ⟨_, rfl⟩

theorem State.leavePaused_slotsStand : s.slotsStand s.leavePaused := by
  unfold State.leavePaused
  split
  · exact ⟨_, rfl⟩
  · dsimp only
    split
    · exact State.eraseFinish_slotsStand _ _
    · exact State.putJournal_slotsStand (s := { s with ere := { s.ere with sweepState := some .recording } }) _

theorem State.journalStep_slotsStand : s.slotsStand s.journalStep := by
  unfold State.journalStep
  split
  · next k _ _ =>
    split
    · next hk =>
      obtain ⟨q, hslot, -⟩ := s.zeroiseSlot_offers ⟨k, hk⟩
      rw [hslot]
      exact ⟨_, rfl⟩
    · exact State.putJournal_slotsStand _
  · next k _ _ =>
    split
    · next hk =>
      obtain ⟨q, hrange, -⟩ := s.factoryRange_offers ⟨k, hk⟩
      rw [hrange]
      exact ⟨_, rfl⟩
    · exact State.clearGuard_slotsStand
  · exact ⟨_, rfl⟩

theorem State.ereWriteEnd_slotsStand (cell : Cell) : s.slotsStand (s.ereWriteEnd cell) := by
  unfold State.ereWriteEnd
  split
  · split
    · exact State.journalStep_slotsStand
    · exact State.putJournal_slotsStand _
    · exact State.journalStep_slotsStand
    · split
      · exact State.clearGuard_slotsStand
      · exact State.putJournal_slotsStand _
    · split
      · exact State.putJournal_slotsStand _
      · exact State.eraseFinish_slotsStand _ _
    · unfold State.pausedOrOn
      dsimp only
      split
      · exact State.leavePaused_slotsStand
          (s := { s with ere := { s.ere with awaited := none, sweepState := some .paused } })
      · exact ⟨_, rfl⟩
    · exact ⟨_, rfl⟩
    · exact ⟨_, rfl⟩
  · exact ⟨_, rfl⟩

/-- Of a lawful store and a journal in its ranges, a journal write that a step queues is on its way (R147). -/
theorem State.ereWriteEnd_sent (hl : s.stc.lawful) (hr : s.ere.journal.inRange = true) (ha : s.ere.awaited = some cell) :
    (s.ereWriteEnd cell).journalSent := by
  unfold State.ereWriteEnd
  rw [if_pos ha]
  split
  · next hp => exact State.journalStep_sent hl hr (.inl hp)
  · exact s.putJournal_sent _ hl
  · next hp => exact State.journalStep_sent hl hr (.inr hp)
  · split
    · exact nofun
    · exact s.putJournal_sent _ hl
  · split
    · exact s.putJournal_sent _ hl
    · exact State.putJournal_sent _ _ hl
  · unfold State.pausedOrOn
    dsimp only
    split
    · exact State.leavePaused_sent (by exact hl) rfl
    · exact nofun
  · exact nofun
  · next hze _ hre _ _ hse hie =>
    intro he
    have hcell := Option.some.inj (ha.symm.trans he)
    cases hp : s.ere.journal.phase with
    | idle => exact (hie hp hcell).elim
    | zeroise => exact (hze hp hcell).elim
    | ranges => exact (hre hp hcell).elim
    | sweep => exact (hse hp hcell).elim

end

/-! ### An ATTACH (R13, R153) -/

/-- The steps of an ATTACH before the sweep: the flag and the capacity, the wake, the lock state, the parked entries. -/
def State.attachTaken (s : State) (capacity : BitVec 64) : State :=
  (({ s with mpt := { s.mpt with attached := true, capacity := some capacity } } : State).wake.attachLock).markStale

theorem State.attachFrame_eq (s : State) (capacity : BitVec 64) :
    s.attachFrame capacity = (s.attachTaken capacity).resumeSweep := rfl

/-- A parked entry made stale where it is READY (R139). -/
def Parked.staled (p : Parked) : Parked :=
  match p.state with
  | .ready d _ e => { p with state := .ready d true e }
  | .waiting => p

theorem State.markStale_eq (s : State) : s.markStale = { s with dqq := s.dqq.map Parked.staled } := rfl

theorem State.wake_eq (s : State) : ∃ k, s.wake = { s with enu := { s.enu with standby := false }, ksc := k } := by
  unfold State.wake
  split
  · exact ⟨_, rfl⟩
  · next h =>
    have hf : s.enu.standby = false := Bool.eq_false_iff.mpr h
    exact ⟨s.ksc, by rw [← hf]⟩

/-- LKC after an ATTACH (R13). -/
def Lkc.attached (l : Lkc) (idle : Nat) : Lkc :=
  if l.lockState = some .openPending then
    { l with lockState := some .opened, windowTimer := .stopped, idleTimer := if idle = 0 then .held else .running 0 }
  else l

theorem State.attachTaken_eq (s : State) (capacity : BitVec 64) : ∃ k o p, s.attachTaken capacity =
      { s with ksc := k, enu := { s.enu with standby := false }, lkc := s.lkc.attached s.stc.cfg.idle,
               mpt := { s.mpt with attached := true, capacity := some capacity, outbound := o, statePending := p },
               dqq := s.dqq.map Parked.staled } ∧
    (s.lkc.lockState = some .openPending → o.getLast? = some (.state .opened) ∨ p = true) := by
  obtain ⟨k, hwake⟩ := State.wake_eq { s with mpt := { s.mpt with attached := true, capacity := some capacity } }
  unfold State.attachTaken State.attachLock
  rw [hwake]
  by_cases hl : s.lkc.lockState = some .openPending
  · rw [if_pos (by exact hl)]
    refine ⟨k, _, _, ?_, fun _ => Mpt.offerOrder_state { s.mpt with attached := true, capacity := some capacity } .opened⟩
    rw [State.markStale_eq, Lkc.attached, if_pos hl]
    dsimp only [State.sendState, State.sendOrder, State.startIdle, State.setLockState]
    rw [Mpt.offerOrder_eq]
  · rw [if_neg (by exact hl), State.markStale_eq, Lkc.attached, if_neg hl]
    exact ⟨k, s.mpt.outbound, s.mpt.statePending, rfl, fun h => absurd h hl⟩

theorem State.resumeSweep_paused {s : State} (hp : s.ere.journal.phase = .sweep) (hs : s.ere.sweepState = some .paused) :
    s.resumeSweep = s.leavePaused := if_pos (by simp [hp, hs])

/-- Settles O60: the ends of the awaited writes by the journal's phase and the cell, and an ATTACH that meets a pause. -/
theorem eraseSteps : Obligations.EraseSteps := by
  unfold Obligations.EraseSteps
  constructor
  · intro s w r hp hr hw hends hawaiter hawaited hbuild hretire
    have htell := State.tellEnd_erase (s := s.afterWrite w r) hawaiter (decide (r = .agrees))
    obtain ⟨slots, hslt⟩ := (s.afterWrite w r).ereWriteEnd_slotsStand w.entry.cell
    obtain ⟨q, hexec, htakes⟩ := exec_storeWriteEnd_quiet hp hr hw hends htell (by rw [hslt]; exact hretire)
      (by rw [hslt]; exact hbuild)
    have hsent (hl : s.stc.lawful) (hrange : s.ere.journal.inRange = true) :=
      State.ereWriteEnd_sent (s := s.afterWrite w r) (Stc.afterWrite_lawful (w := w) (r := r) hl) hrange hawaited
    generalize he : (s.afterWrite w r).ereWriteEnd w.entry.cell = e at hexec htakes hsent
    refine ⟨_, hexec, fun hl hrange ha => (htakes.sends (hsent hl hrange ha)).awaited, fun j hwrite hj => ?_,
      fun k record hwrite hphase => ?_, fun k record hwrite hphase => ?_, fun record hwrite hphase => ?_⟩
    · have hcell : w.entry.cell = .ejr := congrArg CellWrite.cell hwrite
      rw [hcell] at he hawaited
      subst hj
      refine ⟨fun k hphase hnext => ?_, fun k hphase hnext => ?_, fun hphase => ?_, fun hphase => ?_⟩
      · obtain ⟨p, hslot, hadmits⟩ := (s.afterWrite w r).zeroiseSlot_offers k
        rw [State.ereWriteEnd_journal (by exact hawaited) (.inl (by exact hphase)), State.journalStep_zeroise (s := s.afterWrite w r) hphase hnext,
          hslot] at he
        subst he
        exact ⟨rfl, rfl, fun _ => (htakes.owes _).mpr hadmits.owed_awaited, rfl, rfl, rfl⟩
      · obtain ⟨p, hslot, hadmits⟩ := (s.afterWrite w r).factoryRange_offers k
        rw [State.ereWriteEnd_journal (by exact hawaited) (.inr (by exact hphase)), State.journalStep_ranges (s := s.afterWrite w r) hphase hnext,
          hslot] at he
        subst he
        exact ⟨rfl, fun _ => (htakes.owes _).mpr hadmits.owed_awaited, rfl, rfl, rfl, rfl⟩
      · rw [State.ereWriteEnd_sweep (by exact hawaited) (by exact hphase)] at he
        set v : State := { s.afterWrite w r with ere := { s.ere with awaited := none, sweepState := some .paused } } with hv
        by_cases hattached : s.mpt.attached = true
        · rw [State.pausedOrOn_on (by exact hattached)] at he
          change v.leavePaused = e at he
          obtain ⟨d, p, m, hframe⟩ := v.leavePaused_frame
          have hbase : e.lkc = s.lkc ∧ e.slt = s.slt ∧ e.rgt = s.rgt ∧ e.ppt = s.ppt.afterWrite r := by
            rw [← he, hframe]
            exact ⟨rfl, rfl, rfl, rfl⟩
          refine ⟨hbase.1, hbase.2.1, hbase.2.2.1, hbase.2.2.2, fun h => absurd (hattached.symm.trans h) (by decide),
            fun _ => ⟨fun cursor last hcursor hlast count hcount => ?_, fun capacity hcursor _ hcap hne => ?_,
              fun hcursor _ hcap => ?_⟩⟩
          · subst hcount
            obtain ⟨owed, hgive, howed⟩ := v.giveOrder_eq cursor last
            rw [State.leavePaused_gives (s := v) hcursor hlast, hgive] at he
            subst he
            exact ⟨rfl, fun hroom => ⟨howed hroom, congrArg (fun x : Mpt × Bool => x.1.outbound)
              (Mpt.offerOrder_room (m := s.mpt) hroom rfl)⟩⟩
          · obtain ⟨p, hput, -⟩ := State.putJournal_eq { v with ere := { v.ere with sweepState := some .recording } }
              { phase := .sweep, next := none, cursor := some 0, sweepEnd := some (sweepEndOf capacity), incomplete := false }
            rw [State.leavePaused_records (s := v) hcursor hcap hne, hput] at he
            subst he
            exact ⟨rfl, rfl, rfl⟩
          · obtain ⟨p, hfinish, -⟩ := v.eraseFinish_offers none false
            rw [State.leavePaused_finishes (s := v) hcursor hcap, hfinish] at he
            subst he
            exact ⟨rfl, rfl⟩
        · rw [State.pausedOrOn_off (by exact Bool.eq_false_iff.mpr hattached)] at he
          subst he
          exact ⟨rfl, rfl, rfl, rfl, fun _ => ⟨rfl, rfl⟩, fun h => absurd h hattached⟩
      · rw [State.ereWriteEnd_idle (by exact hawaited) (by exact hphase)] at he
        subst he
        exact ⟨rfl, rfl, rfl, rfl, rfl⟩
    · have hcell : w.entry.cell = .slt k := congrArg CellWrite.cell hwrite
      rw [hcell] at he hawaited
      obtain ⟨p, hput, -⟩ := (s.afterWrite w r).putJournal_eq (if k = 4 then .at .ranges 0 else .at .zeroise (k.val + 1))
      rw [State.ereWriteEnd_slot (by exact hawaited) (by exact hphase), hput] at he
      subst he
      refine ⟨rfl, rfl, rfl, ?_⟩
      show (if k = 4 then Journal.at .ranges 0 else .at .zeroise (k.val + 1)) = _
      by_cases hk : k = 4
      · rw [if_pos hk, if_pos hk, if_pos hk]
        rfl
      · rw [if_neg hk, if_neg hk, if_neg hk]
        rfl
    · have hcell : w.entry.cell = .rng k := congrArg CellWrite.cell hwrite
      rw [hcell] at he hawaited
      rw [State.ereWriteEnd_range (by exact hawaited) (by exact hphase)] at he
      by_cases hk : k = 7
      · obtain ⟨p, hclear, hsends⟩ := (s.afterWrite w r).clearGuard_offers
        rw [if_pos hk, hclear] at he
        subst he
        exact ⟨rfl, rfl, fun h => absurd hk h, fun _ => ⟨rfl, rfl, fun hl =>
          ⟨(htakes.sends (hsends hl).1).exists, (htakes.sends (hsends hl).2).awaited⟩⟩⟩
      · obtain ⟨p, hput, -⟩ := (s.afterWrite w r).putJournal_eq (.at .ranges (k.val + 1))
        rw [if_neg hk, hput] at he
        subst he
        exact ⟨rfl, rfl, fun _ => ⟨rfl, rfl, rfl⟩, fun h => absurd h hk⟩
    · have hcell : w.entry.cell = .bko := congrArg CellWrite.cell hwrite
      rw [hcell] at he hawaited
      rw [State.ereWriteEnd_guard (by exact hawaited) (by exact hphase)] at he
      by_cases hsweep : s.stc.cfg.sweep = true
      · obtain ⟨p, hput, -⟩ := (s.afterWrite w r).putJournal_eq
          { phase := .sweep, next := none, cursor := none, sweepEnd := none, incomplete := false }
        rw [if_pos (by exact hsweep), hput] at he
        subst he
        rw [if_pos hsweep]
        exact ⟨rfl, rfl, rfl, rfl⟩
      · obtain ⟨p, hfinish, -⟩ := (s.afterWrite w r).eraseFinish_offers none false
        rw [if_neg (by exact hsweep), hfinish] at he
        subst he
        rw [if_neg hsweep]
        exact ⟨rfl, rfl, rfl, rfl⟩
  · intro s sent capacity cursor last hp hphase hpaused hcursor hlast
    obtain ⟨o, es, hread, -⟩ := s.readOut_eq sent
    obtain ⟨k, o', p, htaken, -⟩ := (s.readOut sent).1.attachTaken_eq capacity
    have hexec := exec_frame (c := .attach sent capacity) (fun s => s.attachFrame capacity) hp
    obtain ⟨owed, hgive, -⟩ := ((s.readOut sent).1.attachTaken capacity).giveOrder_eq cursor last
    have hresume : (s.readOut sent).1.attachFrame capacity = ((s.readOut sent).1.attachTaken capacity).giveOrder cursor last := by
      rw [State.attachFrame_eq, State.resumeSweep_paused, State.leavePaused_gives]
      all_goals
        rw [htaken, hread]
        assumption
    rw [hresume, hgive, htaken, hread] at hexec
    exact ⟨_, hexec, State.finish_attached.trans (Mpt.offerOrder_frame _ _).1, Ere.eq_but_owed State.finish_journal State.finish_awaited
      State.finish_sweepState State.finish_order State.finish_retry⟩

end Sys2Proof.Machine
end

section
/-! SUPPORT. The steps of a decision (R116 to R121), and the tables that stay free of overlaps (R105, R114). -/

namespace Sys2Proof.Machine

set_option Elab.async false

/-! ### The searches of a decision -/

section
variable {s : State} {q : Query} {r : RangeIx} {d : RangeDef}

theorem Cxm.loadedFor_eq_some {c : Cxm} {i : CtxIx} (h : c.loadedFor r = some i) : ∃ o, c.entries[i] = .loaded r o := by
  have hfound := List.find?_some h
  split at hfound
  · next p o hentry => exact ⟨o, by rw [hentry, of_decide_eq_true hfound]⟩
  · cases hfound

/-- In a lawful map the entry LOADED for a range is the one that the search finds (R127). -/
theorem Cxm.loadedFor_of_loaded {c : Cxm} {i : CtxIx} {o : Byte} (hl : c.lawful) (h : c.entries[i] = .loaded r o) :
    c.loadedFor r = some i := by
  cases hfind : c.loadedFor r with
  | none => exact absurd h (Cxm.loadedFor_eq_none hfind i o)
  | some j =>
    obtain ⟨p, hj⟩ := Cxm.loadedFor_eq_some hfind
    rw [hl.1 i j r (by rw [h]; rfl) (by rw [hj]; rfl)]

theorem Cxm.loadedFor_of_none {c : Cxm} (h : ∀ (i : CtxIx) o, c.entries[i] ≠ .loaded r o) : c.loadedFor r = none := by
  cases hfind : c.loadedFor r with
  | none => rfl
  | some j =>
    obtain ⟨p, hj⟩ := Cxm.loadedFor_eq_some hfind
    exact absurd hj (h j p)

theorem List.find?_eq_some_of_unique {α : Type} {l : List α} {p : α → Bool} {a : α} (ha : a ∈ l) (hp : p a = true)
    (hu : ∀ b, p b = true → b = a) : l.find? p = some a := by
  cases h : l.find? p with
  | none => exact absurd hp (List.find?_eq_none.mp h a ha)
  | some b => rw [hu b (List.find?_some h)]

theorem State.rangeAt_of_holds {lba : Nat} (hlive : s.rgt.live[r] = .defined d) (hstart : d.start.toNat ≤ lba)
    (hstop : lba < d.stop s.capacityNat) (hu : ∀ k : RangeIx, k ≠ r → s.rgt.live[k].holdsLba s.capacityNat lba = false) :
    s.rangeAt lba = some (r, d) := by
  have hholds : s.rgt.live[r].holdsLba s.capacityNat lba = true := by
    rw [hlive]
    exact RangeRecord.holdsLba_defined.mpr ⟨hstart, hstop⟩
  have hfind : allRanges.find? (fun k => s.rgt.live[k].holdsLba s.capacityNat lba) = some r :=
    List.find?_eq_some_of_unique (mem_allRanges r) hholds fun k hk => by_contra fun hne => Bool.eq_false_iff.mp (hu k hne) hk
  unfold State.rangeAt
  rw [hfind, Option.bind_some, hlive]

theorem State.rangeAt_eq_none {lba : Nat} (h : ∀ k : RangeIx, s.rgt.live[k].holdsLba s.capacityNat lba = false) :
    s.rangeAt lba = none := by
  unfold State.rangeAt
  rw [List.find?_eq_none.mpr fun k _ => Bool.eq_false_iff.mp (h k)]
  rfl

/-! ### The steps in their order -/

theorem State.decideQuery_absent (h : s.lkc.lockState = none) : s.decideQuery q = .answer (.deny .notReady) := by
  unfold State.decideQuery
  rw [h]

/-- Steps 2 to 6 of a decision. -/
theorem State.decideQuery_present {l : LockState} (h : s.lkc.lockState = some l) : s.decideQuery q =
    if s.lkc.idnFault then .answer (.deny .fault)
    else if q.count = 0 then .answer (.deny .format)
    else if l = .erasing then .answer (.deny .erasing)
    else if l = .blank then .answer (.deny .blank)
    else if !s.mpt.attached then .answer (.deny .notReady)
    else if s.capacityNat ≤ q.lba.toNat then .answer (.deny .bounds)
    else s.decideSpan q := by
  unfold State.decideQuery
  rw [h]

/-- A query that passes the first six steps is decided by its range. -/
theorem State.decideQuery_span_of {l : LockState} (h : s.lkc.lockState = some l) (hfault : s.lkc.idnFault = false)
    (hcount : q.count ≠ 0) (he : l ≠ .erasing) (hb : l ≠ .blank) (ha : s.mpt.attached = true)
    (hmedia : q.lba.toNat < s.capacityNat) : s.decideQuery q = s.decideSpan q := by
  rw [State.decideQuery_present h, if_neg (by simp [hfault]), if_neg hcount, if_neg he, if_neg hb, if_neg (by simp [ha]),
    if_neg (Nat.not_le.mpr hmedia)]

theorem State.decideSpan_outside (h : s.rangeAt q.lba.toNat = none) : s.decideSpan q = .answer (.deny .outside) := by
  unfold State.decideSpan
  rw [h]

/-- Steps 8 to 11 of a decision, in the range that holds the LBA. -/
theorem State.decideSpan_inside (h : s.rangeAt q.lba.toNat = some (r, d)) : s.decideSpan q =
    if !s.canReach r d then .answer (unreachable d q.dir (grantedCount d s.capacityNat q.lba.toNat q.count.toNat)
      (decide (grantedCount d s.capacityNat q.lba.toNat q.count.toNat < q.count.toNat)))
    else if q.dir = .write && s.writeRefused d then .answer (.deny .readOnly)
    else s.grantOrLoad r (grantedCount d s.capacityNat q.lba.toNat q.count.toNat)
      (decide (grantedCount d s.capacityNat q.lba.toNat q.count.toNat < q.count.toNat)) := by
  unfold State.decideSpan
  rw [h]

theorem State.canReach_iff : s.canReach r d = true ↔
    d.cls = .pub ∨ (s.lkc.lockState = some .opened ∧ maskHas s.lkc.mask r = true) := by
  simp [State.canReach]

theorem State.writeRefused_iff : s.writeRefused d = true ↔
    d.policy = .readOnly ∨ s.lkc.role = some .reader ∨ (d.cls = .pub ∧ s.lkc.lockState ≠ some .opened) := by
  simp [State.writeRefused, or_assoc]

theorem State.grantOrLoad_none (h : s.lkc.keyBuffer[r] = none) (g : Nat) (part : Bool) :
    s.grantOrLoad r g part = .answer (.deny .fault) := if_pos (by rw [h]; rfl)

theorem State.grantOrLoad_grant {b : BufferKey} {i : CtxIx} (h : s.lkc.keyBuffer[r] = some b)
    (hi : s.cxm.loadedFor r = some i) (g : Nat) (part : Bool) : s.grantOrLoad r g part = .answer (.grant i g part) := by
  unfold State.grantOrLoad
  rw [h, hi]
  rfl

theorem State.grantOrLoad_load {b : BufferKey} (h : s.lkc.keyBuffer[r] = some b) (hi : s.cxm.loadedFor r = none) (g : Nat)
    (part : Bool) : s.grantOrLoad r g part = .load r := by
  unfold State.grantOrLoad
  rw [h, hi]
  rfl

theorem unreachable_hidden (h : d.cls = .hidden) (dir : Direction) (g : Nat) (part : Bool) :
    unreachable d dir g part = .deny .outside := if_pos h

theorem unreachable_fill (h : d.cls ≠ .hidden) {dir : Direction} (hdir : dir = .read) (hd : d.denial = .fill) (g : Nat)
    (part : Bool) : unreachable d dir g part = .fill g part := by
  unfold unreachable
  rw [if_neg h, if_pos (by simp [hdir, hd])]

theorem unreachable_locked (h : d.cls ≠ .hidden) {dir : Direction} (hd : dir = .write ∨ d.denial = .deny) (g : Nat)
    (part : Bool) : unreachable d dir g part = .deny .locked := by
  unfold unreachable
  rw [if_neg h, if_neg]
  rcases hd with hd | hd <;> simp [hd]

/-- Where a GRANT comes from: a range that can be reached, a WRITE that is not refused, a LOADED context. -/
theorem State.decideQuery_grant {i : CtxIx} {g : Nat} {part : Bool} (h : s.decideQuery q = .answer (.grant i g part)) :
    ∃ r d, s.rangeAt q.lba.toNat = some (r, d) ∧ s.canReach r d = true ∧
      (q.dir = .write → s.writeRefused d = false) ∧ s.cxm.loadedFor r = some i := by
  obtain ⟨e, hdeny⟩ | ⟨-, -, hspan⟩ := s.decideQuery_cases q
  · rw [hdeny] at h
    cases h
  rw [hspan] at h
  cases hat : s.rangeAt q.lba.toNat with
  | none =>
    rw [State.decideSpan_outside hat] at h
    cases h
  | some rd =>
    obtain ⟨r, d⟩ := rd
    rw [State.decideSpan_inside hat] at h
    by_cases hreach : s.canReach r d = true
    · rw [if_neg (by simp [hreach])] at h
      by_cases hwrite : q.dir = .write ∧ s.writeRefused d = true
      · rw [if_pos (by simpa using hwrite)] at h
        cases h
      · rw [if_neg (by simpa using hwrite)] at h
        refine ⟨r, d, rfl, hreach, fun hdir => Bool.eq_false_iff.mpr fun hr => hwrite ⟨hdir, hr⟩, ?_⟩
        unfold State.grantOrLoad at h
        split at h
        · cases h
        · split at h
          · next hload =>
            cases h
            exact hload
          · cases h
    · rw [if_pos (by simp [hreach])] at h
      unfold unreachable at h
      split at h
      · cases h
      · split at h <;> cases h

end

/-- Settles O15: a GRANT has passed the reach, the permission and the search for a LOADED context. -/
theorem grantNeedsReach : Obligations.GrantNeedsReach := by
  unfold Obligations.GrantNeedsReach
  intro s q i g part h
  obtain ⟨r, d, hat, hreach, hwrite, hload⟩ := State.decideQuery_grant h
  obtain ⟨hlive, hstart, hstop⟩ := State.rangeAt_eq_some hat
  obtain ⟨o, hentry⟩ := Cxm.loadedFor_eq_some hload
  have hopen (hcls : d.cls ≠ .pub) := (State.canReach_iff.mp hreach).resolve_left hcls
  refine ⟨r, d, o, hlive, hstart, hstop, hentry, hopen, fun hdir => ?_⟩
  have hnot := fun hr => Bool.eq_false_iff.mp (hwrite hdir) (State.writeRefused_iff.mpr hr)
  refine ⟨?_, fun hrole => hnot (.inr (.inl hrole)), ?_⟩
  · by_cases hcls : d.cls = .pub
    · exact by_contra fun hl => hnot (.inr (.inr ⟨hcls, hl⟩))
    · exact (hopen hcls).1
  · cases hpolicy : d.policy with
    | readWrite => rfl
    | readOnly => exact absurd (.inl hpolicy) hnot

/-- Settles O16: the first seven steps, and the range's own. -/
theorem decisionOrder : Obligations.DecisionOrder := by
  unfold Obligations.DecisionOrder
  constructor
  · intro s q
    refine ⟨State.decideQuery_absent, fun l hl => ?_⟩
    rw [State.decideQuery_present hl]
    refine ⟨fun hfault => if_pos hfault, fun hfault => ?_⟩
    rw [if_neg (by simp [hfault])]
    refine ⟨fun hcount => if_pos hcount, fun hcount => ?_⟩
    rw [if_neg hcount]
    refine ⟨fun he => if_pos he, fun hb => ?_, fun he hb => ?_⟩
    · rw [if_neg (by simp [hb]), if_pos hb]
    · rw [if_neg he, if_neg hb]
      refine ⟨fun ha => if_pos (by simp [ha]), fun ha => ?_⟩
      rw [if_neg (by simp [ha])]
      refine ⟨fun hbounds => if_pos hbounds, fun hmedia hnone => ?_⟩
      rw [if_neg (Nat.not_le.mpr hmedia), State.decideSpan_outside (State.rangeAt_eq_none hnone)]
  · intro s q l r d E g part reach hl hlock hfault hcount hattached hmedia hlive hstart hstop hu hE hg hpart hreach
    have hat := State.rangeAt_of_holds hlive hstart hstop hu
    have hgranted : grantedCount d s.capacityNat q.lba.toNat q.count.toNat = g := by
      rw [grantedCount_eq_min_last hstop hmedia, hg, hE]
    have hpartial : decide (g < q.count.toNat) = part := by
      rw [Bool.eq_iff_iff, decide_eq_true_eq, hpart]
    have hnot : l ≠ .erasing ∧ l ≠ .blank := by rcases hlock with rfl | rfl <;> decide
    have hopened : s.lkc.lockState = some .opened ↔ l = .opened := by rw [hl, Option.some.injEq]
    have hcan : s.canReach r d = reach := by
      rw [Bool.eq_iff_iff, State.canReach_iff, hopened, hreach]
    have hdecide := (State.decideQuery_span_of (q := q) hl hfault hcount hnot.1 hnot.2 hattached hmedia).trans
      (State.decideSpan_inside hat)
    rw [hgranted, hpartial, hcan] at hdecide
    rw [hdecide]
    refine ⟨fun hr => ?_, fun hr hdir hrefused => ?_, fun hr hallowed => ?_⟩
    · rw [if_pos (by simp [hr])]
      refine ⟨fun hc => by rw [unreachable_hidden hc], fun hc hdir hd => ?_, fun hc hd => ?_⟩
      · rw [unreachable_fill (by simp [hc]) hdir hd]
      · rw [unreachable_locked (by simp [hc]) hd]
    · have hwrite : s.writeRefused d = true := State.writeRefused_iff.mpr (by rw [ne_eq, hopened]; exact hrefused)
      rw [if_neg (by simp [hr]), if_pos (by simp [hdir, hwrite])]
    · have hpass : ¬ (decide (q.dir = .write) && s.writeRefused d) = true := by
        rw [Bool.and_eq_true, decide_eq_true_eq, State.writeRefused_iff, ne_eq, hopened]
        rintro ⟨hdir, hrefused⟩
        rcases hallowed with hread | ⟨hpolicy, hrole, hpub⟩
        · exact absurd (hdir.symm.trans hread) (by decide)
        · rcases hrefused with h | h | ⟨hcls, h⟩
          · exact absurd (hpolicy.symm.trans h) (by decide)
          · exact hrole h
          · exact h (hpub hcls)
      rw [if_neg (by simp [hr]), if_neg hpass]
      refine ⟨fun hkey => State.grantOrLoad_none hkey g part, fun b hkey => ⟨fun i o hlawful hentry => ?_, fun hno => ?_⟩⟩
      · exact State.grantOrLoad_grant hkey (Cxm.loadedFor_of_loaded hlawful hentry) g part
      · exact State.grantOrLoad_load hkey (Cxm.loadedFor_of_none hno) g part

/-! ### Tables without overlaps -/

theorem RangeRecord.conflicts_comm (a b : RangeRecord) : a.conflicts b = b.conflicts a := by
  cases a <;> cases b <;> simp only [RangeRecord.conflicts, RangeDef.overlaps]
  exact Bool.and_comm _ _

theorem RangeRecord.conflicts_unused_left (a : RangeRecord) : RangeRecord.unused.conflicts a = false := by
  cases a <;> rfl

theorem RangeRecord.conflicts_unused_right (a : RangeRecord) : a.conflicts .unused = false := by
  cases a <;> rfl

/-- No two of the first records conflict. -/
def validBelow (t : Vector RangeRecord 8) (n : Nat) : Prop :=
  ∀ i j : RangeIx, i.val < n → j.val < n → i ≠ j → t[i].conflicts t[j] = false

/-- One step of the setting aside of records that conflict with one of lower index (R114). -/
def setAsideOne (acc : Vector RangeRecord 8) (k : RangeIx) : Vector RangeRecord 8 :=
  if allRanges.any (fun j => j < k && acc[k].conflicts acc[j]) then acc.set k .unused else acc

theorem setAside_eq (t : Vector RangeRecord 8) : setAside t = allRanges.foldl setAsideOne t := rfl

theorem setAsideOne_valid {t : Vector RangeRecord 8} {k : RangeIx} (h : validBelow t k.val) :
    validBelow (setAsideOne t k) (k.val + 1) := by
  have hbelow {i : RangeIx} (hi : i.val < k.val + 1) (hne : i ≠ k) : i.val < k.val :=
    Nat.lt_of_le_of_ne (Nat.lt_succ_iff.mp hi) fun e => hne (Fin.ext e)
  intro i j hi hj hne
  unfold setAsideOne
  split
  · rw [getElem_set_fin, getElem_set_fin]
    split
    · exact RangeRecord.conflicts_unused_left _
    · next hik =>
      split
      · exact RangeRecord.conflicts_unused_right _
      · next hjk => exact h i j (hbelow hi (Ne.symm hik)) (hbelow hj (Ne.symm hjk)) hne
  · next hany =>
    have hfree (a : RangeIx) (ha : a.val < k.val) : t[k].conflicts t[a] = false :=
      Bool.eq_false_iff.mpr fun hc => hany (List.any_eq_true.mpr ⟨a, mem_allRanges a, by
        rw [Bool.and_eq_true, decide_eq_true_eq]
        exact ⟨ha, hc⟩⟩)
    by_cases hik : i = k
    · subst hik
      exact hfree j (hbelow hj (Ne.symm hne))
    · by_cases hjk : j = k
      · subst hjk
        rw [RangeRecord.conflicts_comm]
        exact hfree i (hbelow hi hik)
      · exact h i j (hbelow hi hik) (hbelow hj hjk) hne

theorem setAside_valid (t : Vector RangeRecord 8) : tableValid (setAside t) := by
  have hfold (n : Nat) (hn : n ≤ 8) : validBelow ((allRanges.take n).foldl setAsideOne t) n := by
    induction n with
    | zero => exact fun i _ hi => absurd hi (Nat.not_lt_zero _)
    | succ n ih =>
      have htake : allRanges.take (n + 1) = allRanges.take n ++ [⟨n, hn⟩] := by
        have hget : allRanges[n]? = some ⟨n, hn⟩ := by
          have hall : ∀ k : RangeIx, allRanges[k.val]? = some k := by decide
          exact hall ⟨n, hn⟩
        rw [List.take_add_one, hget]
        rfl
      rw [htake, List.foldl_append]
      exact setAsideOne_valid (k := ⟨n, hn⟩) (ih (Nat.le_of_succ_le hn))
  have hvalid := hfold 8 le_rfl
  exact fun i j hne => hvalid i j i.isLt j.isLt hne

theorem RangeRecord.conflicts_wrapped (d : RangeDef) (w : Option Wrapped) (r : RangeRecord) :
    (RangeRecord.defined { d with wrapped := w }).conflicts r = (RangeRecord.defined d).conflicts r := by
  cases r <;> rfl

/-- A record that fits, with any key, leaves the table free of overlaps (R105, R107). -/
theorem tableValid_set {t : Vector RangeRecord 8} {k : RangeIx} {d : RangeDef} (w : Option Wrapped) (h : tableValid t)
    (hfits : tableFits (t.set k (.defined d)) k = true) : tableValid (t.set k (.defined { d with wrapped := w })) := by
  have hfree (j : RangeIx) (hj : j ≠ k) : (RangeRecord.defined d).conflicts t[j] = false := by
    have := List.all_eq_true.mp hfits j (mem_allRanges j)
    rw [getElem_set_fin, if_pos rfl, getElem_set_fin, if_neg (Ne.symm hj)] at this
    simpa [hj] using this
  intro i j hne
  rw [getElem_set_fin, getElem_set_fin]
  by_cases hi : k = i
  · rw [if_pos hi, if_neg (fun hj => hne (hi.symm.trans hj)), RangeRecord.conflicts_wrapped]
    exact hfree j (fun hj => hne (hi.symm.trans hj.symm))
  · rw [if_neg hi]
    by_cases hj : k = j
    · rw [if_pos hj, RangeRecord.conflicts_comm, RangeRecord.conflicts_wrapped]
      exact hfree i (Ne.symm hi)
    · rw [if_neg hj]
      exact h i j hne

theorem State.rangeRefusal_fits {s : State} {k : RangeIx} {d : RangeDef} (h : s.rangeRefusal k d = none) :
    tableFits (s.rgt.staged.set k (.defined d)) k = true := by
  unfold State.rangeRefusal at h
  split_ifs at h with h1 h2 h3
  simpa using h3

theorem State.setRangeAct_valid {s : State} (index : Byte) (start count : Lba) (cls policy denial : Byte)
    (h : tableValid s.rgt.staged) : tableValid (s.setRangeAct index start count cls policy denial).rgt.staged := by
  unfold State.setRangeAct
  split
  · dsimp only
    split
    · exact h
    · next hfits =>
      rw [State.stageRange_eq]
      exact tableValid_set _ h (State.rangeRefusal_fits hfits)
  · exact h

/-- Settles O18: store-ready's table sets the conflicting records aside, and a staged edit is tested. -/
theorem tablesStayValid : Obligations.TablesStayValid := by
  unfold Obligations.TablesStayValid
  refine ⟨fun c => setAside_valid c.startRanges, fun s t index start count cls policy denial h hexec => ?_⟩
  by_cases hp : s.powered = true
  · have hevent := exec_event (c := .setRange index start count cls policy denial) (fun s => s.panelRequest .admin
      (setRangeCoded cls policy denial) (fun r => setRangeReply r index start count cls policy denial 0xFF)
      (fun s => s.setRangeAct index start count cls policy denial)) hp
    rw [hevent] at hexec
    cases hexec
    have htaken : s.requestTaken.rgt = s.rgt := by simp
    show tableValid (State.panelRequest s _ _ _ _).rgt.staged
    unfold State.panelRequest
    dsimp only
    split
    · split
      · simpa [State.setReply, State.touchSession] using h
      · simpa [State.setReply] using h
    · exact State.setRangeAct_valid _ _ _ _ _ _ (by rw [htaken]; exact h)
  · have hnext := State.event_unpowered s (fun s => s.panelRequest .admin (setRangeCoded cls policy denial)
      (fun r => setRangeReply r index start count cls policy denial 0xFF)
      (fun s => s.setRangeAct index start count cls policy denial)) (Bool.eq_false_iff.mpr hp)
    cases hexec.symm.trans hnext
    exact h

end Sys2Proof.Machine
end

section
/-! SUPPORT. Answers to queries: at once, and from a parked entry (R18, R125, R127, R138, R140). -/

namespace Sys2Proof.Machine

set_option Elab.async false

/-! ### Decisions of states that agree -/

section
variable {s t : State} {q : Query}

theorem Cxm.loadedFor_congr {c e : Cxm} (h : sameLoads c.entries e.entries) (r : RangeIx) : c.loadedFor r = e.loadedFor r := by
  cases hc : c.loadedFor r with
  | none =>
    refine (Cxm.loadedFor_of_none fun i o hi => ?_).symm
    exact Cxm.loadedFor_eq_none hc i o ((h.loaded i r o).mpr hi)
  | some i =>
    unfold Cxm.loadedFor at hc ⊢
    rw [← hc]
    congr 1
    funext j
    cases he : e.entries[j] with
    | loaded p o => rw [(h.loaded j p o).mpr he]
    | empty => rw [(h.empty j).mpr he]
    | loading p o n x =>
      obtain ⟨x', hx⟩ := h.loading he
      rw [hx]
    | purging p o x =>
      obtain ⟨x', hx⟩ := h.purging he
      rw [hx]

/-- A decision reads LKC, the live table, the port's flag and capacity, and which contexts are LOADED. -/
theorem State.decideQuery_congr (hlkc : t.lkc = s.lkc) (hrgt : t.rgt = s.rgt) (hattached : t.mpt.attached = s.mpt.attached)
    (hcapacity : t.mpt.capacity = s.mpt.capacity) (hloads : sameLoads t.cxm.entries s.cxm.entries) (q : Query) :
    t.decideQuery q = s.decideQuery q := by
  have hloaded (r : RangeIx) := Cxm.loadedFor_congr hloads r
  have hcap : t.capacityNat = s.capacityNat := by rw [State.capacityNat, State.capacityNat, hcapacity]
  unfold State.decideQuery State.decideSpan State.rangeAt State.canReach State.writeRefused State.grantOrLoad
  simp only [hlkc, hrgt, hattached, hcap, hloaded]

/-- The reading out leaves the decisions as they are. -/
theorem State.decideQuery_readOut (s : State) (sent : Bool) (q : Query) :
    (s.readOut sent).1.decideQuery q = s.decideQuery q := by
  obtain ⟨o, es, hread, hloads, -⟩ := s.readOut_eq sent
  have hlike := congrArg (fun t : State => (t.lkc, t.rgt, t.mpt.attached, t.mpt.capacity, t.cxm.entries)) hread
  simp only [Prod.mk.injEq] at hlike
  obtain ⟨hlkc, hrgt, hattached, hcapacity, hentries⟩ := hlike
  exact State.decideQuery_congr hlkc hrgt hattached hcapacity (by rw [hentries]; exact hloads) q

end

/-! ### A decision given as an answer -/

/-- The LRU list after a decision: a GRANT's context at the head (R127). -/
def Decision.recent (d : Decision) (lru : List CtxIx) : List CtxIx :=
  match d with
  | .grant i _ _ => i :: lru.filter (fun c => c ≠ i)
  | .fill _ _ | .deny _ => lru

/-- LKC after a decision: a GRANT or FILL in OPEN restarts the idle lock timer (R18). -/
def Decision.idled (d : Decision) (l : Lkc) : Lkc :=
  match d with
  | .grant _ _ _ | .fill _ _ => { l with idleTimer := if l.lockState = some .opened then l.idleTimer.restarted else l.idleTimer }
  | .deny _ => l

theorem State.restartIdle_eq (s : State) : s.restartIdle = { s with lkc := { s.lkc with
    idleTimer := if s.lkc.lockState = some .opened then s.lkc.idleTimer.restarted else s.lkc.idleTimer } } := by
  unfold State.restartIdle
  split <;> rfl

theorem State.giveAnswer_eq (s : State) (tag : Byte) (d : Decision) : s.giveAnswer tag d =
    { s with mpt := s.mpt.placeAnswer (d.frame tag), cxm := { s.cxm with lru := d.recent s.cxm.lru },
             lkc := d.idled s.lkc } := by
  unfold State.giveAnswer
  cases d with
  | grant i g part =>
    dsimp only
    rw [State.restartIdle_eq]
    rfl
  | fill g part =>
    dsimp only
    rw [State.restartIdle_eq]
    rfl
  | deny r => rfl

theorem Decision.frame_isAnswer (d : Decision) (tag : Byte) : (d.frame tag).isAnswer = true := by cases d <;> rfl

theorem Decision.frame_answerTag (d : Decision) (tag : Byte) : (d.frame tag).answerTag = some tag := by cases d <;> rfl

section
variable {s : State} {q : Query}

/-! ### A query and its parked entry -/

theorem State.accessFrame_tagged (h : q.tag.toNat ≤ 15) : s.accessFrame q = s.takeQuery q := if_pos h

theorem State.takeQuery_fresh (h : ∀ p ∈ s.dqq, p.query ≠ q) : s.takeQuery q = s.answerFresh q := by
  unfold State.takeQuery
  rw [List.find?_eq_none.mpr fun p hp => by simpa using h p hp]

theorem State.answerFresh_answer {d : Decision} (h : s.decideQuery q = .answer d) :
    s.answerFresh q = s.giveAnswer q.tag d := by
  unfold State.answerFresh
  rw [h]

theorem State.answerFresh_load {r : RangeIx} (h : s.decideQuery q = .load r) : s.answerFresh q = s.handOver q r := by
  unfold State.answerFresh
  rw [h]

theorem State.find_parked {p : Parked} (hl : s.dqqLawful) (hp : p ∈ s.dqq) :
    s.dqq.find? (fun x => x.query = p.query) = some p := by
  cases h : s.dqq.find? (fun x => x.query = p.query) with
  | none => exact absurd (decide_eq_true rfl) (List.find?_eq_none.mp h p hp)
  | some x =>
    have hx := List.mem_of_find?_eq_some h
    have hq : x.query = p.query := by simpa using List.find?_some h
    rw [List.inj_on_of_nodup_map hl.2 hx hp hq]

/-- In a queue with one match key each, an entry leaves alone. -/
theorem State.unpark_eq {p : Parked} (hl : s.dqqLawful) (hp : p ∈ s.dqq) :
    s.unpark p.query = { s with dqq := s.dqq.filter (fun x => x ≠ p) } := by
  have hfilter : s.dqq.filter (fun x => x.query != p.query) = s.dqq.filter (fun x => x ≠ p) := by
    refine List.filter_congr fun x hx => ?_
    rw [Bool.eq_iff_iff, bne_iff_ne, decide_eq_true_eq]
    exact not_congr ⟨fun hq => List.inj_on_of_nodup_map hl.2 hx hp hq, fun he => by rw [he]⟩
  rw [State.unpark, hfilter]

theorem State.takeQuery_waiting {p : Parked} (hl : s.dqqLawful) (hp : p ∈ s.dqq) (hw : p.state = .waiting) :
    s.takeQuery p.query = s.sendAnswer (.retry p.query.tag) := by
  unfold State.takeQuery
  rw [State.find_parked hl hp]
  dsimp only
  rw [hw]

theorem State.takeQuery_ready {p : Parked} {d : Decision} {stale : Bool} {e : Nat} (hl : s.dqqLawful) (hp : p ∈ s.dqq)
    (hr : p.state = .ready d stale e) : s.takeQuery p.query =
      if s.stillHolds p.range d stale then (s.unpark p.query).giveAnswer p.query.tag d
      else (s.unpark p.query).answerFresh p.query := by
  unfold State.takeQuery
  rw [State.find_parked hl hp]
  dsimp only
  rw [hr]

theorem State.stillHolds_iff {r : RangeIx} {d : Decision} {stale : Bool} : s.stillHolds r d stale = true ↔
    stale = false ∧ ∀ i g part, d = .grant i g part → ∃ o, s.cxm.entries[i] = .loaded r o := by
  unfold State.stillHolds
  cases d with
  | grant i g part =>
    dsimp only
    cases h : s.cxm.entries[i] <;> simp [-Fin.getElem_fin, h]
  | fill g part => simp
  | deny r => simp

end

/-! ### Answers of an ACCESS -/

section
variable {s u v : State} {read : Bool}

/-- The end of the transaction in which an answer was given, against that of the transaction without a frame. -/
theorem State.answers_giveAnswer (tag : Byte) (d : Decision) (hs : u.mpt.statePending = s.mpt.statePending)
    (hw : u.ere.sweepOwed = s.ere.sweepOwed) (hm : v.mpt = u.mpt) (he : v.ere = u.ere) :
    s.answers (u.finish read).settleStandby ((v.giveAnswer tag d).finish read).settleStandby (d.frame tag) := by
  rw [State.giveAnswer_eq]
  exact State.answers_of_finish (d.frame_isAnswer tag) (congrArg (fun m : Mpt => m.placeAnswer (d.frame tag)) hm) he hs hw

/-- What the reading out leaves of the marks. -/
theorem State.readOut_marks (s : State) (sent : Bool) : (s.readOut sent).1.mpt.statePending = s.mpt.statePending ∧
    (s.readOut sent).1.ere = s.ere ∧ (s.readOut sent).1.dqq = s.dqq ∧ (s.readOut sent).1.lkc = s.lkc := by
  obtain ⟨o, es, hread, -⟩ := s.readOut_eq sent
  rw [hread]
  exact ⟨rfl, rfl, rfl, rfl⟩

theorem State.frameRead_dqq (s : State) (l : List Parked) (f : OutFrame) :
    ({ s with dqq := l } : State).frameRead f = { s.frameRead f with dqq := l } := by
  unfold State.frameRead
  dsimp only
  split
  · rfl
  · cases f with
    | keyload i order key =>
      dsimp only
      split
      · split <;> rfl
      · rfl
    | purge i order =>
      dsimp only
      split
      · split <;> rfl
      · rfl
    | _ => rfl

/-- The reading out does not see the parked entries. -/
theorem State.readOut_dqq (s : State) (l : List Parked) (sent : Bool) : ({ s with dqq := l } : State).readOut sent =
    ({ (s.readOut sent).1 with dqq := l }, (s.readOut sent).2) := by
  unfold State.readOut
  dsimp only
  split
  · split
    · rw [← State.frameRead_dqq]
    · rfl
  · rfl

theorem State.dqqLawful_readOut (sent : Bool) (h : s.dqqLawful) : (s.readOut sent).1.dqqLawful := by
  unfold State.dqqLawful
  rw [(s.readOut_marks sent).2.2.1]
  exact h

end

theorem exec_access {s : State} (sent : Bool) (q : Query) (hp : s.powered = true) (htag : q.tag.toNat ≤ 15) :
    exec (.access sent q.tag q.lba q.count q.dir) s =
      .next (((s.readOut sent).1.takeQuery q).finish (s.readOut sent).2).settleStandby := by
  rw [exec_frame (fun s => s.accessFrame q) hp, State.accessFrame_tagged htag]

/-- Settles O20: a decision given as an answer, against the transaction without a frame. -/
theorem accessDecisionFrame : Obligations.AccessDecisionFrame := by
  unfold Obligations.AccessDecisionFrame
  intro s sent q d hp htag hfresh hdecide
  obtain ⟨hstate, here, hdqq, -⟩ := s.readOut_marks sent
  have hexec := exec_access sent q hp htag
  rw [State.takeQuery_fresh (by rw [hdqq]; exact hfresh),
    State.answerFresh_answer ((s.decideQuery_readOut sent q).trans hdecide)] at hexec
  have hmedia := exec_media (sent := sent) hp
  generalize (s.readOut sent).1 = u at *
  generalize (s.readOut sent).2 = read at *
  refine ⟨_, _, hmedia, hexec,
    State.answers_giveAnswer q.tag d hstate (congrArg Ere.sweepOwed here) rfl rfl, ?_, ?_, ?_⟩
  · rintro r rfl
    exact (State.finish_sameExcept (L := [.mpt]) (by simp [State.sameExcept_iff, State.giveAnswer_eq, Decision.recent,
      Decision.idled])).mono (by simp)
  · rintro g part rfl
    refine ⟨(State.finish_sameExcept (L := [.lkc, .mpt]) (by simp [State.sameExcept_iff, State.giveAnswer_eq,
      Decision.recent])).mono (by simp), ?_⟩
    simp [State.giveAnswer_eq, Decision.idled]
  · rintro i g part rfl
    refine ⟨(State.finish_sameExcept (L := [.lkc, .mpt, .cxm]) (by simp [State.sameExcept_iff, State.giveAnswer_eq])).mono
      (by simp), ?_, ?_⟩
    · simp [State.giveAnswer_eq, Decision.recent]
    · simp [State.giveAnswer_eq, Decision.idled]

/-- What a query decided afresh parks waits. -/
theorem State.answerFresh_dqq (s : State) (q : Query) :
    ∃ l, (s.answerFresh q).dqq = s.dqq ++ l ∧ ∀ x ∈ l, x.state = .waiting := by
  have hnone : ∃ l, s.dqq = s.dqq ++ l ∧ ∀ x ∈ l, x.state = .waiting := ⟨[], (List.append_nil _).symm, nofun⟩
  have hone (r : RangeIx) : ∃ l, s.dqq ++ [{ query := q, range := r, state := .waiting }] = s.dqq ++ l ∧
      ∀ x ∈ l, x.state = .waiting := ⟨_, rfl, fun x hx => by rw [List.mem_singleton.mp hx]⟩
  unfold State.answerFresh
  split
  · rw [State.giveAnswer_eq]
    exact hnone
  · next r _ =>
    unfold State.handOver
    dsimp only
    split
    · exact hnone
    · split
      · exact hone r
      · split
        · simp [State.beginLoad, State.park]
        · exact hnone

/-- Settles O22: the entry is found, and WAITING, READY and holding, or READY and not holding. -/
theorem repeatAnswered : Obligations.RepeatAnswered := by
  unfold Obligations.RepeatAnswered
  intro s sent p hp htag hl hmem
  obtain ⟨hstate, here, hdqq, -⟩ := s.readOut_marks sent
  obtain ⟨o, es, hread, hloads, -⟩ := s.readOut_eq sent
  have hl' := State.dqqLawful_readOut sent hl
  have hmem' : p ∈ (s.readOut sent).1.dqq := by rw [hdqq]; exact hmem
  have hexec := exec_access sent p.query hp htag
  have hentries : sameLoads (s.readOut sent).1.cxm.entries s.cxm.entries := by rw [hread]; exact hloads
  have hmedia := exec_media (sent := sent) hp
  have hcomm (l : List Parked) := State.readOut_dqq s l sent
  generalize (s.readOut sent).1 = u at *
  generalize (s.readOut sent).2 = read at *
  refine ⟨_, _, hmedia, hexec, fun hw => ?_, fun d e hready hhold => ?_, fun d stale e hready hnot => ?_⟩
  · rw [State.takeQuery_waiting hl' hmem' hw]
    refine ⟨(State.finish_sameExcept (L := [.mpt]) (by simp [State.sameExcept_iff])).mono (by simp),
      State.answers_of_finish rfl rfl rfl hstate (congrArg Ere.sweepOwed here), ?_⟩
    simp [hdqq]
  · have hholds : u.stillHolds p.range d false = true :=
      State.stillHolds_iff.mpr ⟨rfl, fun i g part hd => (hhold i g part hd).imp fun o ho => (hentries.loaded _ _ _).mpr ho⟩
    rw [State.takeQuery_ready hl' hmem' hready, if_pos hholds, State.unpark_eq hl' hmem']
    refine ⟨(State.finish_sameExcept (L := [.dqq, .mpt, .lkc, .cxm]) (by
        simp [State.sameExcept_iff, State.giveAnswer_eq])).mono (by simp),
      State.answers_giveAnswer p.query.tag d hstate (congrArg Ere.sweepOwed here) rfl rfl, ?_, ?_, ?_⟩
    · simp [State.giveAnswer_eq, hdqq]
    · cases d <;> simp [State.giveAnswer_eq, Decision.recent]
    · cases d <;> simp [State.giveAnswer_eq, Decision.idled]
  · have hnohold : ¬ u.stillHolds p.range d stale = true := by
      rw [State.stillHolds_iff]
      rintro ⟨hfresh, hall⟩
      rcases hnot with hstale | ⟨i, g, part, hd, hnone⟩
      · exact absurd (hfresh.symm.trans hstale) (by decide)
      · obtain ⟨o, ho⟩ := hall i g part hd
        exact hnone o ((hentries.loaded _ _ _).mp ho)
    have htake : u.takeQuery p.query = ({ u with dqq := s.dqq.filter (fun x => x ≠ p) } : State).answerFresh p.query := by
      rw [State.takeQuery_ready hl' hmem' hready, if_neg hnohold, State.unpark_eq hl' hmem', hdqq]
    rw [htake]
    have hgone : ∀ x ∈ s.dqq.filter (fun x => x ≠ p), x.query ≠ p.query := fun x hx hq => by
      rw [List.mem_filter, decide_eq_true_eq] at hx
      exact hx.2 (List.inj_on_of_nodup_map hl.2 hx.1 hmem hq)
    constructor
    · obtain ⟨l, hdq, hwait⟩ := State.answerFresh_dqq { u with dqq := s.dqq.filter (fun x => x ≠ p) } p.query
      rw [State.settleStandby_dqq, State.finish_dqq, hdq, List.mem_append]
      rintro (h | h)
      · exact hgone p h rfl
      · exact absurd (hready.symm.trans (hwait p h)) nofun
    · have hexec' := exec_access (s := { s with dqq := s.dqq.filter (fun x => x ≠ p) }) sent p.query hp htag
      rw [hexec', hcomm]
      dsimp only
      rw [State.takeQuery_fresh hgone]

end Sys2Proof.Machine
end

section
/-! SUPPORT. Queries handed over, and transactions that carry no frame (R115, R128, R129, R130, R174, R178). -/

namespace Sys2Proof.Machine

set_option Elab.async false

/-! ### Every ACCESS is answered -/

section
variable {s : State} {q : Query} {r : RangeIx} {i : CtxIx}

/-- A frame at the head that carries a query's tag. -/
def State.answered (s : State) (tag : Byte) : Prop :=
  ∃ f, s.mpt.outbound.head? = some f ∧ f.answerTag = some tag

theorem OutFrame.isAnswer_of_tag {f : OutFrame} {tag : Byte} (h : f.answerTag = some tag) : f.isAnswer = true := by
  cases f <;> first | rfl | cases h

theorem State.answered_giveAnswer (s : State) (tag : Byte) (d : Decision) : (s.giveAnswer tag d).answered tag := by
  rw [State.giveAnswer_eq]
  exact ⟨_, rfl, d.frame_answerTag tag⟩

theorem State.sendKeyload_of_key {b : BufferKey} (h : s.lkc.keyBuffer[r] = some b) (order : Byte) (tries : Nat) :
    s.sendKeyload i r order tries = { s with
      mpt := (s.mpt.offerOrder (.keyload i order b.key)).1
      cxm := { s.cxm with entries := (s.cxm.entries.set i
        (.loading r order tries (replyAfter (s.mpt.offerOrder (.keyload i order b.key)).2))) } } := by
  unfold State.sendKeyload
  rw [h]
  rfl

theorem State.sendKeyload_of_none (h : s.lkc.keyBuffer[r] = none) (order : Byte) (tries : Nat) :
    s.sendKeyload i r order tries = s.setEntry i (.loading r order tries (.running 0)) := by
  unfold State.sendKeyload
  rw [h]

theorem State.answered_sendKeyload {tag : Byte} (h : s.answered tag) (order : Byte) (tries : Nat) :
    (s.sendKeyload i r order tries).answered tag := by
  obtain ⟨f, hf, htag⟩ := h
  cases hb : s.lkc.keyBuffer[r] with
  | none =>
    rw [State.sendKeyload_of_none hb]
    exact ⟨f, hf, htag⟩
  | some b =>
    rw [State.sendKeyload_of_key hb]
    exact ⟨f, Mpt.offerOrder_head hf (OutFrame.isAnswer_of_tag htag), htag⟩

theorem State.answered_handOver (s : State) (q : Query) (r : RangeIx) : (s.handOver q r).answered q.tag := by
  have hretry : (s.sendAnswer (.retry q.tag)).answered q.tag := ⟨_, rfl, rfl⟩
  unfold State.handOver
  dsimp only
  split
  · exact hretry
  split
  · exact hretry
  split
  · exact State.answered_sendKeyload (s := ((s.sendAnswer (.retry q.tag)).park q r).advanceOrder) hretry _ _
  · exact hretry

theorem State.answered_answerFresh (s : State) (q : Query) : (s.answerFresh q).answered q.tag := by
  unfold State.answerFresh
  split
  · exact State.answered_giveAnswer _ _ _
  · exact State.answered_handOver _ _ _

/-- Whatever happens to a query, its answer stands at the head (R115, R138, R140). -/
theorem State.answered_takeQuery (s : State) (q : Query) : (s.takeQuery q).answered q.tag := by
  unfold State.takeQuery
  split
  · exact State.answered_answerFresh _ _
  split
  · exact ⟨_, rfl, rfl⟩
  split
  · exact State.answered_giveAnswer _ _ _
  · exact State.answered_answerFresh _ _

end

/-- Settles O19: the answer is placed at the head and stays there; behind it the outbound law admits no answer. -/
theorem accessAnswered : Obligations.AccessAnswered := by
  unfold Obligations.AccessAnswered
  intro s sent tag lba count dir hp htag hl
  have hexec := exec_access sent ⟨tag, lba, count, dir⟩ hp htag
  obtain ⟨f, hhead, hf⟩ := (s.readOut sent).1.answered_takeQuery ⟨tag, lba, count, dir⟩
  have hfinish := State.finish_head (read := (s.readOut sent).2) hhead (OutFrame.isAnswer_of_tag hf)
  obtain ⟨hlaw, -⟩ := (exec_keeps (J := False) (P := True) _ False.elim (fun _ => hl) hexec).port trivial hl
  refine ⟨_, f, _, hexec, List.eq_cons_of_mem_head? hfinish, hf, hlaw⟩

/-! ### The table of a hand-over -/

section
variable {s : State} {r : RangeIx} {i : CtxIx}

theorem Cxm.loadingFor_iff {c : Cxm} : c.loadingFor r = true ↔ ∃ (i : CtxIx) (o : Byte) (n : Nat) (t : ReplyTimer), c.entries[i] = .loading r o n t := by
  unfold Cxm.loadingFor
  rw [List.any_eq_true]
  constructor
  · rintro ⟨j, -, hj⟩
    split at hj
    · next q o n t he => exact ⟨j, o, n, t, by rw [he, of_decide_eq_true hj]⟩
    · cases hj
  · rintro ⟨j, o, n, t, he⟩
    refine ⟨j, mem_allCtx j, ?_⟩
    rw [he]
    exact decide_eq_true rfl

/-- Whether the context of an entry may be taken for a load in the place of the range it holds (R129). -/
def ContextEntry.replaceable (dqq : List Parked) (e : ContextEntry) : Prop :=
  ∃ old o, e = .loaded old o ∧ readyReferences dqq old = false

/-- The first of the EMPTY contexts, or with none EMPTY of those that may be replaced, from the tail of the LRU list. -/
theorem State.chooseContext_eq_some {front back : List CtxIx} (hlru : s.cxm.lru = front ++ i :: back)
    (h : (s.cxm.entries[i] = .empty ∧ ∀ j ∈ back, s.cxm.entries[j] ≠ .empty) ∨
      ((∀ j ∈ s.cxm.lru, s.cxm.entries[j] ≠ .empty) ∧ s.cxm.entries[i].replaceable s.dqq ∧
        ∀ j ∈ back, ¬ s.cxm.entries[j].replaceable s.dqq)) : s.chooseContext = some i := by
  have hreverse : s.cxm.lru.reverse = back.reverse ++ i :: front.reverse := by rw [hlru]; simp
  unfold State.chooseContext
  dsimp only
  rcases h with ⟨hempty, hback⟩ | ⟨hnone, ⟨old, o, hi, hfree⟩, hback⟩
  · have hfind : s.cxm.lru.reverse.find? (fun i => s.cxm.entries[i] = .empty) = some i := by
      rw [List.find?_eq_some_iff_append]
      exact ⟨decide_eq_true hempty, back.reverse, front.reverse, hreverse, fun j hj => by
        simpa [-Fin.getElem_fin] using hback j (List.mem_reverse.mp hj)⟩
    rw [hfind]
    rfl
  · rw [List.find?_eq_none.mpr fun j hj => by simpa [-Fin.getElem_fin] using hnone j (List.mem_reverse.mp hj), Option.none_or,
      List.find?_eq_some_iff_append]
    refine ⟨by simp [-Fin.getElem_fin, hi, hfree], back.reverse, front.reverse, hreverse, fun j hj => ?_⟩
    have hj' := hback j (List.mem_reverse.mp hj)
    cases he : s.cxm.entries[j] with
    | loaded p q =>
      rw [Bool.not_not]
      exact Bool.of_not_eq_false fun hp => hj' ⟨p, q, he, hp⟩
    | _ => rfl

theorem State.chooseContext_eq_none (hempty : ∀ j : CtxIx, s.cxm.entries[j] ≠ .empty)
    (h : ∀ j : CtxIx, ¬ s.cxm.entries[j].replaceable s.dqq) : s.chooseContext = none := by
  unfold State.chooseContext
  dsimp only
  rw [List.find?_eq_none.mpr fun j _ => by simpa [-Fin.getElem_fin] using hempty j, Option.none_or, List.find?_eq_none]
  intro j _
  cases he : s.cxm.entries[j] with
  | loaded p o =>
    rw [Bool.not_eq_true', Bool.not_eq_false]
    exact Bool.of_not_eq_false fun hp => h j ⟨p, o, he, hp⟩
  | _ => exact Bool.false_ne_true

variable {q : Query}

theorem State.handOver_full (h : 4 ≤ s.dqq.length) : s.handOver q r = s.sendAnswer (.retry q.tag) := if_pos h

theorem State.handOver_loading (h : s.dqq.length < 4) (hl : s.cxm.loadingFor r = true) :
    s.handOver q r = (s.sendAnswer (.retry q.tag)).park q r :=
  (if_neg (Nat.not_le.mpr h)).trans (if_pos hl)

theorem State.handOver_none (hl : s.cxm.loadingFor r = false) (hc : s.chooseContext = none) :
    s.handOver q r = s.sendAnswer (.retry q.tag) := by
  unfold State.handOver
  dsimp only
  split
  · rfl
  · rw [if_neg (by simp [hl]), hc]

/-- A hand-over that starts a load: the query parked, the context LOADING with try 1, the KEYLOAD offered behind RETRY. -/
theorem State.handOver_loads {b : BufferKey} (h : s.dqq.length < 4) (hl : s.cxm.loadingFor r = false)
    (hc : s.chooseContext = some i) (hb : s.lkc.keyBuffer[r] = some b) {sent : Mpt × Bool}
    (hsent : (s.mpt.placeAnswer (.retry q.tag)).offerOrder (.keyload i s.cxm.orderCounter b.key) = sent) :
    s.handOver q r = { s with
      mpt := sent.1
      dqq := s.dqq ++ [{ query := q, range := r, state := .waiting }]
      cxm := { s.cxm with
        entries := (s.cxm.entries.set i (.loading r s.cxm.orderCounter 1 (replyAfter sent.2)))
        orderCounter := s.cxm.orderCounter + 1 } } := by
  subst hsent
  refine (if_neg (Nat.not_le.mpr h)).trans ?_
  rw [if_neg (by simp [hl]), hc]
  exact State.sendKeyload_of_key (s := ((s.sendAnswer (.retry q.tag)).park q r).advanceOrder) hb _ _

/-- What the rest of a transaction meets after a hand-over: no STATE pending that could be placed. -/
theorem State.handOver_quiet (h : s.mpt.statePending = false) (q : Query) (r : RangeIx) :
    (s.handOver q r).mpt.statePending = false ∨ 8 ≤ (s.handOver q r).mpt.outbound.length := by
  have hretry : (s.sendAnswer (.retry q.tag)).mpt.statePending = false := h
  unfold State.handOver
  dsimp only
  split
  · exact .inl hretry
  split
  · exact .inl hretry
  split
  · next i _ =>
    unfold State.beginLoad
    cases hb : s.lkc.keyBuffer[r] with
    | none =>
      rw [State.sendKeyload_of_none (by exact hb)]
      exact .inl hretry
    | some b =>
      rw [State.sendKeyload_of_key (by exact hb)]
      exact Mpt.offerOrder_pending hretry _
  · exact .inl hretry

theorem State.handOver_ere (s : State) (q : Query) (r : RangeIx) : (s.handOver q r).ere = s.ere := by
  unfold State.handOver
  dsimp only
  split
  · rfl
  split
  · rfl
  split
  · rw [State.beginLoad_ere]
    rfl
  · rfl

end

/-- Settles O21: by the table of the hand-over, the queue of the transaction without a frame being the one it meets. -/
theorem accessStartsLoad : Obligations.AccessStartsLoad := by
  unfold Obligations.AccessStartsLoad
  intro s sent q r hp htag hfresh hstate howed hdecide
  obtain ⟨o, es, hread, hloads, -, hnone⟩ := s.readOut_eq sent
  obtain ⟨hpending, here, hdqq, hlkc⟩ := s.readOut_marks sent
  have hmedia := exec_media (sent := sent) hp
  have hexec := exec_access sent q hp htag
  rw [State.takeQuery_fresh (by rw [hdqq]; exact hfresh),
    State.answerFresh_load ((s.decideQuery_readOut sent q).trans hdecide)] at hexec
  have hentries : sameLoads (s.readOut sent).1.cxm.entries s.cxm.entries := by rw [hread]; exact hloads
  have hlru : (s.readOut sent).1.cxm.lru = s.cxm.lru := by rw [hread]
  have horder : (s.readOut sent).1.cxm.orderCounter = s.cxm.orderCounter := by rw [hread]
  clear hread
  generalize (s.readOut sent).1 = u at *
  have hsweep (x : State) (hx : x.ere = u.ere) :
      x.ere.sweepOwed = false ∨ x.ere.order = none ∨ (s.readOut sent).2 = false := by
    rw [hx, here]
    exact howed.imp id fun h => .inr (hnone h)
  rw [State.finish_quiet (.inl (hpending.trans hstate)) (hsweep _ rfl)] at hmedia
  rw [State.finish_quiet (State.handOver_quiet (hpending.trans hstate) q r) (hsweep _ (u.handOver_ere q r))] at hexec
  have hload : u.cxm.loadingFor r = true ↔ ∃ (i : CtxIx) (o : Byte) (n : Nat) (t : ReplyTimer), s.cxm.entries[i] = .loading r o n t := by
    rw [Cxm.loadingFor_iff]
    exact ⟨fun ⟨j, o, n, t, hj⟩ => (hentries.symm.loading hj).elim fun t' ht => ⟨j, o, n, t', ht⟩,
      fun ⟨j, o, n, t, hj⟩ => (hentries.loading hj).elim fun t' ht => ⟨j, o, n, t', ht⟩⟩
  have hreplace (j : CtxIx) : u.cxm.entries[j].replaceable u.dqq ↔ s.cxm.entries[j].replaceable s.dqq := by
    unfold ContextEntry.replaceable
    simp only [hentries.loaded, hdqq]
  have hretry : u.settleStandby.sameExcept (u.sendAnswer (.retry q.tag)).settleStandby [.mpt] ∧
      (u.sendAnswer (.retry q.tag)).settleStandby.mpt =
        { u.settleStandby.mpt with outbound := .retry q.tag :: u.settleStandby.mpt.outbound } :=
    ⟨State.sameExcept.settle (by simp [State.sameExcept_iff]), rfl⟩
  refine ⟨_, _, hmedia, hexec, fun h j o n timer hj => ?_, fun h => ?_, fun h => ?_, fun h hno front back i b hl hi hb => ?_⟩
  · rw [State.handOver_loading (hdqq ▸ h) (hload.mpr ⟨j, o, n, timer, hj⟩)]
    refine ⟨State.sameExcept.settle (by simp [State.sameExcept_iff, State.park]), ?_, hretry.2⟩
    rw [← hdqq]
    rfl
  · rw [State.handOver_full (hdqq ▸ h)]
    exact hretry
  · rw [State.handOver_none]
    · exact hretry
    · rw [← Bool.not_eq_true, hload]
      exact fun ⟨j, o, n, t, hj⟩ => (h j).2.1 o n t hj
    · refine State.chooseContext_eq_none (fun j he => (h j).1 ((hentries.empty j).mp he)) fun j hj => ?_
      obtain ⟨old, o, he, hfree⟩ := (hreplace j).mp hj
      exact absurd (((h j).2.2 old o he).symm.trans hfree) (by decide)
  · have hnot : u.cxm.loadingFor r = false := by
      rw [← Bool.not_eq_true, hload]
      exact fun ⟨j, o, n, t, hj⟩ => hno j o n t hj
    have hchoose : u.chooseContext = some i := by
      refine State.chooseContext_eq_some (hlru.trans hl) (hi.imp (fun ⟨he, hback⟩ => ?_) fun ⟨hnone, hfree, hback⟩ => ?_)
      · exact ⟨(hentries.empty i).mpr he, fun j hj hj' => hback j hj ((hentries.empty j).mp hj')⟩
      · refine ⟨fun j hj hj' => hnone j (hlru ▸ hj) ((hentries.empty j).mp hj'), (hreplace i).mpr hfree, fun j hj hj' => ?_⟩
        obtain ⟨old, o, he, hf⟩ := (hreplace j).mp hj'
        exact absurd ((hback j hj old o he).symm.trans hf) (by decide)
    rw [State.handOver_loads (hdqq ▸ h) hnot hchoose (by rw [← hb, ← hlkc]) rfl]
    refine ⟨State.sameExcept.settle (by simp [State.sameExcept_iff]), congrArg (· ++ _) hdqq,
      replyAfter ((u.mpt.placeAnswer (.retry q.tag)).offerOrder (.keyload i u.cxm.orderCounter b.key)).2, ?_, fun ht => ?_,
      fun hroom => ?_, fun ht => ?_⟩
    · rw [← horder]
      rfl
    · obtain ⟨htaken, hlast⟩ := Mpt.offerOrder_taken (m := u.mpt.placeAnswer (.retry q.tag)) (f := .keyload i u.cxm.orderCounter b.key) ht
      rw [htaken, ← horder]
      exact ⟨rfl, hlast⟩
    · rw [← horder]
      exact congrArg Prod.fst (Mpt.offerOrder_room (m := u.mpt.placeAnswer (.retry q.tag)) (Nat.succ_lt_succ hroom) rfl)
    · rw [Mpt.offerOrder_full (m := u.mpt.placeAnswer (.retry q.tag)) ht rfl]
      exact ⟨rfl, rfl⟩

end Sys2Proof.Machine
end

section
/-! SUPPORT. Transactions that carry no frame, and frames that fail their checks (R130, R135, R174, R175, R178). -/

namespace Sys2Proof.Machine

set_option Elab.async false

/-! ### What is read out -/

section
variable {s : State} {sent : Bool} {f : OutFrame} {rest : List OutFrame}

theorem State.readOut_sent (h : s.mpt.outbound = f :: rest) (hf : (sent || f.isAnswer) = true) : s.readOut sent =
    (({ s with mpt := { s.mpt with transaction := none, outbound := rest } } : State).frameRead f, true) := by
  unfold State.readOut
  dsimp only
  rw [h]
  exact if_pos hf

theorem State.readOut_unsent (h : s.mpt.outbound = f :: rest) (hf : f.isAnswer = false) :
    s.readOut false = ({ s with mpt := { s.mpt with transaction := none } }, false) := by
  unfold State.readOut
  dsimp only
  rw [h]
  exact if_neg (by simp [hf])

theorem State.readOut_empty (h : s.mpt.outbound = []) :
    s.readOut sent = ({ s with mpt := { s.mpt with transaction := none } }, false) := by
  unfold State.readOut
  dsimp only
  rw [h]

variable {i : CtxIx} {o : Byte} {r : RangeIx}

/-- The reading of a KEYLOAD starts the reply timer of its load (R130). -/
theorem State.frameRead_keyload {k : Key} {n : Nat} (hcopy : OutFrame.keyload i o k ∉ s.mpt.outbound)
    (h : s.cxm.entries[i] = .loading r o n .onRead) :
    s.frameRead (.keyload i o k) = s.setEntry i (.loading r o n (.running 0)) := by
  unfold State.frameRead
  rw [if_neg hcopy]
  dsimp only
  rw [h]
  exact if_pos rfl

/-- The reading of a PURGE starts its reply timer (R135). -/
theorem State.frameRead_purge (hcopy : OutFrame.purge i o ∉ s.mpt.outbound) (h : s.cxm.entries[i] = .purging r o .onRead) :
    s.frameRead (.purge i o) = s.setEntry i (.purging r o (.running 0)) := by
  unfold State.frameRead
  rw [if_neg hcopy]
  dsimp only
  rw [h]
  exact if_pos rfl

theorem State.frameRead_other (hk : ∀ i o k, f ≠ .keyload i o k) (hp : ∀ i o, f ≠ .purge i o) : s.frameRead f = s := by
  unfold State.frameRead
  split
  · rfl
  · cases f with
    | keyload i o k => exact absurd rfl (hk i o k)
    | purge i o => exact absurd rfl (hp i o)
    | _ => rfl

theorem State.placePending_room {l : LockState} (hl : s.lkc.lockState = some l) (hp : s.mpt.statePending = true)
    (hroom : s.mpt.outbound.length < 8) : s.placePending = { s with mpt := s.mpt.appendOrder (.state l) } := by
  unfold State.placePending
  rw [hl]
  exact if_pos (Bool.and_eq_true_iff.mpr ⟨hp, decide_eq_true hroom⟩)

end

/-- Settles O23: by what is read out, and by the end of a transaction that has nothing to place. -/
theorem transactionsEnd : Obligations.TransactionsEnd := by
  unfold Obligations.TransactionsEnd
  intro s hp
  have hmedia (sent : Bool) {u : State} {read : Bool} (h : s.readOut sent = (u, read)) :
      exec (.mediaTransaction sent) s = .next (u.finish read).settleStandby := by
    rw [exec_media hp, h]
  refine ⟨fun f rest hout hstate howed => ?_, fun f rest hout hstate howed => ?_, fun sent l hout hstate hl => ?_,
    fun sent hout hstate => ?_, fun bytes => ?_⟩
  · have hexec := hmedia true (State.readOut_sent hout rfl)
    obtain ⟨es, hread, -⟩ :=
      State.frameRead_eq { s with mpt := { s.mpt with transaction := none, outbound := rest } } f
    rw [State.finish_quiet (.inl (by rw [hread]; exact hstate)) (.inl (by rw [hread]; exact howed))] at hexec
    refine ⟨_, hexec, State.sameExcept.settled (by rw [hread]; simp [State.sameExcept_iff]), by rw [hread]; rfl, rfl,
      by rw [hread]; rfl, by rw [hread]; rfl, fun i o k r n hf hcopy he => ?_, fun i o r hf hcopy he => ?_, fun hk hpu => ?_⟩
    · subst hf
      rw [State.frameRead_keyload (by exact hcopy) (by exact he)]
      rfl
    · subst hf
      rw [State.frameRead_purge (by exact hcopy) (by exact he)]
      rfl
    · rw [State.frameRead_other hk hpu]
      rfl
  · cases ha : f.isAnswer with
    | true =>
      have hboth (sent : Bool) := hmedia sent (State.readOut_sent hout (by rw [ha, Bool.or_true]))
      exact ⟨_, hboth false, fun _ => hboth true, nofun⟩
    | false =>
      have hexec := hmedia false (State.readOut_unsent hout ha)
      rw [State.finish_quiet (.inl (by exact hstate)) (.inl (by exact howed))] at hexec
      exact ⟨_, hexec, nofun, fun _ => ⟨State.sameExcept.settled (by simp [State.sameExcept_iff]), rfl⟩⟩
  · have hexec := hmedia sent (State.readOut_empty hout)
    rw [State.finish, if_neg (by decide), State.placePending_room (l := l) (by exact hl) (by exact hstate)
      (by simp [hout])] at hexec
    refine ⟨_, hexec, State.sameExcept.settled (by simp [State.sameExcept_iff]), ?_⟩
    simp [Mpt.appendOrder, OutFrame.isState, hout]
  · have hexec := hmedia sent (State.readOut_empty hout)
    rw [State.finish_quiet (.inl (by exact hstate)) (.inr (.inr rfl))] at hexec
    exact ⟨_, hexec, State.sameExcept.settled (by simp [State.sameExcept_iff]), rfl⟩
  · exact ⟨_, exec_event (fun s => { s with mpt := { s.mpt with transaction := none } }) hp,
      State.sameExcept.settled (by simp [State.sameExcept_iff]), rfl⟩

end Sys2Proof.Machine
end

section
/-! SUPPORT. The bridge's replies to KEYLOAD and PURGE, and the timers that wait for them (R130 to R135, R139, R178). -/

namespace Sys2Proof.Machine

set_option Elab.async false

/-! ### An order frame queued with its reply timer -/

section
variable {s : State} {i : CtxIx} {r : RangeIx} {o order : Byte} {n : Nat} {timer : ReplyTimer}

/-- An order frame offered with a reply timer: set to start when the frame is read, or running at once where the queue
cannot take it (R130, R135, R178). -/
def Mpt.queuedWith (m : Mpt) (f : OutFrame) (timer : ReplyTimer) (m' : Mpt) : Prop :=
  (takesOrder m.outbound → timer = .onRead ∧ m'.outbound.getLast? = some f) ∧
  (m.outbound.length < 8 → m' = { m with outbound := m.outbound ++ [f] }) ∧
  (¬ takesOrder m.outbound → timer = .running 0 ∧ m' = m)

theorem Mpt.offerOrder_queuedWith (m : Mpt) {f : OutFrame} (hf : f.isState = false) :
    m.queuedWith f (replyAfter (m.offerOrder f).2) (m.offerOrder f).1 := by
  refine ⟨fun ht => ?_, fun hroom => by rw [Mpt.offerOrder_room hroom hf], fun ht => ?_⟩
  · obtain ⟨htaken, hlast⟩ := Mpt.offerOrder_taken (f := f) ht
    rw [htaken]
    exact ⟨rfl, hlast⟩
  · rw [Mpt.offerOrder_full ht hf]
    exact ⟨rfl, rfl⟩

/-- A KEYLOAD sent: the entry LOADING under its number and try, and the frame queued where there is a key to send. -/
theorem State.sendKeyload_spec (s : State) (i : CtxIx) (r : RangeIx) (o : Byte) (n : Nat) : ∃ timer m,
    s.sendKeyload i r o n =
      { s with mpt := m, cxm := { s.cxm with entries := (s.cxm.entries.set i (.loading r o n timer)) } } ∧
    (∀ b, s.lkc.keyBuffer[r] = some b → s.mpt.queuedWith (.keyload i o b.key) timer m) ∧
    (s.mpt.statePending = false → m.statePending = false ∨ 8 ≤ m.outbound.length) := by
  cases hb : s.lkc.keyBuffer[r] with
  | none => exact ⟨_, _, State.sendKeyload_of_none hb o n, nofun, .inl⟩
  | some b =>
    refine ⟨_, _, State.sendKeyload_of_key hb o n, fun b' hb' => ?_, fun hp => Mpt.offerOrder_pending hp _⟩
    cases hb'
    exact s.mpt.offerOrder_queuedWith rfl

/-! ### KEYACK and PURGEACK -/

theorem contextOf_ctx (i : CtxIx) : contextOf (BitVec.ofNat 8 i.val) = some i := by
  fin_cases i <;> rfl

theorem contextOf_large {c : Byte} (h : 4 ≤ c.toNat) : contextOf c = none := dif_neg (Nat.not_lt.mpr h)

theorem exec_keyack {sent ok : Bool} {c : Byte} (hp : s.powered = true) (hc : contextOf c = some i) :
    exec (.keyack sent c order ok) s =
      .next (((s.readOut sent).1.keyAck i order ok).finish (s.readOut sent).2).settleStandby := by
  refine (exec_frame _ hp).trans ?_
  rw [hc]

theorem exec_keyack_none {sent ok : Bool} {c : Byte} (hp : s.powered = true) (hc : contextOf c = none) :
    exec (.keyack sent c order ok) s = exec (.mediaTransaction sent) s := by
  refine ((exec_frame _ hp).trans ?_).trans (exec_media hp).symm
  rw [hc]

theorem exec_purgeack {sent : Bool} {c : Byte} (hp : s.powered = true) (hc : contextOf c = some i) :
    exec (.purgeack sent c order) s =
      .next (((s.readOut sent).1.purgeAck i order).finish (s.readOut sent).2).settleStandby := by
  refine (exec_frame _ hp).trans ?_
  rw [hc]

theorem exec_purgeack_none {sent : Bool} {c : Byte} (hp : s.powered = true) (hc : contextOf c = none) :
    exec (.purgeack sent c order) s = exec (.mediaTransaction sent) s := by
  refine ((exec_frame _ hp).trans ?_).trans (exec_media hp).symm
  rw [hc]

theorem State.keyAck_ok (h : s.cxm.entries[i] = .loading r o n timer) : s.keyAck i o true =
    { (s.setEntry i (.loaded r o)).touchContext i with
      dqq := resolveWaiting s.dqq r ((s.setEntry i (.loaded r o)).touchContext i).decideStored } := by
  unfold State.keyAck
  rw [h]
  exact (if_pos rfl).trans (if_pos rfl)

theorem State.keyAck_fail (h : s.cxm.entries[i] = .loading r o n timer) : s.keyAck i o false = s.loadTryFailed i := by
  unfold State.keyAck
  rw [h]
  exact (if_pos rfl).trans (if_neg Bool.false_ne_true)

theorem State.keyAck_other {ok : Bool} (h : s.cxm.entries[i] = .loading r o n timer) (ho : order ≠ o) :
    s.keyAck i order ok = s := by
  unfold State.keyAck
  rw [h]
  exact if_neg (Ne.symm ho)

theorem State.keyAck_idle {ok : Bool} (h : ∀ r o n timer, s.cxm.entries[i] ≠ .loading r o n timer) :
    s.keyAck i order ok = s := by
  unfold State.keyAck
  split
  · next he => exact absurd he (h _ _ _ _)
  · rfl

theorem State.loadTryFailed_resends (h : s.cxm.entries[i] = .loading r o n timer) (hn : n < 3) :
    s.loadTryFailed i = s.sendKeyload i r o (n + 1) := by
  unfold State.loadTryFailed
  rw [h]
  exact if_pos hn

theorem State.loadTryFailed_ends (h : s.cxm.entries[i] = .loading r o n timer) (hn : 3 ≤ n) : s.loadTryFailed i =
    { (s.setEntry i .empty).setFlag .keyloadFault with
      dqq := resolveWaiting s.dqq r (fun _ => some (.deny .fault)) } := by
  unfold State.loadTryFailed
  rw [h]
  exact if_neg (Nat.not_lt.mpr hn)

theorem State.purgeAck_taken (h : s.cxm.entries[i] = .purging r o timer) : s.purgeAck i o = s.setEntry i .empty := by
  unfold State.purgeAck
  rw [h]
  exact if_pos rfl

theorem State.purgeAck_other (h : s.cxm.entries[i] = .purging r o timer) (ho : order ≠ o) : s.purgeAck i order = s := by
  unfold State.purgeAck
  rw [h]
  exact if_neg (Ne.symm ho)

theorem State.purgeAck_idle (h : ∀ r o timer, s.cxm.entries[i] ≠ .purging r o timer) : s.purgeAck i order = s := by
  unfold State.purgeAck
  split
  · next he => exact absurd he (h _ _ _)
  · rfl

theorem State.decideStored_eq_some {q : Query} {d : Decision} : s.decideStored q = some d ↔ s.decideQuery q = .answer d := by
  unfold State.decideStored
  cases s.decideQuery q <;> simp

theorem State.decideStored_eq_none {q : Query} : s.decideStored q = none ↔ ∃ k, s.decideQuery q = .load k := by
  unfold State.decideStored
  cases s.decideQuery q <;> simp

/-- The WAITING queries of a range that have a decision become READY with it, and nothing else of the queue changes. -/
theorem resolveWaiting_eq {l : List Parked} {decide : Query → Option Decision} {f : Parked → Parked}
    (hsome : ∀ p d, p.state = .waiting → p.range = r → decide p.query = some d →
      f p = { p with state := .ready d false 0 })
    (hnone : ∀ p, p.state = .waiting → p.range = r → decide p.query = none → f p = p)
    (hrest : ∀ p, ¬ (p.state = .waiting ∧ p.range = r) → f p = p) : resolveWaiting l r decide = l.map f := by
  unfold resolveWaiting
  refine List.map_congr_left fun p _ => ?_
  cases hp : p.state with
  | waiting =>
    dsimp only
    split
    · next hr =>
      cases hd : decide p.query with
      | some d => exact (hsome p d hp hr hd).symm
      | none => exact (hnone p hp hr hd).symm
    · next hr => exact (hrest p fun h => hr h.2).symm
  | ready d stale e => exact (hrest p fun h => ParkedState.noConfusion (hp.symm.trans h.1)).symm

theorem resolveWaiting_fault (l : List Parked) (r : RangeIx) : resolveWaiting l r (fun _ => some (.deny .fault)) =
    l.map (fun p => if p.state = .waiting ∧ p.range = r then { p with state := .ready (.deny .fault) false 0 } else p) :=
  resolveWaiting_eq (fun p d hw hr hd => by rw [if_pos ⟨hw, hr⟩, Option.some.inj hd]) (fun _ _ _ hn => nomatch hn)
    fun _ h => if_neg h

/-! ### The transaction around a reply -/

variable {u v : State} {read : Bool}

/-- The end of a transaction reads the port, the order and the lock state alone. -/
theorem State.finish_congr (hm : v.mpt = u.mpt) (he : v.ere = u.ere) (hl : v.lkc = u.lkc) :
    (v.finish read).mpt = (u.finish read).mpt ∧ (v.finish read).ere = (u.finish read).ere := by
  have hsweep : v.reofferSweep.mpt = u.reofferSweep.mpt ∧ v.reofferSweep.ere = u.reofferSweep.ere := by
    unfold State.reofferSweep
    rw [he]
    split
    · split
      · unfold State.sendSweep State.sendOrder
        dsimp only
        rw [hm, he]
        exact ⟨rfl, rfl⟩
      · exact ⟨hm, he⟩
    · exact ⟨hm, he⟩
  have hplace {v u : State} (hm : v.mpt = u.mpt) (he : v.ere = u.ere) (hl : v.lkc = u.lkc) :
      v.placePending.mpt = u.placePending.mpt ∧ v.placePending.ere = u.placePending.ere := by
    unfold State.placePending
    rw [hl]
    split
    · rw [hm]
      split
      · exact ⟨rfl, he⟩
      · exact ⟨hm, he⟩
    · exact ⟨hm, he⟩
  have hlkc (x : State) : x.reofferSweep.lkc = x.lkc := by
    obtain ⟨owed, h, -⟩ := x.reofferSweep_eq
    rw [h]
  unfold State.finish
  cases read with
  | true => exact hplace hsweep.1 hsweep.2 (by rw [if_pos rfl, if_pos rfl, hlkc, hlkc, hl])
  | false => exact hplace hm he hl

/-- A frame that changes nothing of the port, the order and the lock state: the transactions end alike. -/
theorem State.finish_sameExcept_inner {L : List Block} (h : u.sameExcept v L) (hm : .mpt ∉ L) (he : .ere ∉ L) (hl : .lkc ∉ L) :
    (u.finish read).settleStandby.sameExcept (v.finish read).settleStandby L := by
  refine State.sameExcept.settle ?_
  have hmpt : v.mpt = u.mpt := h.block .mpt hm
  have here : v.ere = u.ere := h.block .ere he
  have hends := State.finish_congr (read := read) hmpt here (h.block .lkc hl)
  rw [State.sameExcept_iff] at h ⊢
  simpa [hends, hm, he, hmpt, here] using h

end

/-- What a reply of the bridge meets: the state after the reading out, its entries but for their timers as before. -/
theorem State.readOut_entries (s : State) (sent : Bool) :
    sameLoads (s.readOut sent).1.cxm.entries s.cxm.entries ∧ (s.readOut sent).1.ere = s.ere ∧
      (s.readOut sent).1.lkc = s.lkc ∧ (s.readOut sent).1.mpt.statePending = s.mpt.statePending := by
  obtain ⟨o, es, hread, hloads, -⟩ := s.readOut_eq sent
  rw [hread]
  exact ⟨hloads, rfl, rfl, rfl⟩

/-- Settles O27: the three outcomes of a KEYACK for the load, and the KEYACKs that meet no load. -/
theorem keyackCompletesLoad : Obligations.KeyackCompletesLoad := by
  unfold Obligations.KeyackCompletesLoad
  intro s sent hp
  have hmedia := exec_media (sent := sent) hp
  have hack {i : CtxIx} {order : Byte} {ok : Bool} : exec (.keyack sent (BitVec.ofNat 8 i.val) order ok) s =
      .next (((s.readOut sent).1.keyAck i order ok).finish (s.readOut sent).2).settleStandby :=
    exec_keyack hp (contextOf_ctx i)
  obtain ⟨hentries, here, hlkc, hpending⟩ := s.readOut_entries sent
  refine ⟨_, hmedia, fun i r o n timer hi => ⟨?_, ?_, fun order ok ho => ?_⟩, fun i order ok hi => ?_,
    fun context order ok hc => (exec_keyack_none hp (contextOf_large hc)).trans hmedia⟩
  · obtain ⟨timer', hi'⟩ := hentries.loading hi
    rw [hack, State.keyAck_ok hi']
    generalize (s.readOut sent).1 = u at *
    refine ⟨_, rfl, State.finish_sameExcept_inner (by simp [State.sameExcept_iff, State.setEntry, State.touchContext])
      (by simp) (by simp) (by simp), by simp [State.setEntry, State.touchContext], ?_⟩
    rw [State.settleStandby_dqq, State.finish_dqq]
    have hdecide (q : Query) := State.decideQuery_congr (s := (u.setEntry i (.loaded r o)).touchContext i)
      (t := State.settleStandby (State.finish { (u.setEntry i (.loaded r o)).touchContext i with
        dqq := resolveWaiting u.dqq r ((u.setEntry i (.loaded r o)).touchContext i).decideStored } (s.readOut sent).2))
      (by simp) (by simp) (by simp) (by simp) (by rw [State.settleStandby_cxm, State.finish_cxm]; exact fun _ => rfl) q
    refine (resolveWaiting_eq (l := u.dqq) (fun p d hw hr hd => (if_pos ⟨hw, hr⟩).trans ?_)
      (fun p hw hr hd => (if_pos ⟨hw, hr⟩).trans ?_) fun p h => if_neg h).trans
      (by rw [State.settleStandby_dqq, State.finish_dqq])
    · rw [hdecide, State.decideStored_eq_some.mp hd]
    · obtain ⟨k, hk⟩ := State.decideStored_eq_none.mp hd
      rw [hdecide, hk]
  · obtain ⟨timer', hi'⟩ := hentries.loading hi
    rw [hack, State.keyAck_fail hi']
    generalize (s.readOut sent).1 = u at *
    refine ⟨_, rfl, fun hn => ?_, fun hn => ?_⟩
    · obtain ⟨timer, m, hsend, hqueued, hquiet⟩ := u.sendKeyload_spec i r o (n + 1)
      rw [State.loadTryFailed_resends hi' hn, hsend]
      refine ⟨State.finish_sameExcept (L := [.cxm, .mpt]) (by simp [State.sameExcept_iff]) |>.mono (by simp), timer,
        by simp, fun b hb hstate howed => ?_⟩
      rw [State.finish_quiet (hquiet (hpending.trans hstate)) (.inl (by rw [← here] at howed; exact howed)),
        State.finish_quiet (.inl (hpending.trans hstate)) (.inl (by rw [here]; exact howed))]
      exact ⟨rfl, hqueued b (by rw [hlkc]; exact hb)⟩
    · rw [State.loadTryFailed_ends hi' hn]
      refine ⟨State.finish_sameExcept_inner (by simp [State.sameExcept_iff, State.setEntry]) (by simp) (by simp) (by simp),
        by simp [State.setEntry], by rw [State.settleStandby_ppt, State.settleStandby_ppt, State.finish_ppt, State.finish_ppt]; rfl, ?_⟩
      rw [State.settleStandby_dqq, State.finish_dqq]
      exact (resolveWaiting_fault u.dqq r).trans (by simp)
  · obtain ⟨timer', hi'⟩ := hentries.loading hi
    rw [hack, State.keyAck_other hi' ho]
  · rw [hack, State.keyAck_idle fun r o n timer he => (hentries.symm.loading he).elim fun t ht => hi r o n t ht]

/-- Settles O28: a try that ends is sent again, or ends the load. -/
theorem keyloadTimeout : Obligations.KeyloadTimeout := by
  unfold Obligations.KeyloadTimeout
  intro s i r o n e hp hi he
  have hexpire : s.keyloadTimeout i = s.loadTryFailed i := by
    unfold State.keyloadTimeout
    rw [hi]
    exact if_pos (decide_eq_true he)
  have hexec : exec (.keyloadReplyTimeout i) s = .next (s.loadTryFailed i).settleStandby :=
    hexpire ▸ exec_event (fun s => s.keyloadTimeout i) hp
  refine ⟨_, hexec, fun hn => ?_, fun hn => ?_⟩
  · obtain ⟨timer, m, hsend, hqueued, -⟩ := s.sendKeyload_spec i r o (n + 1)
    rw [State.loadTryFailed_resends hi hn, hsend]
    exact ⟨State.sameExcept.settled (by simp [State.sameExcept_iff]), timer, rfl, hqueued⟩
  · rw [State.loadTryFailed_ends hi hn]
    exact ⟨State.sameExcept.settled (by simp [State.sameExcept_iff, State.setEntry]), rfl, rfl,
      resolveWaiting_fault s.dqq r⟩

/-- Settles O29: the PURGEACK that the entry waits for, those it does not, and the PURGE sent again. -/
theorem purgeReplies : Obligations.PurgeReplies := by
  unfold Obligations.PurgeReplies
  intro s hp
  refine ⟨fun sent => ?_, fun i r o e hi he => ?_⟩
  · have hmedia := exec_media (sent := sent) hp
    have hack {i : CtxIx} {order : Byte} : exec (.purgeack sent (BitVec.ofNat 8 i.val) order) s =
        .next (((s.readOut sent).1.purgeAck i order).finish (s.readOut sent).2).settleStandby :=
      exec_purgeack hp (contextOf_ctx i)
    obtain ⟨hentries, -⟩ := s.readOut_entries sent
    refine ⟨_, hmedia, fun i r o timer hi => ⟨?_, fun order ho => ?_⟩, fun i order hi => ?_,
      fun context order hc => (exec_purgeack_none hp (contextOf_large hc)).trans hmedia⟩
    · obtain ⟨timer', hi'⟩ := hentries.purging hi
      rw [hack, State.purgeAck_taken hi']
      exact ⟨_, rfl, State.finish_sameExcept_inner (by simp [State.sameExcept_iff]) (by simp) (by simp) (by simp),
        by simp [State.setEntry]⟩
    · obtain ⟨timer', hi'⟩ := hentries.purging hi
      rw [hack, State.purgeAck_other hi' ho]
    · rw [hack, State.purgeAck_idle fun r o timer he => (hentries.symm.purging he).elim fun t ht => hi r o t ht]
  · have hexpire : s.purgeTimeout i = s.sendPurge i r o := by
      unfold State.purgeTimeout
      rw [hi]
      exact if_pos (decide_eq_true he)
    have hexec : exec (.purgeReplyTimeout i) s = .next (s.sendPurge i r o).settleStandby :=
      hexpire ▸ exec_event (fun s => s.purgeTimeout i) hp
    exact ⟨_, replyAfter (s.mpt.offerOrder (.purge i o)).2, hexec, State.sameExcept.settled (by simp [State.sameExcept_iff]),
      rfl, s.mpt.offerOrder_queuedWith rfl⟩

/-- Settles O30: the entry at the place is due. -/
theorem repeatTimerDiscards : Obligations.RepeatTimerDiscards := by
  unfold Obligations.RepeatTimerDiscards
  intro s place p d stale e hp hplace hready he
  have hdue : p.due = true := by
    unfold Parked.due
    rw [hready]
    exact decide_eq_true he
  have hdiscard : s.discardParked place = { s with dqq := s.dqq.eraseIdx place }.setFlag .discard := by
    unfold State.discardParked
    rw [hplace]
    exact if_pos hdue
  have hexec := exec_event (c := .repeatTimerExpiry place) (fun s => s.discardParked place) hp
  rw [hdiscard] at hexec
  exact ⟨_, hexec, State.sameExcept.settled (by simp [State.sameExcept_iff]), rfl, rfl⟩

end Sys2Proof.Machine
end

section
/-! SUPPORT. The lock procedure in full: the contexts it purges, the key buffer, the install and its writes, and the
notice (R7, R8, R9, R111, R135). -/

namespace Sys2Proof.Machine

set_option Elab.async false

/-! ### Purges -/

/-- Of two context maps: the entries held for a range that `p` names are PURGING in the second, and the others stand. -/
def purgedAt (p : CtxIx → RangeIx → Prop) (a b : Vector ContextEntry 4) : Prop :=
  ∀ i : CtxIx, (∀ r, a[i].heldRange = some r → p i r → ∃ o t, b[i] = .purging r o t) ∧
    ((∀ r, a[i].heldRange = some r → ¬ p i r) → b[i] = a[i])

section
variable {p q : CtxIx → RangeIx → Prop} {a b d : Vector ContextEntry 4}

theorem purgedAt.refl (h : ∀ i r, ¬ p i r) : purgedAt p a a := fun i => ⟨fun r _ hp => absurd hp (h i r), fun _ => rfl⟩

theorem purgedAt.congr (h : purgedAt p a b) (hpq : ∀ i r, p i r ↔ q i r) : purgedAt q a b := fun i =>
  ⟨fun r hr hq => (h i).1 r hr ((hpq i r).mpr hq), fun hn => (h i).2 fun r hr hp => hn r hr ((hpq i r).mp hp)⟩

/-- Two purges in turn: an entry that is PURGING is held for no range, and stays. -/
theorem purgedAt.trans (h : purgedAt p a b) (k : purgedAt q b d) : purgedAt (fun i r => p i r ∨ q i r) a d := by
  intro i
  have hstays (r : RangeIx) (hr : a[i].heldRange = some r) (hp : p i r) : ∃ o t, d[i] = .purging r o t := by
    obtain ⟨o, t, hb⟩ := (h i).1 r hr hp
    refine ⟨o, t, ((k i).2 fun r' hr' => ?_).trans hb⟩
    rw [hb] at hr'
    cases hr'
  refine ⟨fun r hr hor => ?_, fun hn => ?_⟩
  · by_cases hp : p i r
    · exact hstays r hr hp
    · have hb := (h i).2 fun r' hr' => by
        cases hr.symm.trans hr'
        exact hp
      exact (k i).1 r (by rw [hb]; exact hr) (hor.resolve_left hp)
  · have hb := (h i).2 fun r hr hp => hn r hr (.inl hp)
    exact ((k i).2 fun r hr hq => hn r (by rw [← hb]; exact hr) (.inr hq)).trans hb

/-- A map that holds no range is purged of none. -/
theorem purgedAt.empty (h : purgedAt p a b) (hn : ∀ i : CtxIx, a[i].heldRange = none) (i : CtxIx) : b[i] = a[i] :=
  (h i).2 fun r hr => by
    rw [hn i] at hr
    cases hr

/-- What a purge leaves held was not to be purged. -/
theorem purgedAt.held (h : purgedAt p a b) {i : CtxIx} {r : RangeIx} (hr : b[i].heldRange = some r) :
    a[i].heldRange = some r ∧ ¬ p i r := by
  by_cases hp : ∃ r', a[i].heldRange = some r' ∧ p i r'
  · obtain ⟨r', hr', hp⟩ := hp
    obtain ⟨o, t, hb⟩ := (h i).1 r' hr' hp
    rw [hb] at hr
    cases hr
  · have hn : ∀ r', a[i].heldRange = some r' → ¬ p i r' := fun r' hr' hp' => hp ⟨r', hr', hp'⟩
    rw [(h i).2 hn] at hr
    exact ⟨hr, hn r hr⟩

end

section
variable (s : State)

theorem State.purgeOne_purged (p : RangeIx → Bool) (i : CtxIx) :
    ∃ c m, s.purgeOne p i = { s with cxm := c, mpt := m } ∧ c.lru = s.cxm.lru ∧ m.attached = s.mpt.attached ∧
      m.capacity = s.mpt.capacity ∧ purgedAt (fun j r => j = i ∧ p r = true) s.cxm.entries c.entries ∧
      (s.cxm.entries[i].heldRange = none → c = s.cxm ∧ m = s.mpt) := by
  have hsame (h : ∀ r, s.cxm.entries[i].heldRange = some r → p r = false) :
      purgedAt (fun j r => j = i ∧ p r = true) s.cxm.entries s.cxm.entries := fun j =>
    ⟨fun r hr ⟨hj, hp⟩ => by
      subst hj
      exact absurd ((h r hr).symm.trans hp) (by decide), fun _ => rfl⟩
  unfold State.purgeOne
  split
  · next r hr =>
    split
    · next hp =>
      obtain ⟨c, m, h, hl, ha, hc, -, o, t, he⟩ := s.startPurge_eq i r
      refine ⟨c, m, h, hl, ha, hc, fun j => ⟨fun r' hr' ⟨hj, _⟩ => ?_, fun hn => ?_⟩, fun hnone => ?_⟩
      · subst hj
        cases hr.symm.trans hr'
        exact ⟨o, t, by rw [he, getElem_set_fin, if_pos rfl]⟩
      · rw [he, getElem_set_fin, if_neg]
        rintro rfl
        exact hn r hr ⟨rfl, hp⟩
      · cases hr.symm.trans hnone
    · next hp =>
      refine ⟨_, _, rfl, rfl, rfl, rfl, hsame fun r' hr' => ?_, fun _ => ⟨rfl, rfl⟩⟩
      cases hr.symm.trans hr'
      exact Bool.eq_false_iff.mpr hp
  · next hr => exact ⟨_, _, rfl, rfl, rfl, rfl, hsame fun r' hr' => (nomatch hr.symm.trans hr'), fun _ => ⟨rfl, rfl⟩⟩

/-- A purge, of every context in order: the entries of the named ranges, and of a map that holds none, nothing. -/
theorem State.purgeWhere_purged (p : RangeIx → Bool) :
    ∃ c m, s.purgeWhere p = { s with cxm := c, mpt := m } ∧ c.lru = s.cxm.lru ∧ m.attached = s.mpt.attached ∧
      m.capacity = s.mpt.capacity ∧ purgedAt (fun _ r => p r = true) s.cxm.entries c.entries ∧
      ((∀ i : CtxIx, s.cxm.entries[i].heldRange = none) → c = s.cxm ∧ m = s.mpt) := by
  rw [State.purgeWhere_steps]
  obtain ⟨c0, m0, h0, l0, a0, k0, p0, n0⟩ := s.purgeOne_purged p 0
  rw [h0]
  obtain ⟨c1, m1, h1, l1, a1, k1, p1, n1⟩ := State.purgeOne_purged { s with cxm := c0, mpt := m0 } p 1
  rw [h1]
  obtain ⟨c2, m2, h2, l2, a2, k2, p2, n2⟩ := State.purgeOne_purged { s with cxm := c1, mpt := m1 } p 2
  rw [h2]
  obtain ⟨c3, m3, h3, l3, a3, k3, p3, n3⟩ := State.purgeOne_purged { s with cxm := c2, mpt := m2 } p 3
  rw [h3]
  refine ⟨c3, m3, rfl, l3.trans (l2.trans (l1.trans l0)), a3.trans (a2.trans (a1.trans a0)),
    k3.trans (k2.trans (k1.trans k0)), (((p0.trans p1).trans p2).trans p3).congr fun i r => ?_, fun hn => ?_⟩
  · fin_cases i <;> simp
  · obtain ⟨rfl, rfl⟩ := n0 (hn 0)
    obtain ⟨rfl, rfl⟩ := n1 (hn 1)
    obtain ⟨rfl, rfl⟩ := n2 (hn 2)
    exact n3 (hn 3)

/-! ### A range brought into line (R8) -/

/-- Whether an install of `new` over `old` drops the contexts of the range: UNUSED now, or another key (R8). -/
def dropsContext (old new : RangeRecord) : Prop := new = .unused ∨ old.wrapped? ≠ new.wrapped?

theorem State.alignRange_purged (k : RangeIx) (old new : RangeRecord) :
    ∃ c m, s.alignRange k old new =
        { s with lkc := { s.lkc with keyBuffer := (s.lkc.keyBuffer.set k (s.publicKey new)) }, cxm := c, mpt := m } ∧
      c.lru = s.cxm.lru ∧ m.attached = s.mpt.attached ∧ m.capacity = s.mpt.capacity ∧
      purgedAt (fun _ r => r = k ∧ dropsContext old new) s.cxm.entries c.entries ∧
      ((∀ i : CtxIx, s.cxm.entries[i].heldRange = none) → c = s.cxm ∧ m = s.mpt) := by
  have hdrops : (new = .unused || old.wrapped? != new.wrapped?) = true ↔ dropsContext old new := by
    simp [dropsContext]
  unfold State.alignRange
  split
  · next hd =>
    obtain ⟨c, m, h, hl, ha, hc, hp, hn⟩ := (s.setPosition k (s.publicKey new)).purgeWhere_purged (fun r => r = k)
    exact ⟨c, m, h, hl, ha, hc, hp.congr fun i r => by simp [hdrops.mp hd], hn⟩
  · next hd =>
    exact ⟨_, _, rfl, rfl, rfl, rfl, .refl fun i r h => hd (hdrops.mpr h.2), fun _ => ⟨rfl, rfl⟩⟩

theorem State.alignRanges_purged (old new : Vector RangeRecord 8) (l : List RangeIx) : ∀ s : State,
    ∃ b c m, l.foldl (fun s k => s.alignRange k old[k] new[k]) s =
        { s with lkc := { s.lkc with keyBuffer := b }, cxm := c, mpt := m } ∧
      c.lru = s.cxm.lru ∧ m.attached = s.mpt.attached ∧ m.capacity = s.mpt.capacity ∧
      (∀ k : RangeIx, b[k] = if k ∈ l then s.publicKey new[k] else s.lkc.keyBuffer[k]) ∧
      purgedAt (fun _ r => r ∈ l ∧ dropsContext old[r] new[r]) s.cxm.entries c.entries ∧
      ((∀ i : CtxIx, s.cxm.entries[i].heldRange = none) → c = s.cxm ∧ m = s.mpt) := by
  induction l with
  | nil => exact fun s => ⟨_, _, _, rfl, rfl, rfl, rfl, fun k => (if_neg List.not_mem_nil).symm,
      .refl fun i r h => List.not_mem_nil h.1, fun _ => ⟨rfl, rfl⟩⟩
  | cons j l ih =>
    intro s
    obtain ⟨c, m, h, hl, ha, hc, hp, hn⟩ := s.alignRange_purged j old[j] new[j]
    rw [List.foldl_cons, h]
    obtain ⟨b', c', m', h', hl', ha', hc', hb', hp', hn'⟩ :=
      ih { s with lkc := { s.lkc with keyBuffer := (s.lkc.keyBuffer.set j (s.publicKey new[j])) }, cxm := c, mpt := m }
    refine ⟨b', c', m', h', hl'.trans hl, ha'.trans ha, hc'.trans hc, fun k => ?_, (hp.trans hp').congr fun i r => ?_,
      fun hnone => ?_⟩
    · rw [hb' k, getElem_set_fin]
      by_cases hk : k ∈ l
      · rw [if_pos hk, if_pos (List.mem_cons_of_mem _ hk)]
        rfl
      · by_cases hj : j = k
        · subst hj
          rw [if_neg hk, if_pos rfl, if_pos List.mem_cons_self]
        · rw [if_neg hk, if_neg hj, if_neg (by simp [hk, Ne.symm hj])]
    · constructor
      · rintro (⟨rfl, hd⟩ | ⟨hr, hd⟩)
        · exact ⟨List.mem_cons_self, hd⟩
        · exact ⟨List.mem_cons_of_mem _ hr, hd⟩
      · rintro ⟨hr, hd⟩
        rcases List.mem_cons.mp hr with rfl | hr
        · exact .inl ⟨rfl, hd⟩
        · exact .inr ⟨hr, hd⟩
    · obtain ⟨rfl, rfl⟩ := hn hnone
      exact hn' hnone

end

end Sys2Proof.Machine
end

section
/-! SUPPORT. The writes of an install, of a store in any state (R111, R162 to R164). -/

namespace Sys2Proof.Machine

set_option Elab.async false

/-! ### What waits -/

/-- A write that waits: in the queue, or in the reserve list (R162, R164). -/
def Stc.waits (q : Stc) (e : QueueEntry) : Prop := e ∈ q.queue ∨ e ∈ q.reserve

section
variable {q r : Stc} {k : OfferKind} {e x : QueueEntry}

/-- A taking lets no write wait that did not. -/
theorem Stc.waits_of_take (h : q.take.waits x) : q.waits x := by
  unfold Stc.waits Stc.take at *
  split at h
  · exact ((refill_owed _ _).mp h).imp List.mem_of_mem_eraseP id
  · exact h

theorem mem_replaceIn {l : List QueueEntry} (h : x ∈ replaceIn l e) :
    (x.cell = e.cell ∧ x.write = e.write) ∨ (x.cell ≠ e.cell ∧ x ∈ l) := by
  obtain ⟨y, hy, rfl⟩ := List.mem_map.mp h
  split
  · exact .inl ⟨rfl, rfl⟩
  · next hne => exact .inr ⟨hne, hy⟩

/-- An admission lets no write of another cell wait that did not (R162). -/
theorem Stc.waits_of_admission (h : q.admission k e = some r) (hx : r.waits x) (hne : x.cell ≠ e.cell) : q.waits x := by
  have hold {l : List QueueEntry} (h : x ∈ replaceIn l e) : x ∈ l :=
    (mem_replaceIn h).elim (fun he => absurd he.1 hne) And.right
  have hnew {l : List QueueEntry} (h : x ∈ l ++ [e]) : x ∈ l := by
    rcases List.mem_append.mp h with h | h
    · exact h
    · exact absurd (congrArg QueueEntry.cell (List.mem_singleton.mp h)) hne
  unfold Stc.admission at h
  split at h
  · cases h
    exact hx.imp_left hold
  split at h
  · cases h
    exact hx.imp_right hold
  split at h
  · cases h
    exact hx.imp_left hnew
  split at h
  · cases h
    exact hx.imp_left hnew
  split at h
  · cases h
    exact hx.imp_right hnew
  · cases h

theorem mem_of_holdsCell_false {l : List QueueEntry} {c : Cell} (h : holdsCell l c = false) (hx : x ∈ l) : x.cell ≠ c :=
  fun hc => holdsCell_eq_false.mp h (hc ▸ List.mem_map_of_mem hx)

/-- Of the admitted write's own cell none waits after it but the new one (R162). -/
theorem Stc.waits_new (hq : q.lawful) (h : q.admission k e = some r) (hx : r.waits x) (hc : x.cell = e.cell) :
    x.write = e.write := by
  have hown {l : List QueueEntry} (h : x ∈ replaceIn l e) : x.write = e.write :=
    (mem_replaceIn h).elim And.right fun he => absurd hc he.1
  have hnew {l : List QueueEntry} (hl : holdsCell l e.cell = false) (h : x ∈ l ++ [e]) : x.write = e.write := by
    rcases List.mem_append.mp h with h | h
    · exact absurd hc (mem_of_holdsCell_false hl h)
    · rw [List.mem_singleton.mp h]
  unfold Stc.admission at h
  split at h
  · next hh =>
    cases h
    have hreserve : holdsCell q.reserve e.cell = false := by
      rw [holdsCell_eq_false]
      intro hmem
      have hnodup := hq.2.2.1
      rw [List.map_append] at hnodup
      refine List.disjoint_of_nodup_append hnodup (a := e.cell) ?_ hmem
      by_contra hn
      exact Bool.eq_false_iff.mp (holdsCell_eq_false.mpr hn) hh
    exact hx.elim hown fun h => absurd hc (mem_of_holdsCell_false hreserve h)
  next hqueue =>
  rw [Bool.not_eq_true] at hqueue
  split at h
  · cases h
    exact hx.elim (fun h => absurd hc (mem_of_holdsCell_false hqueue h)) hown
  next hreserve =>
  rw [Bool.not_eq_true] at hreserve
  split at h
  · cases h
    exact hx.elim (hnew hqueue) fun h => absurd hc (mem_of_holdsCell_false hreserve h)
  split at h
  · cases h
    exact hx.elim (hnew hqueue) fun h => absurd hc (mem_of_holdsCell_false hreserve h)
  split at h
  · cases h
    exact hx.elim (fun h => absurd hc (mem_of_holdsCell_false hqueue h)) (hnew hreserve)
  · cases h

end

section
variable {s : State} {k : OfferKind} {w : CellWrite} {a : Option Awaiter} {x : QueueEntry}

/-- An offer's taking apart, what waits after it waits after its admission. -/
theorem State.offer_waits_cases (hx : (s.offer k w a).1.stc.waits x) :
    (∃ q, s.stc.admission k { write := w, awaiter := a } = some q ∧ q.waits x) ∨
      (s.stc.admission k { write := w, awaiter := a } = none ∧ s.stc.waits x) := by
  unfold State.offer at hx
  split at hx
  · next q hq =>
    have hset : (State.setWorking { s with stc := q } w).stc.waits x := by
      rcases State.takeNext_eq (State.setWorking { s with stc := q } w) with ht | ht
      · rw [ht] at hx
        exact hx
      · rw [ht] at hx
        exact Stc.waits_of_take hx
    refine .inl ⟨q, hq, ?_⟩
    cases w <;> exact hset
  · next hq => exact .inr ⟨hq, hx⟩

theorem State.offer_waits (hx : (s.offer k w a).1.stc.waits x) (hne : x.cell ≠ w.cell) : s.stc.waits x := by
  rcases State.offer_waits_cases hx with ⟨q, hq, h⟩ | ⟨-, h⟩
  · exact Stc.waits_of_admission hq h hne
  · exact h

/-- After a reserved offer no other write of its cell waits. -/
theorem State.offerReserved_waits (hl : s.stc.lawful) (hx : (s.offerReserved w a).stc.waits x) (hc : x.cell = w.cell) :
    x.write = w := by
  rcases State.offer_waits_cases (k := .reserved) hx with ⟨q, hq, h⟩ | ⟨hnone, -⟩
  · exact Stc.waits_new hl hq h hc
  · obtain ⟨q, hq⟩ := s.stc.admission_reserved { write := w, awaiter := a }
    cases hq.symm.trans hnone

end

/-! ### The writes of an install -/

/-- What the writes of an install of `staged` at the indices of `l` make of a store. -/
structure Stc.Installs (staged : Vector RangeRecord 8) (l : List RangeIx) (q r : Stc) : Prop where
  cells : r.cells = q.cells
  idn : r.idn = q.idn
  ready : r.ready = q.ready
  cfg : r.cfg = q.cfg
  owes : ∀ e : QueueEntry, (∀ k ∈ l, e.cell ≠ .rng k) → (r.owes e ↔ q.owes e)
  owed : ∀ k ∈ l, ∃ e, r.owes e ∧ e.write = .rng k staged[k]
  waits : q.lawful → ∀ k ∈ l, ∀ e, r.waits e → e.cell = .rng k → e.write = .rng k staged[k]
  keeps : ∀ e : QueueEntry, (∀ k ∈ l, e.cell ≠ .rng k) → r.waits e → q.waits e
  lawful : q.lawful → r.lawful

theorem Stc.Installs.nil (staged : Vector RangeRecord 8) (q : Stc) : q.Installs staged [] q :=
  ⟨rfl, rfl, rfl, rfl, fun _ _ => Iff.rfl, nofun, nofun, fun _ _ => id, id⟩

theorem State.installWrites_installs (staged : Vector RangeRecord 8) (l : List RangeIx) : ∀ s : State, l.Nodup →
    ∃ live q, l.foldl (fun s k => s.offerReserved (.rng k staged[k]) none) s =
        { s with rgt := { s.rgt with live := live }, stc := q } ∧ s.stc.Installs staged l q ∧
      ∀ k : RangeIx, live[k] = if k ∈ l then staged[k] else s.rgt.live[k] := by
  induction l with
  | nil => exact fun s _ => ⟨s.rgt.live, s.stc, rfl, .nil staged s.stc, fun k => (if_neg List.not_mem_nil).symm⟩
  | cons j l ih =>
    intro s hnodup
    obtain ⟨hj, hl⟩ := List.nodup_cons.mp hnodup
    obtain ⟨q, hoffer, hcfg, hadmits⟩ := s.offerReserved_eq (.rng j staged[j]) none
    have hown (x : QueueEntry) := State.offerReserved_waits (s := s) (w := .rng j staged[j]) (a := none) (x := x)
    have hold (x : QueueEntry) : (s.offerReserved (.rng j staged[j]) none).stc.waits x → x.cell ≠ .rng j → s.stc.waits x :=
      State.offer_waits (s := s) (k := .reserved) (w := .rng j staged[j]) (a := none)
    have hlaw : s.stc.lawful → (s.offerReserved (.rng j staged[j]) none).stc.lawful :=
      State.offer_lawful .reserved (.rng j staged[j]) none
    rw [hoffer] at hown hold hlaw
    rw [List.foldl_cons, hoffer]
    obtain ⟨live, r, hfold, hinst, hlive⟩ := ih { s.setWorking (.rng j staged[j]) with stc := q } hl
    have hout {e : QueueEntry} (h : ∀ k ∈ j :: l, e.cell ≠ .rng k) : ∀ k ∈ l, e.cell ≠ .rng k :=
      fun k hk => h k (List.mem_cons_of_mem _ hk)
    have hapart {e : QueueEntry} (h : e.cell = .rng j) : ∀ k ∈ l, e.cell ≠ .rng k := fun k hk hc => by
      cases h.symm.trans hc
      exact hj hk
    refine ⟨live, r, hfold, ⟨hinst.cells.trans hadmits.cells, hinst.idn.trans hadmits.idn,
      hinst.ready.trans hadmits.ready, hinst.cfg.trans hcfg, fun e he => ?_, fun k hk => ?_, fun hq k hk e hw hc => ?_,
      fun e he hw => ?_, fun hq => hinst.lawful (hlaw hq)⟩, fun k => ?_⟩
    · exact (hinst.owes e (hout he)).trans (hadmits.owes e (he j List.mem_cons_self))
    · rcases List.mem_cons.mp hk with rfl | hk
      · obtain ⟨x, hx, hwrite, -⟩ := hadmits.owed
        exact ⟨x, (hinst.owes x (hapart (by rw [QueueEntry.cell, hwrite]; rfl))).mpr hx, hwrite⟩
      · exact hinst.owed k hk
    · rcases List.mem_cons.mp hk with rfl | hk
      · exact hown e hq (hinst.keeps e (hapart hc) hw) hc
      · exact hinst.waits (hlaw hq) k hk e hw hc
    · exact hold e (hinst.keeps e (hout he) hw) (he j List.mem_cons_self)
    · rw [hlive k]
      by_cases hk : k ∈ l
      · rw [if_pos hk, if_pos (List.mem_cons_of_mem _ hk)]
      · rw [if_neg hk]
        change (s.rgt.live.set j staged[j])[k] = _
        rw [getElem_set_fin]
        by_cases hkj : j = k
        · subst hkj
          rw [if_pos rfl, if_pos List.mem_cons_self]
        · rw [if_neg hkj, if_neg (by simp [hk, Ne.symm hkj])]

end Sys2Proof.Machine
end

section
/-! SUPPORT. The lock procedure as one equation, with what it leaves of each block (R7, R8, R111). -/

namespace Sys2Proof.Machine

set_option Elab.async false

/-! ### The install -/

/-- The indices whose record an install changes: those that differ, of a dirty staged table. -/
def Rgt.altered (g : Rgt) : List RangeIx := if g.dirty then g.changed else []

/-- The tables after a lock procedure: a dirty staged table is live. -/
def Rgt.installed (g : Rgt) : Rgt := if g.dirty then { live := g.staged, staged := g.staged, dirty := false } else g

/-- The ranges whose contexts a lock procedure purges: those that were closed, and the changed ones that lose their key
(R7, R8). -/
def Rgt.drops (g : Rgt) (r : RangeIx) : Prop :=
  g.live[r].isClosed = true ∨ (r ∈ g.altered ∧ dropsContext g.live[r] g.staged[r])

section
variable {g : Rgt} {k : RangeIx}

theorem Rgt.mem_changed : k ∈ g.changed ↔ g.staged[k] ≠ g.live[k] := by
  unfold Rgt.changed
  rw [List.mem_filter, bne_iff_ne]
  exact and_iff_right (mem_allRanges k)

theorem Rgt.mem_altered : k ∈ g.altered ↔ g.dirty = true ∧ g.staged[k] ≠ g.live[k] := by
  unfold Rgt.altered
  split
  · next h => rw [Rgt.mem_changed, and_iff_right h]
  · next h => exact ⟨nofun, fun hk => absurd hk.1 h⟩

theorem Rgt.altered_nodup : g.altered.Nodup := by
  have hall : allRanges.Nodup := by decide
  unfold Rgt.altered Rgt.changed
  split
  · exact hall.filter _
  · exact List.nodup_nil

theorem Rgt.installed_dirty : g.installed.dirty = false := by
  unfold Rgt.installed
  split
  · rfl
  · next h => exact Bool.eq_false_iff.mpr h

theorem Rgt.installed_staged : g.installed.staged = g.staged := by
  unfold Rgt.installed
  split <;> rfl

theorem Rgt.installed_live : g.installed.live[k] = if g.dirty then g.staged[k] else g.live[k] := by
  unfold Rgt.installed
  split <;> rfl

end

section
variable (s : State)

/-- What the lock procedure leaves of a key buffer `base`, the contexts, the outbound queue and the store. -/
structure State.Locks (base b : Vector (Option BufferKey) 8) (c : Cxm) (m : Mpt) (q : Stc) : Prop where
  lru : c.lru = s.cxm.lru
  attached : m.attached = s.mpt.attached
  capacity : m.capacity = s.mpt.capacity
  altered : ∀ k ∈ s.rgt.altered, b[k] = s.publicKey s.rgt.staged[k]
  others : ∀ k, k ∉ s.rgt.altered → b[k] = base[k]
  purged : purgedAt (fun _ r => s.rgt.drops r) s.cxm.entries c.entries
  idle : (∀ i : CtxIx, s.cxm.entries[i].heldRange = none) → c = s.cxm ∧ m = s.mpt
  store : s.stc.Installs s.rgt.staged s.rgt.altered q

theorem State.install_full (hd : s.rgt.dirty = true) : ∃ b c m q, s.install =
      { s with rgt := s.rgt.installed, stc := q, lkc := { s.lkc with keyBuffer := b }, cxm := c, mpt := m } ∧
    c.lru = s.cxm.lru ∧ m.attached = s.mpt.attached ∧ m.capacity = s.mpt.capacity ∧
    (∀ k : RangeIx, b[k] = if k ∈ s.rgt.altered then s.publicKey s.rgt.staged[k] else s.lkc.keyBuffer[k]) ∧
    purgedAt (fun _ r => r ∈ s.rgt.altered ∧ dropsContext s.rgt.live[r] s.rgt.staged[r]) s.cxm.entries c.entries ∧
    ((∀ i : CtxIx, s.cxm.entries[i].heldRange = none) → c = s.cxm ∧ m = s.mpt) ∧
    s.stc.Installs s.rgt.staged s.rgt.altered q := by
  have haltered : s.rgt.altered = s.rgt.changed := if_pos hd
  rw [haltered]
  obtain ⟨live, q, hwrites, hinst, hlive⟩ :=
    State.installWrites_installs s.rgt.staged s.rgt.changed s (haltered ▸ Rgt.altered_nodup)
  have hall : live = s.rgt.staged := by
    refine Vector.ext fun i hi => ?_
    have hk := hlive ⟨i, hi⟩
    split at hk
    · exact hk
    · next hn =>
      rw [Rgt.mem_changed, not_not] at hn
      exact hk.trans hn.symm
  obtain ⟨b, c, m, halign, hl, ha, hc, hb, hp, hn⟩ := State.alignRanges_purged s.rgt.live s.rgt.staged s.rgt.changed
    { s with rgt := { s.rgt with live := live, dirty := false }, stc := q }
  refine ⟨b, c, m, q, ?_, hl, ha, hc, fun k => (hb k).trans ?_, hp, hn, hinst⟩
  · unfold State.install
    dsimp only
    rw [hwrites]
    dsimp only
    rw [halign, Rgt.installed, if_pos hd, hall]
  · unfold State.publicKey
    dsimp only
    rw [hinst.idn]

theorem State.lockTables_full {reason : LockReason} (hr : reason ≠ .erase) : ∃ b c m q, s.lockTables reason =
      { s with dqq := [], rgt := s.rgt.installed, stc := q, lkc := { s.lkc with keyBuffer := b }, cxm := c, mpt := m } ∧
    s.Locks s.lkc.keyBuffer b c m q := by
  obtain ⟨c, m, hpurge, hl, ha, hc, hp, hn⟩ := s.purgeWhere_purged (fun r => s.rgt.live[r].isClosed)
  unfold State.lockTables
  rw [hpurge]
  dsimp only
  by_cases hd : s.rgt.dirty = true
  · rw [if_pos (by simp [hd, hr])]
    obtain ⟨b, c', m', q, hi, hl', ha', hc', hb, hp', hn', hinst⟩ :=
      State.install_full { s with cxm := c, mpt := m, dqq := [] } hd
    refine ⟨b, c', m', q, hi, hl'.trans hl, ha'.trans ha, hc'.trans hc, fun k hk => (hb k).trans (if_pos hk),
      fun k hk => (hb k).trans (if_neg hk), (hp.trans hp').congr fun i r => Iff.rfl, fun hnone => ?_, hinst⟩
    obtain ⟨rfl, rfl⟩ := hn hnone
    exact hn' hnone
  · have hnone : s.rgt.altered = [] := if_neg hd
    have hg : s.rgt.installed = s.rgt := if_neg hd
    rw [if_neg (by simp [hd])]
    refine ⟨s.lkc.keyBuffer, c, m, s.stc, by rw [hg], hl, ha, hc, fun k hk => ?_, fun _ _ => rfl,
      hp.congr fun i r => ⟨.inl, fun h => h.resolve_right fun h => ?_⟩, hn, by rw [hnone]; exact .nil _ _⟩
    · rw [hnone] at hk
      cases hk
    · rw [hnone] at h
      cases h.1

theorem Lkc.zeroiseClosed_get (l : Lkc) (k : RangeIx) :
    l.zeroiseClosed.keyBuffer[k] = l.keyBuffer[k].filter (fun b => b.cls = .pub) := by
  unfold Lkc.zeroiseClosed
  dsimp only
  rw [tab8_get]
  cases l.keyBuffer[k] with
  | none => rfl
  | some b => simp [Option.filter]

/-- The lock procedure of every lock event (R7). -/
theorem State.lockProcedure_full {reason : LockReason} (hr : reason ≠ .erase) : ∃ b c m q, s.lockProcedure reason =
      { s with
        enu := s.enu.cancelled, slt := { s.slt with driveKey := none }, lkc := s.lkc.lockedWith b,
        rgt := s.rgt.installed, cxm := c, dqq := [], stc := q, mpt := (m.offerOrder (.state .locked)).1,
        ppt := s.ppt.setFlag .locked } ∧ s.Locks s.lkc.zeroiseClosed.keyBuffer b c m q := by
  obtain ⟨b, c, m, q, htables, h⟩ := s.lockKeys.lockTables_full hr
  refine ⟨b, c, m, q, ?_, h.lru, h.attached, h.capacity, h.altered, h.others, h.purged, h.idle, h.store⟩
  rw [State.lockProcedure_tables, State.lockedTables, htables]
  rfl

variable {s} {b : Vector (Option BufferKey) 8} {c : Cxm} {m : Mpt} {q : Stc}

/-- The key buffer keeps public keys alone (R7, R20). -/
theorem State.Locks.public (h : s.Locks s.lkc.zeroiseClosed.keyBuffer b c m q) (k : RangeIx) (x : BufferKey) (hx : b[k] = some x) : x.cls = .pub := by
  by_cases hk : k ∈ s.rgt.altered
  · exact State.publicKey_pub ((h.altered k hk).symm.trans hx)
  · exact s.lkc.zeroiseClosed_pub k x ((h.others k hk).symm.trans hx)

/-! ### The notice -/

/-- A notice of a lock state is queued, or pending (R9, R178). -/
def Mpt.notes (m : Mpt) (l : LockState) : Prop := OutFrame.state l ∈ m.outbound ∨ m.statePending = true

/-- The notice is the queue's last frame, or pending. -/
def Mpt.notesLast (m : Mpt) (l : LockState) : Prop := m.outbound.getLast? = some (.state l) ∨ m.statePending = true

theorem Mpt.notesLast.notes {l : LockState} (h : m.notesLast l) : m.notes l := h.imp_left List.mem_of_mem_getLast?

theorem Mpt.offerOrder_notesLast (m : Mpt) (l : LockState) : (m.offerOrder (.state l)).1.notesLast l :=
  m.offerOrder_state l

/-- Another frame offered leaves the notice queued, or makes it pending (R178). -/
theorem Mpt.offerOrder_notes {l : LockState} {f : OutFrame} (hf : f.isState = false) (h : m.notes l) :
    (m.offerOrder f).1.notes l := by
  unfold Mpt.offerOrder Mpt.appendOrder
  rw [hf]
  split
  · exact h.imp_left (List.mem_append_left _)
  · split
    · exact .inr rfl
    · exact h

theorem State.reofferSweep_notes {l : LockState} (h : s.mpt.notes l) : s.reofferSweep.mpt.notes l := by
  unfold State.reofferSweep
  split
  · split
    · exact Mpt.offerOrder_notes rfl h
    · exact h
  · exact h

theorem State.placePending_notes {l : LockState} (h : s.mpt.notes l) (hl : s.lkc.lockState = some l) :
    s.placePending.mpt.notes l := by
  unfold State.placePending
  rw [hl]
  dsimp only
  split
  · exact .inl (List.mem_append_right _ (List.mem_singleton.mpr rfl))
  · exact h

theorem State.placePending_notesLast {l : LockState} (h : s.mpt.notesLast l) (hl : s.lkc.lockState = some l) :
    s.placePending.mpt.notesLast l := by
  unfold State.placePending
  rw [hl]
  dsimp only
  split
  · exact .inl List.getLast?_concat
  · exact h

theorem State.finish_notes {l : LockState} {read : Bool} (h : s.mpt.notes l) (hl : s.lkc.lockState = some l) :
    (s.finish read).mpt.notes l := by
  obtain ⟨owed, hreoffer, -⟩ := s.reofferSweep_eq
  unfold State.finish
  cases read with
  | true => exact State.placePending_notes (State.reofferSweep_notes h) (by rw [if_pos rfl, hreoffer]; exact hl)
  | false => exact State.placePending_notes h hl

theorem State.finish_notesLast {l : LockState} {read : Bool} (h : s.mpt.notesLast l) (hl : s.lkc.lockState = some l)
    (howed : s.ere.sweepOwed = false) : (s.finish read).mpt.notesLast l := by
  have hbase : (if read then s.reofferSweep else s) = s := by
    split
    · unfold State.reofferSweep
      split
      · exact if_neg (by simp [howed])
      · rfl
    · rfl
  unfold State.finish
  rw [hbase]
  exact State.placePending_notesLast h hl

end

end Sys2Proof.Machine
end

section
/-! SUPPORT. Lock events of every kind in an unlocked drive: what the command leaves (R4, R5, R7, R8, R9). -/

namespace Sys2Proof.Machine

set_option Elab.async false

/-! ### What a lock event leaves -/

/-- A state that a command has not yet locked: what the lock procedure reads, and what it leaves unread but unchanged. -/
structure State.SameTables (s u : State) : Prop where
  unlocked : u.unlocked
  rgt : u.rgt = s.rgt
  buffer : u.lkc.keyBuffer = s.lkc.keyBuffer
  idnFault : u.lkc.idnFault = s.lkc.idnFault
  stc : u.stc = s.stc
  slots : u.slt.slots = s.slt.slots
  counter : u.atg.counter = s.atg.counter
  journal : u.ere.journal = s.ere.journal
  fresh : u.freshCount = s.freshCount

/-- The drive after a lock event that met the contexts `es`; `P` says whether a BKO write was queued beside the install. -/
structure State.LockedFrom (s : State) (es : Vector ContextEntry 4) (P : Prop) (t : State) : Prop where
  closed : t.closedDown
  rgt : t.rgt = s.rgt.installed
  altered : ∀ k ∈ s.rgt.altered, t.lkc.keyBuffer[k] = s.publicKey s.rgt.staged[k]
  others : ∀ k, k ∉ s.rgt.altered → t.lkc.keyBuffer[k] = s.lkc.keyBuffer[k].filter (fun b => b.cls = .pub)
  purged : purgedAt (fun _ r => s.rgt.drops r) es t.cxm.entries
  notes : t.mpt.notes .locked
  cells : t.stc.cells = s.stc.cells
  owes : ∀ e : QueueEntry, (∀ k ∈ s.rgt.altered, e.cell ≠ .rng k) → (P → e.cell ≠ .bko) → (t.stc.owes e ↔ s.stc.owes e)
  owed : ∀ k ∈ s.rgt.altered, ∃ e, t.stc.owes e ∧ e.write = .rng k s.rgt.staged[k]
  waits : s.stc.lawful → ∀ k ∈ s.rgt.altered, ∀ e, t.stc.waits e → e.cell = .rng k → e.write = .rng k s.rgt.staged[k]
  slots : t.slt.slots = s.slt.slots
  counter : t.atg.counter = s.atg.counter
  journal : t.ere.journal = s.ere.journal
  fresh : t.freshCount = s.freshCount

section
variable {s u t v : State} {es : Vector ContextEntry 4} {P Q : Prop}

theorem State.lockEvent_lockedFrom (h : s.SameTables u) {reason : LockReason} (hr : reason ≠ .erase) :
    s.LockedFrom u.cxm.entries P (u.lockEvent reason) ∧ (u.lockEvent reason).mpt.notesLast .locked := by
  obtain ⟨b, c, m, q, hlock, hl⟩ := u.lockProcedure_full hr
  rw [State.lockEvent_unlocked reason h.unlocked, hlock]
  have hstore := hl.store
  rw [h.rgt, h.stc] at hstore
  have hpublic (r : RangeRecord) : u.publicKey r = s.publicKey r := by
    unfold State.publicKey
    rw [h.idnFault, h.stc]
  have hnotes := m.offerOrder_notesLast .locked
  refine ⟨⟨⟨rfl, rfl, rfl, rfl, rfl, rfl, rfl, hl.public, rfl, Rgt.installed_dirty, rfl,
    by simp⟩, by rw [h.rgt], fun k hk => ?_, fun k hk => ?_, ?_, hnotes.notes, hstore.cells, fun e he _ => hstore.owes e he,
    hstore.owed, hstore.waits, h.slots, h.counter, h.journal, h.fresh⟩, hnotes⟩
  · rw [← h.rgt] at hk ⊢
    exact (hl.altered k hk).trans (hpublic _)
  · rw [← h.rgt] at hk
    refine (hl.others k hk).trans ?_
    rw [Lkc.zeroiseClosed_get, h.buffer]
  · rw [← h.rgt]
    exact hl.purged

theorem State.LockedFrom.congr (h : s.LockedFrom es P t) (hlkc : v.lkc = t.lkc) (hrgt : v.rgt = t.rgt)
    (hcxm : v.cxm = t.cxm) (hdqq : v.dqq = []) (hslt : v.slt = t.slt) (hatg : v.atg = t.atg)
    (hstc : v.stc = t.stc) (hppt : v.ppt = t.ppt) (hjournal : v.ere.journal = t.ere.journal)
    (hfresh : v.freshCount = t.freshCount) (hnotes : v.mpt.notes .locked) : s.LockedFrom es P v := by
  obtain ⟨c1, c2, c3, c4, c5, c6, c7, c8, -, c10, c11, c12⟩ := h.closed
  have hclosed : v.closedDown := by
    unfold State.closedDown
    rw [hlkc, hrgt, hslt, hppt]
    exact ⟨c1, c2, c3, c4, c5, c6, c7, c8, hdqq, c10, c11, c12⟩
  exact ⟨hclosed, hrgt.trans h.rgt, by rw [hlkc]; exact h.altered, by rw [hlkc]; exact h.others,
    by rw [hcxm]; exact h.purged, hnotes, by rw [hstc]; exact h.cells, by rw [hstc]; exact h.owes,
    by rw [hstc]; exact h.owed, by rw [hstc]; exact h.waits, by rw [hslt]; exact h.slots, by rw [hatg]; exact h.counter,
    hjournal.trans h.journal, hfresh.trans h.fresh⟩

theorem State.LockedFrom.noParked (h : s.LockedFrom es P t) : t.dqq = [] := by
  obtain ⟨-, -, -, -, -, -, -, -, hdqq, -⟩ := h.closed
  exact hdqq

theorem State.LockedFrom.settle (h : s.LockedFrom es P t) : s.LockedFrom es P t.settleStandby :=
  h.congr rfl rfl rfl h.noParked rfl rfl rfl rfl rfl rfl h.notes

theorem State.LockedFrom.finish (h : s.LockedFrom es P t) (read : Bool) : s.LockedFrom es P (t.finish read) :=
  h.congr (by simp) (by simp) (by simp) (by rw [State.finish_dqq, h.noParked]) (by simp) (by rw [State.finish_eq])
    (by simp) (by simp) (by simp) (by simp) (State.finish_notes h.notes h.closed.1)

/-! ### A DETACH's later effects -/

theorem Mpt.withdraw_notesLast {m : Mpt} {l : LockState} (h : m.notesLast l) : (m.withdraw OutFrame.isSweep).notesLast l := by
  refine h.imp_left fun hlast => ?_
  unfold Mpt.withdraw
  obtain ⟨front, hout⟩ := List.getLast?_eq_some_iff.mp hlast
  rw [hout, List.filter_append]
  exact List.getLast?_concat

theorem Mpt.withdraw_notes {m : Mpt} {l : LockState} (h : m.notes l) : (m.withdraw OutFrame.isSweep).notes l :=
  h.imp_left fun hmem => List.mem_filter.mpr ⟨hmem, rfl⟩

/-- What a pause can change: the SWEEP frames withdrawn, and the order (R153). -/
theorem State.pauseSweep_eq (s : State) : ∃ m e, s.pauseSweep = { s with mpt := m, ere := e } ∧
    (m = s.mpt ∨ m = s.mpt.withdraw OutFrame.isSweep) ∧ e.journal = s.ere.journal ∧ e.awaited = s.ere.awaited ∧
    (s.ere.sweepOwed = false → e.sweepOwed = false) := by
  unfold State.pauseSweep
  split
  · exact ⟨_, _, rfl, .inr rfl, rfl, rfl, fun _ => rfl⟩
  · exact ⟨_, _, rfl, .inl rfl, rfl, rfl, id⟩

theorem State.LockedFrom.detached (h : s.LockedFrom es P t) : s.LockedFrom es P t.markStale.pauseSweep := by
  obtain ⟨m, e, hpause, hm, hj, -⟩ := t.markStale.pauseSweep_eq
  rw [hpause]
  refine h.congr rfl rfl rfl ?_ rfl rfl rfl rfl hj rfl ?_
  · rw [State.markStale_eq, h.noParked]
    rfl
  · rcases hm with rfl | rfl
    · exact h.notes
    · exact Mpt.withdraw_notes h.notes

/-! ### The BKO write of an edge -/

theorem State.LockedFrom.recorded (h : s.LockedFrom es False t) : s.LockedFrom es True t.pfwRecord := by
  obtain ⟨r, hoffer, hcfg, hadmits, -⟩ := State.offerGuard_eq t (.bko { active := t.atg.exactRecord, pfwSeen := true }) none rfl
  have hwait (x : QueueEntry) : t.pfwRecord.stc.waits x → x.cell ≠ .bko → t.stc.waits x :=
    State.offer_waits (s := t) (k := .ordinary) (w := .bko { active := t.atg.exactRecord, pfwSeen := true }) (a := none)
  unfold State.pfwRecord at *
  rw [hoffer] at hwait ⊢
  refine ⟨h.closed, h.rgt, h.altered, h.others, h.purged, h.notes, hadmits.cells.trans h.cells,
    fun e he hb => (hadmits.owes e (hb trivial)).trans (h.owes e he nofun), fun k hk => ?_,
    fun hl k hk e hw hc => h.waits hl k hk e (hwait e hw (by rw [hc]; nofun)) hc, h.slots, h.counter, h.journal, h.fresh⟩
  obtain ⟨e, he, hwrite⟩ := h.owed k hk
  exact ⟨e, (hadmits.owes e (by rw [QueueEntry.cell, hwrite]; nofun)).mpr he, hwrite⟩

end

end Sys2Proof.Machine
end

section
/-! SUPPORT. The commands that are lock events, in an unlocked drive (R4, R5, R15, R28, R93, R95, R183). -/

namespace Sys2Proof.Machine

set_option Elab.async false

/-! ### What each command does before its lock event -/

section
variable {s : State}

theorem State.sameTables_readOut (hu : s.unlocked) (sent : Bool) : s.SameTables (s.readOut sent).1 := by
  obtain ⟨o, es, hread, -⟩ := s.readOut_eq sent
  rw [hread]
  exact ⟨hu, rfl, rfl, rfl, rfl, rfl, rfl, rfl, rfl⟩

/-- What the steps of a LINKRESET before its lock event leave (R15, R136, R153, R180). -/
theorem State.linkCleared_eq (s : State) : ∃ e, s.linkEmptied.pauseSweep.clearRetry = { s with
      mpt := { s.mpt with outbound := [], statePending := false, attached := false }, dqq := [], ere := e
      cxm := { s.cxm with entries := (Vector.replicate 4 .empty) } } ∧
    e.journal = s.ere.journal ∧ e.awaited = s.ere.awaited ∧ e.retry = 0 ∧
    (s.ere.sweepOwed = false → e.sweepOwed = false) ∧
    (s.ere.journal.phase = .sweep → s.ere.sweepState = some .ordered → e.order = none ∧ e.sweepState = some .paused) ∧
    (¬ (s.ere.journal.phase = .sweep ∧ s.ere.sweepState = some .ordered) →
      e.order = s.ere.order ∧ e.sweepState = s.ere.sweepState) := by
  unfold State.linkEmptied State.pauseSweep State.clearRetry
  dsimp only
  by_cases h : s.ere.journal.phase = .sweep ∧ s.ere.sweepState = some .ordered
  · have hif : (s.ere.journal.phase = .sweep && s.ere.sweepState = some .ordered) = true := by simp [h.1, h.2]
    rw [if_pos (by exact hif)]
    exact ⟨_, rfl, rfl, rfl, rfl, fun _ => rfl, fun _ _ => ⟨rfl, rfl⟩, fun hn => absurd h hn⟩
  · have hif : ¬ (s.ere.journal.phase = .sweep && s.ere.sweepState = some .ordered) = true := by simpa using h
    rw [if_neg (by exact hif)]
    exact ⟨_, rfl, rfl, rfl, rfl, id, fun h1 h2 => absurd ⟨h1, h2⟩ h, fun _ => ⟨rfl, rfl⟩⟩

theorem State.sameTables_linkCleared {u : State} (h : s.SameTables u) :
    s.SameTables u.linkEmptied.pauseSweep.clearRetry := by
  obtain ⟨e, hclear, hj, -⟩ := u.linkCleared_eq
  rw [hclear]
  exact ⟨h.unlocked, h.rgt, h.buffer, h.idnFault, h.stc, h.slots, h.counter, hj.trans h.journal, h.fresh⟩

/-- The LOCK key's event is a lock event, an entry being collected abandoned first (R6, R30, R38). -/
theorem State.keyEvent_lock {l : LockState} (hl : s.lkc.lockState = some l) (he : l ≠ .erasing) :
    ∃ e p, s.keyEvent .lock = ({ s with enu := e, ppt := p } : State).lockEvent .key ∧
      (s.enu.state ≠ .collecting → p = s.ppt ∧ e = s.restartStandby.enu) := by
  rw [State.keyEvent_present .lock hl he]
  cases hstate : s.enu.state with
  | idle =>
    rw [State.presentKey_idle .lock (by exact hstate)]
    exact ⟨_, _, by cases l <;> rfl, fun _ => ⟨rfl, rfl⟩⟩
  | collecting =>
    rw [State.presentKey_collecting .lock (by exact hstate), State.collectingKey, State.abandonEntry_eq]
    exact ⟨_, _, rfl, fun h => absurd rfl h⟩
  | checking =>
    rw [State.presentKey_busy (s := s.restartStandby) .lock (.inl hstate), if_pos rfl]
    exact ⟨_, _, rfl, fun _ => ⟨rfl, rfl⟩⟩
  | holdoff =>
    rw [State.presentKey_busy (s := s.restartStandby) .lock (.inr hstate), if_pos rfl]
    exact ⟨_, _, rfl, fun _ => ⟨rfl, rfl⟩⟩

/-- What a request's arrival changes: the wake, and the request in progress. -/
theorem State.requestTaken_eq (s : State) : ∃ e k, s.requestTaken =
    { s with enu := e, ksc := k, ppt := { s.ppt with request := none } } ∧ e = { s.enu with standby := false } := by
  obtain ⟨k, hwake⟩ := s.wake_eq
  unfold State.requestTaken
  rw [hwake]
  exact ⟨_, k, rfl, rfl⟩

/-! ### The commands -/

/-- The contexts that a command's lock event meets: none after a LINKRESET, those after the reading out where the command
is another frame, and else those that stand. -/
def State.metBy (s : State) : Instr → Vector ContextEntry 4
  | .linkreset _ => Vector.replicate 4 .empty
  | .hostlock sent | .detach sent => (s.readOut sent).1.cxm.entries
  | _ => s.cxm.entries

/-- The drive after a command that is a lock event. -/
structure State.LockedBy (s : State) (c : Instr) (t : State) : Prop where
  locked : s.LockedFrom (s.metBy c) (c = .pfwEdge) t
  last : c = .lockRequest ∨ s.ere.sweepOwed = false → t.mpt.notesLast .locked
  reply : c = .lockRequest → t.ppt.reply = { type := 0x84, payload := [0x00] }

theorem State.lockEvent_sweepOwed (s : State) (reason : LockReason) : (s.lockEvent reason).ere = s.ere := by
  obtain ⟨e, t, l, g, c, d, q, m, p, hlock, -⟩ := State.lockEvent_frame (s := s) reason
  rw [hlock]

variable {u : State} {c : Instr} {reason : LockReason}

/-- A lock event that is a command of its own. -/
theorem State.lockedBy_event (h : s.SameTables u) (hr : reason ≠ .erase) (hes : s.metBy c = u.cxm.entries)
    (hc : c ≠ .lockRequest) : s.LockedBy c (u.lockEvent reason).settleStandby := by
  obtain ⟨hlocked, hlast⟩ := State.lockEvent_lockedFrom (P := c = .pfwEdge) h hr
  rw [← hes] at hlocked
  exact ⟨hlocked.settle, fun _ => hlast, fun hreq => absurd hreq hc⟩

/-- A lock event by a frame. -/
theorem State.lockedBy_frame (h : s.SameTables u) (hr : reason ≠ .erase) (hes : s.metBy c = u.cxm.entries)
    (hc : c ≠ .lockRequest) (howed : s.ere.sweepOwed = false → u.ere.sweepOwed = false) (read : Bool) :
    s.LockedBy c ((u.lockEvent reason).finish read).settleStandby := by
  obtain ⟨hlocked, hlast⟩ := State.lockEvent_lockedFrom (P := c = .pfwEdge) h hr
  rw [← hes] at hlocked
  refine ⟨(hlocked.finish read).settle, fun hquiet => ?_, fun hreq => absurd hreq hc⟩
  exact State.finish_notesLast hlast hlocked.closed.1
    (by rw [State.lockEvent_sweepOwed]; exact howed (hquiet.resolve_left hc))

theorem exec_hostlock_locks (hp : s.powered = true) (hu : s.unlocked) (sent : Bool) :
    ∃ t, exec (.hostlock sent) s = .next t ∧ s.LockedBy (.hostlock sent) t := by
  exact ⟨_, exec_frame (fun s => s.lockEvent .host) hp, State.lockedBy_frame (c := .hostlock sent) (State.sameTables_readOut hu sent) (reason := .host) nofun rfl nofun
    (by rw [(s.readOut_marks sent).2.1]; exact id) _⟩

theorem exec_linkreset_locks (hp : s.powered = true) (hu : s.unlocked) (sent : Bool) :
    ∃ t, exec (.linkreset sent) s = .next t ∧ s.LockedBy (.linkreset sent) t := by
  obtain ⟨e, hclear, -, -, -, howed, -⟩ := (s.readOut sent).1.linkCleared_eq
  refine ⟨_, exec_frame State.linkResetFrame hp, ?_⟩
  rw [State.linkResetFrame_eq]
  refine State.lockedBy_frame (c := .linkreset sent) (reason := .link)
    (State.sameTables_linkCleared (State.sameTables_readOut hu sent)) nofun (by rw [hclear]; rfl)
    nofun (fun hquiet => ?_) _
  rw [hclear]
  exact howed (by rw [(s.readOut_marks sent).2.1]; exact hquiet)

theorem exec_lockRequest_locks (hp : s.powered = true) (hu : s.unlocked) (hr : s.ppt.restartPending = false) :
    ∃ t, exec .lockRequest s = .next t ∧ s.LockedBy .lockRequest t := by
  have hadmits : s.admits .openOther := by
    unfold State.admits State.gate
    rcases hu with h | h <;> simp [hr, h]
  obtain ⟨e, k, htaken, -⟩ := s.requestTaken_eq
  have hexec := exec_request (c := .lockRequest) (resultReply 0x04)
    (fun s => (s.setReply (resultReply 0x04 .accepted)).lockEvent .panel) hp hadmits
  rw [htaken] at hexec
  obtain ⟨hlocked, hlast⟩ := State.lockEvent_lockedFrom (s := s) (P := Instr.lockRequest = .pfwEdge) (reason := .panel)
    (u := State.setReply { s with enu := e, ksc := k, ppt := { s.ppt with request := none } } (resultReply 0x04 .accepted))
    ⟨hu, rfl, rfl, rfl, rfl, rfl, rfl, rfl, rfl⟩ nofun
  refine ⟨_, hexec, hlocked.settle, fun _ => hlast, fun _ => ?_⟩
  obtain ⟨b, c, m, q, hlock, -⟩ := State.lockProcedure_full (reason := .panel)
    (State.setReply { s with enu := e, ksc := k, ppt := { s.ppt with request := none } } (resultReply 0x04 .accepted)) nofun
  rw [State.lockEvent_unlocked .panel (by exact hu), hlock]
  rfl

theorem exec_idleTimerExpiry_locks (hp : s.powered = true) (hu : s.unlocked) (hidle : s.stc.cfg.idle ≠ 0)
    (hreached : s.lkc.idleTimer.reached (1000 * s.stc.cfg.idle) = true) :
    ∃ t, exec .idleTimerExpiry s = .next t ∧ s.LockedBy .idleTimerExpiry t := by
  have hexec := exec_event (c := .idleTimerExpiry) State.idleExpiry hp
  rw [State.idleExpiry, if_pos (by simp [State.idleDue, hidle, hreached])] at hexec
  exact ⟨_, hexec, State.lockedBy_event ⟨hu, rfl, rfl, rfl, rfl, rfl, rfl, rfl, rfl⟩ nofun rfl nofun⟩

theorem exec_attachWindowExpiry_locks (hp : s.powered = true) (hu : s.unlocked)
    (hreached : s.lkc.windowTimer.reached (1000 * s.stc.cfg.window) = true) :
    ∃ t, exec .attachWindowExpiry s = .next t ∧ s.LockedBy .attachWindowExpiry t := by
  have hexec := exec_event (c := .attachWindowExpiry) State.windowExpiry hp
  rw [State.windowExpiry, if_pos (by exact hreached)] at hexec
  exact ⟨_, hexec, State.lockedBy_event ⟨hu, rfl, rfl, rfl, rfl, rfl, rfl, rfl, rfl⟩ nofun rfl nofun⟩

theorem exec_pfwEdge_locks (hp : s.powered = true) (hu : s.unlocked) (hready : s.stc.ready = true)
    (hhigh : s.ppt.pfwLow = false) : ∃ t, exec .pfwEdge s = .next t ∧ s.LockedBy .pfwEdge t := by
  have hexec := exec_event (c := .pfwEdge) State.pfwEdge hp
  rw [State.pfwEdge, if_neg (by simp [hhigh]), State.activeEdge, if_pos (by exact hready)] at hexec
  obtain ⟨hlocked, hlast⟩ := State.lockEvent_lockedFrom (s := s) (P := False) (reason := .supply)
    (u := State.setFlag { s with ppt := { s.ppt with pfwLow := true } } .supply)
    ⟨hu, rfl, rfl, rfl, rfl, rfl, rfl, rfl, rfl⟩ nofun
  have hrecord := hlocked.recorded
  rw [show True = (Instr.pfwEdge = .pfwEdge) from (eq_self _).symm] at hrecord
  refine ⟨_, hexec, hrecord.settle, fun _ => ?_, nofun⟩
  obtain ⟨r, hoffer, -⟩ := State.offerGuard_eq
    ((State.setFlag { s with ppt := { s.ppt with pfwLow := true } } .supply).lockEvent .supply) (.bko
      { active := ((State.setFlag { s with ppt := { s.ppt with pfwLow := true } } .supply).lockEvent .supply).atg.exactRecord,
        pfwSeen := true }) none rfl
  rw [State.pfwEffects, State.pfwRecord, hoffer]
  exact hlast

theorem exec_detach_locks (hp : s.powered = true) (hopen : s.lkc.lockState = some .opened) (sent : Bool) :
    ∃ t, exec (.detach sent) s = .next t ∧ s.LockedBy (.detach sent) t := by
  have hexec := exec_frame (s := s) (sent := sent) (c := .detach sent) State.detachFrame hp
  obtain ⟨-, here, -, hlkc⟩ := s.readOut_marks sent
  have hsame := State.sameTables_readOut (s := s) (.inr hopen) sent
  rw [State.detachFrame, if_pos (by rw [← hopen, ← hlkc])] at hexec
  obtain ⟨hlocked, hlast⟩ := State.lockEvent_lockedFrom (s := s) (P := Instr.detach sent = .pfwEdge) (reason := .detach)
    (u := { (s.readOut sent).1 with mpt := { (s.readOut sent).1.mpt with attached := false } })
    ⟨hsame.unlocked, hsame.rgt, hsame.buffer, hsame.idnFault, hsame.stc, hsame.slots, hsame.counter, hsame.journal,
      hsame.fresh⟩ nofun
  refine ⟨_, hexec, (hlocked.detached.finish _).settle, fun hquiet => ?_, nofun⟩
  obtain ⟨m, e, hpause, hm, -, -, howed⟩ := State.pauseSweep_eq (State.markStale (State.lockEvent
    { (s.readOut sent).1 with mpt := { (s.readOut sent).1.mpt with attached := false } } .detach))
  refine State.finish_notesLast ?_ hlocked.detached.closed.1 ?_
  · rw [hpause]
    rcases hm with rfl | rfl
    · exact hlast
    · exact Mpt.withdraw_notesLast hlast
  · rw [hpause]
    refine howed ((congrArg Ere.sweepOwed (State.lockEvent_sweepOwed _ .detach)).trans ?_)
    exact (congrArg Ere.sweepOwed here).trans (hquiet.resolve_left nofun)

/-- The LOCK key's event, whatever command it comes by. -/
theorem State.lockedBy_key (hu : s.unlocked) (hc : c ≠ .lockRequest) (hmet : s.metBy c = s.cxm.entries) (k : Ksc) :
    s.LockedBy c ((s.setKsc k).keyEvent .lock).settleStandby := by
  obtain ⟨l, hl, he⟩ : ∃ l, s.lkc.lockState = some l ∧ l ≠ .erasing := by
    rcases hu with h | h <;> exact ⟨_, h, nofun⟩
  obtain ⟨e, p, hkey, -⟩ := State.keyEvent_lock (s := s.setKsc k) hl he
  rw [hkey]
  exact State.lockedBy_event ⟨hu, rfl, rfl, rfl, rfl, rfl, rfl, rfl, rfl⟩ nofun hmet hc

theorem exec_pairingTimerExpiry_locks (hp : s.powered = true) (hu : s.unlocked) (hchord : s.ksc.chord = .pairing)
    (hheld : s.ksc.held = some .lock) (hreached : s.ksc.pairingTimer.reached 20 = true) :
    ∃ t, exec .pairingTimerExpiry s = .next t ∧ s.LockedBy .pairingTimerExpiry t := by
  have hexec := exec_event (c := .pairingTimerExpiry) State.pairingExpiry hp
  rw [State.pairingExpiry_eq hchord hreached hheld] at hexec
  exact ⟨_, hexec, State.lockedBy_key (c := .pairingTimerExpiry) hu nofun rfl _⟩

/-- The release of a key within its pairing window is its event (R28). -/
theorem State.release_pairing {key : PadKey} (hchord : s.ksc.chord = .pairing) (hheld : s.ksc.held = some key)
    (hdown : s.ksc.isDown key = true) : s.release key =
      (s.setKsc { s.ksc.setDown key false with held := none, chord := .none, pairingTimer := .stopped }).keyEvent
        (eventOf key) := by
  have hpair : (s.ksc.setDown key false).chord = .pairing := hchord
  unfold State.release
  rw [if_neg (by simp [hdown])]
  dsimp only
  rw [hpair]
  exact if_pos hheld

theorem exec_lockKeyRelease_locks (hp : s.powered = true) (hu : s.unlocked) (hchord : s.ksc.chord = .pairing)
    (hheld : s.ksc.held = some .lock) (hdown : s.ksc.isDown .lock = true) :
    ∃ t, exec (.keyReleaseAccepted .lock) s = .next t ∧ s.LockedBy (.keyReleaseAccepted .lock) t := by
  have hexec := exec_event (c := .keyReleaseAccepted .lock) (fun s => s.release .lock) hp
  rw [State.release_pairing hchord hheld hdown] at hexec
  exact ⟨_, hexec, State.lockedBy_key (c := .keyReleaseAccepted .lock) hu nofun rfl _⟩

/-- Every command that is a lock event, in an unlocked drive (R4, R5). -/
theorem exec_locks (hp : s.powered = true) (hu : s.unlocked) (hc : s.locksBy c) :
    ∃ t, exec c s = .next t ∧ s.LockedBy c t := by
  rcases hc with ⟨sent, rfl⟩ | ⟨sent, rfl⟩ | ⟨rfl, hr⟩ | ⟨rfl, hidle, hreached⟩ | ⟨rfl, hreached⟩ | ⟨rfl, hready, hhigh⟩ |
    ⟨⟨sent, rfl⟩, hopen⟩ | ⟨rfl, hchord, hheld, hreached⟩ | ⟨rfl, hchord, hheld, hdown⟩
  · exact exec_hostlock_locks hp hu sent
  · exact exec_linkreset_locks hp hu sent
  · exact exec_lockRequest_locks hp hu hr
  · exact exec_idleTimerExpiry_locks hp hu hidle hreached
  · exact exec_attachWindowExpiry_locks hp hu hreached
  · exact exec_pfwEdge_locks hp hu hready hhigh
  · exact exec_detach_locks hp hopen sent
  · exact exec_pairingTimerExpiry_locks hp hu hchord hheld hreached
  · exact exec_lockKeyRelease_locks hp hu hchord hheld hdown

end

end Sys2Proof.Machine
end

section
/-! SUPPORT. What a lock event closes and installs, and lock events while the drive is closed (R4 to R9, R111). -/

namespace Sys2Proof.Machine

set_option Elab.async false

section
variable {s : State} {c : Instr}

theorem State.metBy_linkreset (h : ∃ sent, c = .linkreset sent) : s.metBy c = Vector.replicate 4 .empty := by
  obtain ⟨sent, rfl⟩ := h
  rfl

theorem getElem_empties (i : CtxIx) : (Vector.replicate 4 ContextEntry.empty)[i] = .empty := by
  fin_cases i <;> rfl

/-- The contexts met are those that stand but for their reply timers, where the command is no LINKRESET. -/
theorem State.metBy_heldRange (h : ∀ sent, c ≠ .linkreset sent) (i : CtxIx) :
    (s.metBy c)[i].heldRange = s.cxm.entries[i].heldRange := by
  have hread (sent : Bool) := (s.readOut_entries sent).1.heldRange i
  unfold State.metBy
  split
  · next sent => exact absurd rfl (h sent)
  · next sent => exact hread sent
  · next sent => exact hread sent
  · rfl

/-- The state that a lock event's contexts are told against: after a transaction without a frame where the command is a
frame, and else the state it is taken in. -/
theorem State.unframed (hp : s.powered = true) : ∃ m,
    (∀ sent, c = .hostlock sent ∨ c = .linkreset sent ∨ c = .detach sent → exec (.mediaTransaction sent) s = .next m) ∧
    ((∀ sent, c ≠ .hostlock sent ∧ c ≠ .linkreset sent ∧ c ≠ .detach sent) → m = s) ∧
    ((∀ sent, c ≠ .linkreset sent) → m.cxm.entries = s.metBy c) := by
  have hentries (sent : Bool) :
      ((s.readOut sent).1.finish (s.readOut sent).2).settleStandby.cxm.entries = (s.readOut sent).1.cxm.entries := by simp
  by_cases h : ∃ sent, c = .hostlock sent ∨ c = .linkreset sent ∨ c = .detach sent
  · obtain ⟨sent, rfl | rfl | rfl⟩ := h
    · exact ⟨_, by rintro _ (h | h | h) <;> cases h; exact exec_media hp, fun h => absurd rfl (h sent).1, fun _ => hentries sent⟩
    · exact ⟨_, by rintro _ (h | h | h) <;> cases h; exact exec_media hp, fun h => absurd rfl (h sent).2.1,
        fun h => absurd rfl (h sent)⟩
    · exact ⟨_, by rintro _ (h | h | h) <;> cases h; exact exec_media hp, fun h => absurd rfl (h sent).2.2, fun _ => hentries sent⟩
  · refine ⟨s, fun sent hc => absurd ⟨sent, hc⟩ h, fun _ => rfl, fun hno => ?_⟩
    clear hno
    unfold State.metBy
    split
    · next sent => exact absurd ⟨sent, .inr (.inl rfl)⟩ h
    · next sent => exact absurd ⟨sent, .inl rfl⟩ h
    · next sent => exact absurd ⟨sent, .inr (.inr rfl)⟩ h
    · rfl

theorem RangeRecord.publicKey_none {r : RangeRecord} (h : r = .unused ∨ r.isClosed = true ∨ s.lkc.idnFault = true) :
    s.publicKey r = none := by
  unfold State.publicKey
  split
  · next d id _ =>
    refine if_neg fun hpub => ?_
    rw [Bool.and_eq_true, decide_eq_true_eq, Bool.not_eq_true'] at hpub
    rcases h with h | h | h
    · cases h
    · simp [RangeRecord.isClosed, hpub.1] at h
    · exact absurd (h.symm.trans hpub.2) (by decide)
  · rfl

theorem RangeRecord.publicKey_unwraps {d : RangeDef} {w : Wrapped} {id : Identity} (hd : d.cls = .pub)
    (hw : d.wrapped = some w) (hfault : s.lkc.idnFault = false) (hid : s.stc.idn = some id) :
    s.publicKey (.defined d) = (unwrapKey w id.deviceKey).map (fun key => { key := key, cls := .pub }) := by
  unfold State.publicKey
  rw [hid]
  dsimp only
  rw [if_pos (by simp [hd, hfault]), hw, Option.bind_some]

end

/-- Settles O32: by what every lock event leaves. -/
theorem lockProcedureCloses : Obligations.LockProcedureCloses := by
  unfold Obligations.LockProcedureCloses
  intro s c hp hu hc
  obtain ⟨t, hexec, hl, -, -⟩ := exec_locks hp hu hc
  refine ⟨t, hexec, hl.closed, fun i r hi => ?_, hl.slots, hl.counter, hl.journal, hl.cells, hl.fresh⟩
  obtain ⟨-, hspared⟩ := hl.purged.held hi
  exact Bool.eq_false_iff.mpr fun hclosed => hspared (.inl hclosed)

/-- Settles O33: by what every lock event leaves, index by index and context by context. -/
theorem lockInstallsStaged : Obligations.LockInstallsStaged := by
  unfold Obligations.LockInstallsStaged
  intro s c hp hu hc
  obtain ⟨t, hexec, hl, hlast, hreply⟩ := exec_locks hp hu hc
  obtain ⟨m, hframe, hown, hmet⟩ := State.unframed (c := c) hp
  have haltered {k : RangeIx} (h : s.rgt.dirty = false ∨ s.rgt.staged[k] = s.rgt.live[k]) : k ∉ s.rgt.altered := fun hk => by
    obtain ⟨hd, hne⟩ := Rgt.mem_altered.mp hk
    exact h.elim (fun h => absurd (hd.symm.trans h) (by decide)) hne
  refine ⟨m, t, hexec, ?_, fun k => by rw [hl.rgt, Rgt.installed_live], by rw [hl.rgt, Rgt.installed_staged], hreply,
    hl.notes, hlast, hl.cells, fun e he hb => hl.owes e (fun k hk hc => haltered (he k hc) hk) hb, fun k hd hne => ?_,
    fun k hk => hl.others k (haltered hk), fun hlink i => ?_, fun hno => ⟨fun i k hheld => ⟨fun hdrop => ?_, fun hopen hkeep => ?_⟩,
    fun i hnone => ?_⟩⟩
  · split
    · next sent => exact hframe sent (.inl rfl)
    · next sent => exact hframe sent (.inr (.inl rfl))
    · next sent => exact hframe sent (.inr (.inr rfl))
    · next hhost hlink hdetach => exact hown fun sent => ⟨hhost sent, hlink sent, hdetach sent⟩
  · have hk : k ∈ s.rgt.altered := Rgt.mem_altered.mpr ⟨hd, hne⟩
    refine ⟨hl.owed k hk, fun hlaw e hw hcell => hl.waits hlaw k hk e hw hcell,
      fun d w id hdef hpub hwrap hfault hid => ?_, fun hnone => ?_⟩
    · rw [hl.altered k hk, hdef]
      exact RangeRecord.publicKey_unwraps hpub hwrap hfault hid
    · rw [hl.altered k hk]
      exact RangeRecord.publicKey_none hnone
  · have hempty := State.metBy_linkreset (s := s) hlink
    rw [hl.purged.empty (fun j => by rw [hempty, getElem_empties]; rfl) i, hempty, getElem_empties]
  · refine (hl.purged i).1 k ((State.metBy_heldRange hno i).trans hheld) (hdrop.imp_right fun ⟨hd, hne, hlose⟩ => ?_)
    exact ⟨Rgt.mem_altered.mpr ⟨hd, hne⟩, hlose.imp_right Ne.symm⟩
  · rw [hmet hno]
    refine (hl.purged i).2 fun r hr hdrop => ?_
    obtain rfl : k = r := Option.some.inj (hheld.symm.trans ((State.metBy_heldRange hno i).symm.trans hr))
    rcases hdrop with hclosed | ⟨hk, hlose⟩
    · exact absurd (hclosed.symm.trans hopen) (by decide)
    · obtain ⟨hd, hne⟩ := Rgt.mem_altered.mp hk
      rcases hkeep with h | h | ⟨hused, hsame⟩
      · exact absurd (hd.symm.trans h) (by decide)
      · exact hne h
      · exact hlose.elim hused fun h => h hsame.symm
  · rw [hmet hno]
    refine (hl.purged i).2 fun r hr => ?_
    rw [State.metBy_heldRange hno i, hnone] at hr
    cases hr

end Sys2Proof.Machine
end

section
/-! SUPPORT. Lock events while the drive is not unlocked (R5, R6). -/

namespace Sys2Proof.Machine

set_option Elab.async false

section
variable {s u v t : State} {reason : LockReason}

/-- A lock event while the drive is not unlocked acts on an unlock in progress alone, and only in LOCKED (R5, R6). -/
theorem State.lockEvent_notUnlocked (hu : ¬ u.unlocked) : ∃ e x, u.lockEvent reason = { u with enu := e, slt := x } ∧
    (u.lkc.lockState = some .locked →
      x = { u.slt with unwrap := u.slt.unwrap.map (fun w => { w with discard := true }) } ∧
      e = if reason = .key ∨ reason = .panel then u.enu.cancelled else u.enu) ∧
    (u.lkc.lockState ≠ some .locked → x = u.slt ∧ e = u.enu) := by
  by_cases hl : u.lkc.lockState = some .locked
  · rw [State.lockEvent_locked reason hl, State.lockedEvent_eq]
    exact ⟨_, _, rfl, fun _ => ⟨rfl, rfl⟩, fun h => absurd hl h⟩
  · rw [State.lockEvent_closed reason hu hl]
    exact ⟨_, _, rfl, fun h => absurd h hl, fun _ => ⟨rfl, rfl⟩⟩

/-- What a lock event leaves of LKC and of an unlock in progress where the drive is not unlocked; `cancels` says whether it
cancels a check (R6). -/
def State.lockMarks (s : State) (cancels : Bool) (t : State) : Prop :=
  t.lkc = s.lkc ∧
  (s.lkc.lockState = some .locked →
    t.slt = { s.slt with unwrap := s.slt.unwrap.map (fun u => { u with discard := true }) } ∧
    (s.enu.state = .checking → t.enu.state = .checking ∧ t.enu.cancel = (s.enu.cancel || cancels))) ∧
  (s.lkc.lockState ≠ some .locked → t.slt = s.slt)

theorem Enu.cancelled_checking {e : Enu} (h : e.state = .checking) : e.cancelled.state = .checking ∧ e.cancelled.cancel = true := by
  rw [Enu.cancelled, if_pos h]
  exact ⟨h, rfl⟩

/-- A lock event by a command that changes nothing of LKC, SLT and a check beside it. -/
theorem State.lockMarks_lockEvent {cancels : Bool} (hu : ¬ u.unlocked) (hlkc : u.lkc = s.lkc) (hslt : u.slt = s.slt)
    (henu : s.enu.state = .checking → u.enu.state = .checking ∧ u.enu.cancel = s.enu.cancel)
    (hc : cancels = decide (reason = .key ∨ reason = .panel)) : s.lockMarks cancels (u.lockEvent reason) := by
  obtain ⟨e, x, hlock, hlocked, hother⟩ := State.lockEvent_notUnlocked (reason := reason) hu
  rw [hlkc, hslt] at hlocked hother
  rw [hlock]
  refine ⟨hlkc, fun hl => ?_, fun hl => (hother hl).1⟩
  obtain ⟨hx, he⟩ := hlocked hl
  refine ⟨hx, fun hs => ?_⟩
  obtain ⟨hstate, hcancel⟩ := henu hs
  obtain ⟨hcstate, hcmark⟩ := Enu.cancelled_checking hstate
  rw [he, hc]
  split
  · next hr => simp [hcstate, hcmark, hr]
  · next hr => simp [hstate, hcancel, hr]

theorem State.lockMarks.congr {cancels : Bool} (h : s.lockMarks cancels v) (hlkc : t.lkc = v.lkc) (hslt : t.slt = v.slt)
    (henu : v.enu.sameEntry t.enu) : s.lockMarks cancels t := by
  obtain ⟨h1, h2, h3⟩ := h
  have hentry : { t.enu with standbyTimer := v.enu.standbyTimer } = v.enu := henu
  have hstate : t.enu.state = v.enu.state := by rw [← hentry]
  have hcancel : t.enu.cancel = v.enu.cancel := by rw [← hentry]
  unfold State.lockMarks
  rw [hlkc, hslt, hstate, hcancel]
  exact ⟨h1, h2, h3⟩

theorem State.lockMarks.settle {cancels : Bool} (h : s.lockMarks cancels v) : s.lockMarks cancels v.settleStandby :=
  h.congr rfl rfl rfl

theorem State.lockMarks.finish {cancels : Bool} (h : s.lockMarks cancels v) (read : Bool) :
    s.lockMarks cancels (v.finish read) := h.congr State.finish_lkc State.finish_slt (by rw [State.finish_enu]; rfl)

end

/-- Settles O34: each of the five lock events, where the drive is not unlocked. -/
theorem lockEventsWhileClosed : Obligations.LockEventsWhileClosed := by
  unfold Obligations.LockEventsWhileClosed
  intro s hp hu
  refine ⟨fun sent => ?_, fun c cancels hc => ?_⟩
  · obtain ⟨-, -, -, hlkc⟩ := s.readOut_marks sent
    have hmedia := exec_media (sent := sent) hp
    have hexec := exec_frame (s := s) (sent := sent) (c := .hostlock sent) (fun s => s.lockEvent .host) hp
    have hu' : ¬ (s.readOut sent).1.unlocked := by
      unfold State.unlocked
      rw [hlkc]
      exact hu
    generalize (s.readOut sent).1 = u at *
    obtain ⟨e, x, hlock, hlocked, hother⟩ := State.lockEvent_notUnlocked (reason := .host) hu'
    rw [hlkc] at hlocked hother
    rw [hlock] at hexec
    refine ⟨_, _, hmedia, hexec, fun hl => ?_, fun hl => ?_⟩
    · obtain ⟨hx, he⟩ := hlocked hl
      rw [if_neg (by decide)] at he
      exact ⟨State.finish_sameExcept_inner (by simp [State.sameExcept_iff, he, Enu.sameEntry]) (by simp) (by simp) (by simp),
        by simp [hx]⟩
    · obtain ⟨hx, he⟩ := hother hl
      rw [hx, he]
  · change ∃ t, exec c s = .next t ∧ s.lockMarks cancels t
    rcases hc with ⟨rfl, rfl, hr⟩ | ⟨rfl, rfl, hchord, hheld, hreached⟩ | ⟨rfl, rfl, hready, hhigh⟩ | ⟨rfl, sent, rfl⟩
    · obtain ⟨e, k, htaken, he⟩ := s.requestTaken_eq
      by_cases hgate : s.lkc.lockState = none ∨ s.lkc.lockState = some .erasing
      · have hexec := exec_event (c := .lockRequest) (fun s => s.panelRequest .openOther true (resultReply 0x04)
          (fun s => (s.setReply (resultReply 0x04 .accepted)).lockEvent .panel)) hp
        have hbusy : s.gate .openOther true = some .busy := by
          unfold State.gate
          rcases hgate with h | h <;> simp [hr, h]
        rw [State.panelRequest_refused _ _ ((s.gate_requestTaken _ _).trans hbusy) nofun, htaken] at hexec
        have hnot : s.lkc.lockState ≠ some .locked := fun hl => by
          rcases hgate with h | h <;> cases hl.symm.trans h
        exact ⟨_, hexec, rfl, fun hl => absurd hl hnot, fun _ => rfl⟩
      · obtain ⟨hsome, herasing⟩ := not_or.mp hgate
        have hadmits : s.admits .openOther := by
          unfold State.admits State.gate
          simp [hr, hsome, herasing]
        have hexec := exec_request (c := .lockRequest) (resultReply 0x04)
          (fun s => (s.setReply (resultReply 0x04 .accepted)).lockEvent .panel) hp hadmits
        rw [htaken] at hexec
        refine ⟨_, hexec, State.lockMarks.settle (State.lockMarks_lockEvent (by exact hu) rfl rfl (fun hs => ?_) rfl)⟩
        rw [he]
        exact ⟨hs, rfl⟩
    · have hexec := exec_event (c := .pairingTimerExpiry) State.pairingExpiry hp
      rw [State.pairingExpiry_eq hchord hreached hheld] at hexec
      by_cases hpresent : s.lkc.lockState = none ∨ s.lkc.lockState = some .erasing
      · rw [State.keyEvent_absent _ (by exact hpresent)] at hexec
        have hnot : s.lkc.lockState ≠ some .locked := fun hl => by
          rcases hpresent with h | h <;> cases hl.symm.trans h
        exact ⟨_, hexec, rfl, fun hl => absurd hl hnot, fun _ => rfl⟩
      · obtain ⟨hsome, herasing⟩ := not_or.mp hpresent
        obtain ⟨l, hl⟩ := Option.ne_none_iff_exists'.mp hsome
        obtain ⟨e, p, hkey, hkept⟩ := State.keyEvent_lock
          (s := s.setKsc { s.ksc with chord := .none, pairingTimer := .stopped }) hl fun he => herasing (he ▸ hl)
        rw [eventOf, hkey] at hexec
        refine ⟨_, hexec, State.lockMarks.settle (State.lockMarks_lockEvent (by exact hu) rfl rfl (fun hs => ?_) rfl)⟩
        obtain ⟨-, he⟩ := hkept fun h => nomatch hs.symm.trans h
        rw [he]
        exact ⟨hs, rfl⟩
    · have hexec := exec_event (c := .pfwEdge) State.pfwEdge hp
      rw [State.pfwEdge, if_neg (by simp [hhigh]), State.activeEdge, if_pos (by exact hready)] at hexec
      obtain ⟨r, heffects, -⟩ := State.pfwEffects_offers { s with ppt := { s.ppt with pfwLow := true } }
      rw [heffects] at hexec
      have hmarks := State.lockMarks_lockEvent (s := s) (reason := .supply) (cancels := false)
        (u := State.setFlag { s with ppt := { s.ppt with pfwLow := true } } .supply) hu rfl rfl (fun hs => ⟨hs, rfl⟩) rfl
      exact ⟨_, hexec, hmarks.congr rfl rfl rfl⟩
    · obtain ⟨o, es, hread, -⟩ := s.readOut_eq sent
      obtain ⟨x, hclear, -⟩ := (s.readOut sent).1.linkCleared_eq
      have hexec := exec_frame (s := s) (sent := sent) (c := .linkreset sent) State.linkResetFrame hp
      rw [State.linkResetFrame_eq, hclear] at hexec
      have hlike : (s.readOut sent).1.lkc = s.lkc ∧ (s.readOut sent).1.slt = s.slt ∧ (s.readOut sent).1.enu = s.enu := by
        rw [hread]
        exact ⟨rfl, rfl, rfl⟩
      obtain ⟨hlkc, hslt, henu⟩ := hlike
      generalize (s.readOut sent).1 = u at *
      have hu' : ¬ u.unlocked := by
        unfold State.unlocked
        rw [hlkc]
        exact hu
      refine ⟨_, hexec, State.lockMarks.settle (State.lockMarks.finish
        (State.lockMarks_lockEvent (by exact hu') (by exact hlkc) (by exact hslt) (fun hs => ?_) rfl) _)⟩
      change u.enu.state = .checking ∧ u.enu.cancel = s.enu.cancel
      rw [henu]
      exact ⟨hs, rfl⟩

end Sys2Proof.Machine
end

section
/-! SUPPORT. ATTACH, DETACH and LINKRESET (R9, R13, R14, R15, R139, R153, R179, R180). -/

namespace Sys2Proof.Machine

set_option Elab.async false

section
variable {s u : State} {read : Bool}

/-! ### The port -/

theorem State.pauseSweep_port (s : State) : s.pauseSweep.mpt.attached = s.mpt.attached ∧
    s.pauseSweep.mpt.capacity = s.mpt.capacity := by
  unfold State.pauseSweep
  split <;> exact ⟨rfl, rfl⟩

theorem State.detachFrame_port (s : State) : s.detachFrame.mpt.attached = false ∧
    s.detachFrame.mpt.capacity = s.mpt.capacity := by
  unfold State.detachFrame
  dsimp only
  obtain ⟨ha, hc⟩ := State.pauseSweep_port (State.markStale (if s.lkc.lockState = some .opened then
    State.lockEvent { s with mpt := { s.mpt with attached := false } } .detach
    else { s with mpt := { s.mpt with attached := false } }))
  rw [ha, hc]
  split
  · obtain ⟨e, t, l, g, c, d, q, m, p, hlock, -, -, ha, hc, -⟩ :=
      State.lockEvent_frame (s := { s with mpt := { s.mpt with attached := false } }) .detach
    rw [hlock]
    exact ⟨ha, hc⟩
  · exact ⟨rfl, rfl⟩

theorem State.leavePaused_port (s : State) : s.leavePaused.mpt.attached = s.mpt.attached ∧
    s.leavePaused.mpt.capacity = s.mpt.capacity ∧ ∀ l, s.mpt.notes l → s.leavePaused.mpt.notes l := by
  unfold State.leavePaused
  split
  · next cursor sweepEnd _ _ =>
    obtain ⟨owed, hgive, -⟩ := s.giveOrder_eq cursor sweepEnd
    rw [hgive]
    obtain ⟨ha, hc, -⟩ := Mpt.offerOrder_frame s.mpt (.sweep cursor (chunkAt cursor sweepEnd).count)
    exact ⟨ha, hc, fun l hl => Mpt.offerOrder_notes rfl hl⟩
  · dsimp only
    split
    · obtain ⟨q, hfinish, -⟩ := s.eraseFinish_offers none false
      rw [hfinish]
      exact ⟨rfl, rfl, fun _ => id⟩
    · obtain ⟨q, hput, -⟩ := State.putJournal_eq { s with ere := { s.ere with sweepState := some .recording } }
        { phase := .sweep, next := none, cursor := some 0, sweepEnd := some (sweepEndOf (s.mpt.capacity.getD 0)),
          incomplete := false }
      rw [hput]
      exact ⟨rfl, rfl, fun _ => id⟩

/-- An ATTACH at the sweep changes the engine, the store and the port's queue alone. -/
theorem State.resumeSweep_frame (s : State) : ∃ d q m, s.resumeSweep = { s with ere := d, stc := q, mpt := m } ∧
    m.attached = s.mpt.attached ∧ m.capacity = s.mpt.capacity ∧ ∀ l, s.mpt.notes l → m.notes l := by
  unfold State.resumeSweep
  split
  · obtain ⟨d, q, m, hframe⟩ := s.leavePaused_frame
    obtain ⟨ha, hc, hn⟩ := s.leavePaused_port
    rw [hframe] at ha hc hn ⊢
    exact ⟨d, q, m, rfl, ha, hc, hn⟩
  · exact ⟨_, _, _, rfl, rfl, rfl, fun _ => id⟩

/-! ### The end of a transaction without an order -/

theorem State.finish_outbound_of_noOrder (h : s.ere.order = none) {f : OutFrame} (hf : f ∈ (s.finish read).mpt.outbound) :
    f ∈ s.mpt.outbound ∨ f.isState = true := by
  have hbase : (if read then s.reofferSweep else s) = s := by
    split
    · unfold State.reofferSweep
      rw [h]
    · rfl
  unfold State.finish at hf
  rw [hbase] at hf
  unfold State.placePending at hf
  split at hf
  · split at hf
    · rcases List.mem_append.mp hf with hf | hf
      · exact .inl hf
      · rw [List.mem_singleton.mp hf]
        exact .inr rfl
    · exact .inl hf
  · exact .inl hf

/-! ### A pause -/

theorem State.pauseSweep_ordered (hp : s.ere.journal.phase = .sweep) (hs : s.ere.sweepState = some .ordered) :
    s.pauseSweep = { s with mpt := s.mpt.withdraw OutFrame.isSweep, ere := { s.ere with
      order := none, retry := 0, sweepState := some .paused, sweepOwed := false } } := if_pos (by simp [hp, hs])

theorem State.pauseSweep_other (h : s.ere.sweepState ≠ some .ordered) : s.pauseSweep = s := if_neg (by simp [h])

theorem Mpt.withdraw_isSweep {m : Mpt} {f : OutFrame} (h : f ∈ (m.withdraw OutFrame.isSweep).outbound) : f.isSweep = false := by
  obtain ⟨-, h⟩ := List.mem_filter.mp h
  simpa using h

end

/-- A DETACH outside OPEN: the flag, the parked entries, and an ordered sweep (R14, R139, R153). -/
theorem State.detachFrame_closed {s : State} (h : s.lkc.lockState ≠ some .opened) : s.detachFrame =
    State.pauseSweep { s with mpt := { s.mpt with attached := false }, dqq := s.dqq.map Parked.staled } := by
  unfold State.detachFrame
  dsimp only
  rw [if_neg (by exact h), State.markStale_eq]

theorem Parked.staled_eq (p : Parked) (d : Decision) (stale : Bool) (e : Nat) (h : p.state = .ready d stale e) :
    p.staled = { p with state := .ready d true e } := by
  unfold Parked.staled
  rw [h]

theorem Parked.staled_waiting (p : Parked) (h : p.state = .waiting) : p.staled = p := by
  unfold Parked.staled
  rw [h]

theorem Parked.staled_query (p : Parked) : p.staled.query = p.query := by
  unfold Parked.staled
  split <;> rfl

/-- A parked entry made stale is stale where it is READY (R139). -/
theorem Parked.staled_stale {p : Parked} {d : Decision} {stale : Bool} {e : Nat} (h : p.staled.state = .ready d stale e) :
    stale = true := by
  unfold Parked.staled at h
  split at h
  · cases h
    rfl
  · next hw => cases hw.symm.trans h

/-- Settles O25: the DETACH in OPEN and outside it, and the ATTACH. -/
theorem attachEffects : Obligations.AttachEffects := by
  unfold Obligations.AttachEffects
  intro s sent capacity hp
  obtain ⟨o, es, hread, hloads, -⟩ := s.readOut_eq sent
  have hdetach := exec_frame (s := s) (sent := sent) (c := .detach sent) State.detachFrame hp
  obtain ⟨hattached, hcapacity⟩ := (s.readOut sent).1.detachFrame_port
  have hcap : (s.readOut sent).1.mpt.capacity = s.mpt.capacity := by rw [hread]
  refine ⟨fun hopen => ?_, fun hopen => ?_, ?_⟩
  · obtain ⟨t, hexec, hl, -, -⟩ := exec_detach_locks hp hopen sent
    obtain rfl := Host.Outcome.next.inj (hexec.symm.trans hdetach)
    exact ⟨_, hexec, hl.closed, by simpa using hattached, by simpa using hcapacity.trans hcap⟩
  · rw [State.detachFrame_closed (by rw [hread]; exact hopen), hread] at hdetach
    have hstale : s.dqq.map Parked.staled = s.dqq.map (fun p => match p.state with
        | .ready d _ e => { p with state := .ready d true e }
        | .waiting => p) := List.map_congr_left fun p _ => by
      cases hs : p.state with
      | waiting => exact p.staled_waiting hs
      | ready d stale e => exact p.staled_eq d stale e hs
    have hheld : es.map ContextEntry.heldRange = s.cxm.entries.map ContextEntry.heldRange :=
      Vector.ext fun i hi => by
        rw [Vector.getElem_map, Vector.getElem_map]
        exact hloads.heldRange ⟨i, hi⟩
    obtain ⟨m, e, hpause, hm, hj, ha, -⟩ := State.pauseSweep_eq { s with
      mpt := { s.mpt with transaction := none, outbound := o, attached := false }, cxm := { s.cxm with entries := es },
      dqq := s.dqq.map Parked.staled }
    obtain ⟨hattached, hcapacity⟩ := State.pauseSweep_port { s with
      mpt := { s.mpt with transaction := none, outbound := o, attached := false }, cxm := { s.cxm with entries := es },
      dqq := s.dqq.map Parked.staled }
    refine ⟨_, hdetach, State.sameExcept.settled ?_, by simpa using hattached, by simpa using hcapacity, ?_, ?_, ?_, ?_,
      fun hphase hordered => ?_, fun hother => ?_⟩
    · rw [hpause]
      simp [State.sameExcept_iff]
    · rw [State.settleStandby_cxm, State.finish_cxm, hpause]
      exact hheld
    · rw [State.settleStandby_dqq, State.finish_dqq, hpause]
      exact hstale
    · rw [State.settleStandby_ere, State.finish_journal, hpause]
      exact hj
    · rw [State.settleStandby_ere, State.finish_awaited, hpause]
      exact ha
    · rw [State.pauseSweep_ordered (by exact hphase) (by exact hordered)]
      refine ⟨by simp, by simp, fun f hf => ?_⟩
      rcases State.finish_outbound_of_noOrder rfl hf with h | h
      · exact Mpt.withdraw_isSweep h
      · cases f <;> first | rfl | cases h
    · rw [State.pauseSweep_other (by exact hother)]
      simp
  · have hattach := exec_frame (s := s) (sent := sent) (c := .attach sent capacity) (fun s => s.attachFrame capacity) hp
    obtain ⟨k, o', p, htaken, hnotes⟩ := (s.readOut sent).1.attachTaken_eq capacity
    rw [State.attachFrame_eq, htaken, hread] at hattach
    rw [hread] at hnotes
    obtain ⟨d, q, m, hresume, hattached, hcapacity, hkept⟩ := State.resumeSweep_frame { s with
      ksc := k, enu := { s.enu with standby := false }, lkc := s.lkc.attached s.stc.cfg.idle
      cxm := { s.cxm with entries := es }, dqq := s.dqq.map Parked.staled
      mpt := { s.mpt with
        transaction := none, attached := true, capacity := some capacity, outbound := o', statePending := p } }
    rw [hresume] at hattach
    refine ⟨_, hattach, by simpa using hattached, by simpa using hcapacity, by simp [Lkc.attached], fun hl => ?_, by simp,
      by rw [State.finish_eq]; rfl, by simp, ?_, by simp, ?_, ?_⟩
    · rw [State.settleStandby_mpt]
      refine State.finish_notes (l := .opened) (hkept .opened ?_) ?_
      · exact (hnotes hl).imp_left List.mem_of_mem_getLast?
      · dsimp only
        rw [Lkc.attached, if_pos hl]
    · rw [State.settleStandby, State.finish_enu]
    · rw [State.settleStandby_dqq, State.finish_dqq, List.map_map]
      exact List.map_congr_left fun p _ => p.staled_query
    · intro p hp d stale e hready
      rw [State.settleStandby_dqq, State.finish_dqq] at hp
      obtain ⟨p', -, rfl⟩ := List.mem_map.mp hp
      exact Parked.staled_stale hready

end Sys2Proof.Machine
end

section
/-! SUPPORT. LINKRESET, and the SWEPT frame (R15, R136, R151 to R154, R158, R180). -/

namespace Sys2Proof.Machine

set_option Elab.async false

/-- The port after a LINKRESET's lock event: the one notice of LOCKED of a drive that was unlocked, or none (R9, R180). -/
theorem State.linkReset_outbound {u : State} (h : ∀ i : CtxIx, u.cxm.entries[i].heldRange = none) (hout : u.mpt.outbound = [])
    (hpending : u.mpt.statePending = false) :
    (u.unlocked → (u.lockEvent .link).mpt.outbound = [.state .locked]) ∧
    (¬ u.unlocked → (u.lockEvent .link).mpt.outbound = []) ∧ (u.lockEvent .link).mpt.statePending = false ∧
    (u.lockEvent .link).cxm = u.cxm := by
  by_cases hu : u.unlocked
  · obtain ⟨b, c, m, q, hlock, hl⟩ := u.lockProcedure_full (reason := .link) nofun
    obtain ⟨rfl, rfl⟩ := hl.idle h
    rw [State.lockEvent_unlocked .link hu, hlock]
    have hoffer : (u.mpt.offerOrder (.state .locked)).1 = u.mpt.appendOrder (.state .locked) := by
      unfold Mpt.offerOrder
      rw [if_pos (by rw [hout]; decide)]
    refine ⟨fun _ => ?_, fun h => absurd hu h, ?_, rfl⟩
    · dsimp only
      rw [hoffer, Mpt.appendOrder, hout]
      rfl
    · dsimp only
      rw [hoffer]
      rfl
  · obtain ⟨e, x, hlock, -⟩ := State.lockEvent_notUnlocked (reason := .link) hu
    rw [hlock]
    exact ⟨fun h => absurd h hu, fun _ => hout, hpending, rfl⟩

/-- Settles O26: the steps before the lock event, and the lock event. -/
theorem linkResetEffects : Obligations.LinkResetEffects := by
  unfold Obligations.LinkResetEffects
  intro s sent hp
  obtain ⟨o, es, hread, -⟩ := s.readOut_eq sent
  have hexec := exec_frame (s := s) (sent := sent) (c := .linkreset sent) State.linkResetFrame hp
  obtain ⟨x, hclear, hj, ha, hr, -, hordered, hother⟩ := (s.readOut sent).1.linkCleared_eq
  rw [State.linkResetFrame_eq, hclear, hread] at hexec
  rw [hread] at hj ha hordered hother
  dsimp only at hexec hj ha hordered hother
  obtain ⟨u, hu⟩ : ∃ u : State, u = { s with
      mpt := { s.mpt with transaction := none, outbound := [], statePending := false, attached := false }
      cxm := { s.cxm with entries := (Vector.replicate 4 .empty) }, dqq := [], ere := x } := ⟨_, rfl⟩
  rw [← hu] at hexec
  have hempty (i : CtxIx) : u.cxm.entries[i].heldRange = none := by
    rw [hu, getElem_empties]
    rfl
  obtain ⟨hlocked, hclosed, hpending, hcxm⟩ := State.linkReset_outbound hempty (by rw [hu]) (by rw [hu])
  obtain ⟨e, t, l, g, c, d, q, m, p, hlock, hcells, -, hattached, hcapacity, -⟩ := State.lockEvent_frame (s := u) .link
  have here : (u.lockEvent .link).ere = x := by rw [hlock, hu]
  have hdqq : (u.lockEvent .link).dqq = [] := by
    by_cases hul : u.unlocked
    · obtain ⟨b, c, m, q, hlock, -⟩ := u.lockProcedure_full (reason := .link) nofun
      rw [State.lockEvent_unlocked .link hul, hlock]
    · obtain ⟨e, x, hlock, -⟩ := State.lockEvent_notUnlocked (reason := .link) hul
      rw [hlock, hu]
  have hcxm' : (u.lockEvent .link).cxm = { s.cxm with entries := (Vector.replicate 4 .empty) } :=
    hcxm.trans (by rw [hu])
  have hport : m.attached = false ∧ m.capacity = s.mpt.capacity ∧ q.cells = s.stc.cells :=
    ⟨hattached.trans (by rw [hu]), hcapacity.trans (by rw [hu]), hcells.trans (by rw [hu])⟩
  refine ⟨_, hexec, by simpa using hdqq, ?_, ?_, ?_, ?_, ?_, ?_, ?_, ?_, ?_, fun hphase hstate => ?_, fun hno => ?_,
    fun hul => ?_, fun hquiet => ?_⟩
  · simp [hcxm']
  · simp [hcxm']
  · simp [hcxm']
  · simp [hlock, hport]
  · simp [hlock, hport]
  · simp [here, hr]
  · simp [here, hj]
  · simp [here, ha]
  · simp [hlock, hport]
  · simpa [here] using hordered hphase hstate
  · simpa [here] using hother hno
  · obtain ⟨e, y, hlock, -⟩ := State.lockEvent_notUnlocked (u := u) (reason := .link) (by rw [hu]; exact hul)
    rw [hlock, hu]
    simp
  · have horder : x.order = none := by
      by_cases hpause : s.ere.journal.phase = .sweep ∧ s.ere.sweepState = some .ordered
      · exact (hordered hpause.1 hpause.2).1
      · exact (hother hpause).1.trans (hquiet.resolve_right hpause)
    rw [State.finish_quiet (.inl hpending) (.inr (.inl (by rw [here]; exact horder)))]
    rw [hu] at hlocked hclosed ⊢
    exact ⟨hclosed, hlocked⟩

end Sys2Proof.Machine
end

section
/-! SUPPORT. The SWEPT frame (R151, R152, R154). -/

namespace Sys2Proof.Machine

set_option Elab.async false

section
variable {s : State} {start cursor sweepEnd : Lba} {count : Nat}

/-- A SWEPT for the order that stands (R151, R152). -/
structure State.Awaits (s : State) (start : Lba) (count : Nat) (cursor sweepEnd : Lba) : Prop where
  phase : s.ere.journal.phase = .sweep
  state : s.ere.sweepState = some .ordered
  order : s.ere.order = some { start := start, count := count }
  cursor : s.ere.journal.cursor = some cursor
  sweepEnd : s.ere.journal.sweepEnd = some sweepEnd

/-- The order taken back. -/
def State.orderDone (s : State) : State := { s with ere := { s.ere with order := none, sweepOwed := false } }

theorem State.sweptTaken_awaited (h : s.Awaits start count cursor sweepEnd) (ok : Bool) : s.sweptTaken start count ok =
    if ok then
      if start.toNat + count = sweepEnd.toNat + 1 then s.orderDone.eraseFinish none false
      else State.putJournal { s.orderDone with ere := { s.orderDone.ere with sweepState := some .recording } }
        { phase := .sweep, next := none, cursor := some (cursor + BitVec.ofNat 32 count), sweepEnd := some sweepEnd,
          incomplete := false }
    else if s.ere.retry < 3 then
      State.sendSweep { s with ere := { s.ere with retry := s.ere.retry + 1 } } { start := start, count := count }
    else s.eraseFinish (some cursor) true := by
  obtain ⟨hphase, hstate, horder, hcursor, hend⟩ := h
  unfold State.sweptTaken
  rw [horder, hcursor, hend]
  exact if_pos (by simp [hphase, hstate])

theorem State.sweptTaken_ignored (ok : Bool) (h : s.ere.journal.phase ≠ .sweep ∨ s.ere.sweepState ≠ some .ordered ∨
    ∀ o, s.ere.order = some o → o.start ≠ start ∨ o.count ≠ count) : s.sweptTaken start count ok = s := by
  unfold State.sweptTaken
  split
  · next o _ _ ho _ _ =>
    refine if_neg fun hall => ?_
    simp only [Bool.and_eq_true, decide_eq_true_eq] at hall
    obtain ⟨⟨⟨hphase, hstate⟩, hstart⟩, hcount⟩ := hall
    rcases h with h | h | h
    · exact h hphase
    · exact h hstate
    · exact (h o ho).elim (absurd hstart) (absurd hcount)
  · rfl

theorem State.sendSweep_room (o : SweepOrder) (h : s.mpt.outbound.length < 8) : s.sendSweep o =
    { s with mpt := { s.mpt with outbound := s.mpt.outbound ++ [.sweep o.start o.count] },
             ere := { s.ere with sweepOwed := false } } := by
  unfold State.sendSweep State.sendOrder
  rw [Mpt.offerOrder_room h rfl]
  rfl

theorem State.sendSweep_full (o : SweepOrder) (h : ¬ takesOrder s.mpt.outbound) : s.sendSweep o =
    { s with ere := { s.ere with sweepOwed := true } } := by
  unfold State.sendSweep State.sendOrder
  rw [Mpt.offerOrder_full h rfl]
  rfl

theorem State.sendSweep_eq (s : State) (o : SweepOrder) : ∃ owed, s.sendSweep o = { s with
    mpt := (s.mpt.offerOrder (.sweep o.start o.count)).1, ere := { s.ere with sweepOwed := owed } } := ⟨_, rfl⟩

/-- What a SWEPT taken can change. -/
theorem State.sweptTaken_frame (h : s.Awaits start count cursor sweepEnd) (ok : Bool) :
    ∃ d q m, s.sweptTaken start count ok = { s with ere := d, stc := q, mpt := m } := by
  rw [State.sweptTaken_awaited h]
  split
  · split
    · obtain ⟨q, hfinish, -⟩ := s.orderDone.eraseFinish_offers none false
      exact ⟨_, q, _, hfinish⟩
    · obtain ⟨q, hput, -⟩ := State.putJournal_eq { s.orderDone with ere := { s.orderDone.ere with sweepState := some .recording } }
        { phase := .sweep, next := none, cursor := some (cursor + BitVec.ofNat 32 count), sweepEnd := some sweepEnd,
          incomplete := false }
      exact ⟨_, q, _, hput⟩
  · split
    · exact ⟨_, _, _, rfl⟩
    · obtain ⟨q, hfinish, -⟩ := s.eraseFinish_offers (some cursor) true
      exact ⟨_, q, _, hfinish⟩

/-- A SWEPT OK records the next cursor, or at the sweep end the IDLE record (R151, R154). -/
theorem State.sweptTaken_ok (h : s.Awaits start count cursor sweepEnd) :
    (s.sweptTaken start count true).ere.order = none ∧ (s.sweptTaken start count true).ere.awaited = some .ejr ∧
    (s.sweptTaken start count true).ere.journal = (if start.toNat + count = sweepEnd.toNat + 1 then
        { phase := .idle, next := none, cursor := none, sweepEnd := none, incomplete := false }
      else { phase := .sweep, next := none, cursor := some (cursor + BitVec.ofNat 32 count), sweepEnd := some sweepEnd,
             incomplete := false }) ∧
    (start.toNat + count ≠ sweepEnd.toNat + 1 → (s.sweptTaken start count true).ere.sweepState = some .recording) ∧
    (s.stc.lawful → (s.sweptTaken start count true).journalSent) := by
  rw [State.sweptTaken_awaited h, if_pos rfl]
  split
  · next hend =>
    obtain ⟨q, hfinish, -⟩ := s.orderDone.eraseFinish_offers none false
    exact ⟨by rw [hfinish], by rw [hfinish], by rw [hfinish], fun hne => absurd hend hne,
      fun hl => State.putJournal_sent _ _ hl⟩
  · obtain ⟨q, hput, -⟩ := State.putJournal_eq { s.orderDone with ere := { s.orderDone.ere with sweepState := some .recording } }
      { phase := .sweep, next := none, cursor := some (cursor + BitVec.ofNat 32 count), sweepEnd := some sweepEnd,
        incomplete := false }
    exact ⟨by rw [hput]; rfl, by rw [hput], by rw [hput], fun _ => by rw [hput], fun hl => State.putJournal_sent _ _ hl⟩

/-- A SWEPT FAIL at the third order ends the sweep incomplete (R154). -/
theorem State.sweptTaken_gives_up (h : s.Awaits start count cursor sweepEnd) (hr : 3 ≤ s.ere.retry) :
    (s.sweptTaken start count false).ere.order = none ∧ (s.sweptTaken start count false).ere.awaited = some .ejr ∧
    (s.sweptTaken start count false).ere.journal =
      { phase := .idle, next := none, cursor := some cursor, sweepEnd := none, incomplete := true } ∧
    (s.stc.lawful → (s.sweptTaken start count false).journalSent) := by
  rw [State.sweptTaken_awaited h, if_neg Bool.false_ne_true, if_neg (Nat.not_lt.mpr hr)]
  obtain ⟨q, hfinish, -⟩ := s.eraseFinish_offers (some cursor) true
  exact ⟨by rw [hfinish], by rw [hfinish], by rw [hfinish], fun hl => State.putJournal_sent _ _ hl⟩

/-- An owed SWEEP that the queue still does not take stays owed (R152). -/
theorem State.finish_owed {read : Bool} (h : ¬ takesOrder s.mpt.outbound) (hs : s.mpt.statePending = false)
    (howed : s.ere.sweepOwed = true) : s.finish read = s := by
  have hbase : (if read then s.reofferSweep else s) = s := by
    split
    · unfold State.reofferSweep
      split
      · rw [if_pos howed, State.sendSweep_full _ h, ← howed]
      · rfl
    · rfl
  unfold State.finish State.placePending
  rw [hbase]
  split
  · exact if_neg (by simp [hs])
  · rfl

theorem State.finish_sendSweep_room {o : SweepOrder} {read : Bool} (h : s.mpt.outbound.length < 8)
    (hs : s.mpt.statePending = false) : (s.sendSweep o).finish read =
      { s with mpt := { s.mpt with outbound := s.mpt.outbound ++ [.sweep o.start o.count] },
               ere := { s.ere with sweepOwed := false } } := by
  rw [State.sendSweep_room o h]
  exact State.finish_quiet (.inl hs) (.inl rfl)

theorem State.finish_sendSweep_full {o : SweepOrder} {read : Bool} (h : ¬ takesOrder s.mpt.outbound)
    (hs : s.mpt.statePending = false) : (s.sendSweep o).finish read = { s with ere := { s.ere with sweepOwed := true } } := by
  rw [State.sendSweep_full o h]
  exact State.finish_owed h hs rfl

end

/-- Settles O31: the SWEPT that the order waits for, and every other. -/
theorem sweptEffects : Obligations.SweptEffects := by
  unfold Obligations.SweptEffects
  refine ⟨fun s sent start count cursor sweepEnd hp hphase hstate horder hcursor hend => ?_,
    fun s sent start count ok hp h => ?_⟩
  · obtain ⟨hpending, here, -⟩ := s.readOut_marks sent
    have hstc : (s.readOut sent).1.stc = s.stc := by
      obtain ⟨o, es, hread, -⟩ := s.readOut_eq sent
      rw [hread]
    have hlike : (s.readOut sent).1.lkc = s.lkc ∧ (s.readOut sent).1.slt = s.slt ∧ (s.readOut sent).1.rgt = s.rgt ∧
        (s.readOut sent).1.atg = s.atg ∧ (s.readOut sent).1.ppt = s.ppt ∧ (s.readOut sent).1.dqq = s.dqq := by
      obtain ⟨o, es, hread, -⟩ := s.readOut_eq sent
      rw [hread]
      exact ⟨rfl, rfl, rfl, rfl, rfl, rfl⟩
    have hmedia := exec_media (sent := sent) hp
    have hswept (ok : Bool) := exec_frame (s := s) (sent := sent) (c := .swept sent start count ok)
      (fun s => s.sweptTaken start count.toNat ok) hp
    have hawaits : (s.readOut sent).1.Awaits start count.toNat cursor sweepEnd := by
      constructor <;> rw [here]
      exacts [hphase, hstate, horder, hcursor, hend]
    have hwidth : cursor + BitVec.ofNat 32 count.toNat = cursor + count.setWidth 32 := by
      rw [BitVec.ofNat_toNat]
    generalize (s.readOut sent).1 = u at *
    generalize (s.readOut sent).2 = read at *
    obtain ⟨hok, hoawaited, hojournal, horecording, hosent⟩ := State.sweptTaken_ok hawaits
    rw [hwidth] at hojournal
    refine ⟨_, _, _, hmedia, hswept true, hswept false, by simpa using hok, by simpa using hoawaited, by simpa using hojournal,
      fun hne => by simpa using horecording hne, fun hl => ?_, fun hr => ?_, fun hr => ?_, ?_⟩
    · have hsent := (hosent (hstc ▸ hl) hoawaited).exists
      simpa using hsent
    · have htaken : u.sweptTaken start count.toNat false = State.sendSweep
          { u with ere := { u.ere with retry := u.ere.retry + 1 } } { start := start, count := count.toNat } := by
        rw [State.sweptTaken_awaited hawaits, if_neg Bool.false_ne_true, if_pos (by rw [here]; exact hr)]
      obtain ⟨owed, hsend⟩ := State.sendSweep_eq { u with ere := { u.ere with retry := u.ere.retry + 1 } }
        { start := start, count := count.toNat }
      refine ⟨?_, ?_, ?_, ?_, ?_, fun hs hw => ⟨fun hroom => ?_, fun hfull => ?_⟩⟩
      · rw [State.settleStandby_ere, State.finish_retry, htaken, hsend, ← here]
      · rw [State.settleStandby_ere, State.finish_journal, htaken, hsend, ← here]
      · rw [State.settleStandby_ere, State.finish_order, htaken, hsend, ← here]
      · rw [State.settleStandby_ere, State.finish_sweepState, htaken, hsend]
        exact (congrArg Ere.sweepState here).trans hstate
      · rw [State.settleStandby_stc, State.finish_stc, htaken, hsend]
        exact hstc
      · have hm : u.finish read = u := State.finish_quiet (.inl (hpending.trans hs)) (.inl (by rw [here]; exact hw))
        rw [hm] at hroom ⊢
        rw [htaken, State.finish_sendSweep_room (by exact hroom) (by exact hpending.trans hs)]
        exact ⟨rfl, rfl⟩
      · have hm : u.finish read = u := State.finish_quiet (.inl (hpending.trans hs)) (.inl (by rw [here]; exact hw))
        rw [hm] at hfull ⊢
        rw [htaken, State.finish_sendSweep_full (by exact hfull) (by exact hpending.trans hs)]
        exact ⟨rfl, rfl⟩
    · obtain ⟨hno, hawaited, hjournal, hsent⟩ := State.sweptTaken_gives_up hawaits (by rw [here]; exact hr)
      refine ⟨by simpa using hno, by simpa using hawaited, by simpa using hjournal, fun hl => ?_⟩
      have hsent := (hsent (hstc ▸ hl) hawaited).exists
      simpa using hsent
    · obtain ⟨hlkc, hslt, hrgt, hatg, hppt, hdqq⟩ := hlike
      have hrest (ok : Bool) (t : State) (ht : t = ((u.sweptTaken start count.toNat ok).finish read).settleStandby) :
          t.lkc = s.lkc ∧ t.slt = s.slt ∧ t.rgt = s.rgt ∧ t.atg = s.atg ∧ t.ppt = s.ppt ∧ t.dqq = s.dqq := by
        obtain ⟨d, q, m, hframe⟩ := State.sweptTaken_frame hawaits ok
        rw [ht, hframe]
        simp [hlkc, hslt, hrgt, hatg, hppt, hdqq]
      rintro t (ht | ht)
      · exact hrest true t ht
      · exact hrest false t ht
  · have hmedia := exec_media (sent := sent) hp
    have hexec := exec_frame (s := s) (sent := sent) (c := .swept sent start count ok)
      (fun s => s.sweptTaken start count.toNat ok) hp
    rw [State.sweptTaken_ignored ok (by rw [(s.readOut_marks sent).2.1]; exact h)] at hexec
    exact ⟨_, hmedia, hexec⟩

end Sys2Proof.Machine
end

section
/-! SUPPORT. Bridge frames by their bytes (R175). -/

namespace Sys2Proof.Machine

set_option Elab.async false

/-! ### Frames that spell a command -/

theorem flagOf_isSome (b : Byte) : (flagOf b).isSome = true ↔ b = 0x00 ∨ b = 0x01 := by
  unfold flagOf
  split <;> simp_all

theorem directionOf_isSome (b : Byte) : (directionOf b).isSome = true ↔ b = 0x00 ∨ b = 0x01 := by
  unfold directionOf
  split <;> simp_all

/-- A type and a payload spell a command exactly where the fields are in place. -/
theorem bridgeCommand_isSome (sent : Bool) (type : Byte) (p : List Byte) :
    (bridgeCommand sent type p).isSome = true ↔ bridgeFields type p := by
  have hmap {α β : Type} (t : Byte) (x : Option α) (f : α → β) :
      (if type = t then x.map f else none).isSome = true ↔ type = t ∧ x.isSome = true := by
    split
    · next h => simp [h]
    · next h => simp [h]
  unfold bridgeFields
  match p with
  | [] =>
    unfold bridgeCommand
    by_cases h3 : type = 3#8
    · simp [h3]
    by_cases h4 : type = 4#8
    · simp [h4]
    by_cases h8 : type = 8#8
    · simp [h8]
    · simp [h3, h4, h8]
  | [a] => simp [bridgeCommand]
  | [c, o] =>
    simp [bridgeCommand]
  | [c, o, r] =>
    simp only [bridgeCommand, hmap, flagOf_isSome]
    simp
  | [a, b, c, d] => simp [bridgeCommand]
  | [a, b, c, d, e] => simp [bridgeCommand]
  | [a, b, c, d, e, f] => simp [bridgeCommand]
  | [a, b, c, d, e, f, r] =>
    simp only [bridgeCommand, hmap, flagOf_isSome]
    simp
  | [a, b, c, d, e, f, g, h] =>
    unfold bridgeCommand
    by_cases h1 : type = 1#8
    · by_cases ha : a.toNat ≤ 15
      · simp [h1, ha, directionOf_isSome]
      · simp [h1, ha]
    · by_cases h2 : type = 2#8
      · simp [h2]
      · simp [h1, h2]
  | a :: b :: c :: d :: e :: f :: g :: h :: i :: rest => simp [bridgeCommand]

/-! ### The reading of the bytes (R175) -/

section
variable {sent : Bool} {type length : Byte} {rest : List Byte}

/-- No frame, or one dropped, leaves the state as it is. -/
theorem State.rejectFrame_of_other {s : State} {mosi : List Byte} (h : ∀ type tag, readBridge false mosi ≠ .malformed type tag) :
    s.rejectFrame mosi = s := by
  unfold State.rejectFrame
  split
  · next hm => exact absurd hm (h _ _)
  · rfl

theorem State.rejectFrame_of_malformed {s : State} {mosi : List Byte} {type tag : Byte}
    (h : readBridge false mosi = .malformed type tag) : s.rejectFrame mosi = s.sendAnswer (.error type tag) := by
  unfold State.rejectFrame
  rw [h]

theorem readBridge_unsynced {mosi : List Byte} (h : mosi.head? ≠ some 0xC3 ∨ mosi.length < 3) (type tag : Byte) :
    readBridge sent mosi ≠ .malformed type tag := by
  match mosi with
  | [] => exact nofun
  | [a] =>
    unfold readBridge
    dsimp only
    split <;> exact nofun
  | [a, b] =>
    unfold readBridge
    dsimp only
    split <;> exact nofun
  | sync :: t :: l :: rest =>
    have hsync : sync ≠ 0xC3 := fun hs => by
      subst hs
      rcases h with h | h
      · exact h rfl
      · simp only [List.length_cons] at h
        omega
    unfold readBridge
    dsimp only
    split
    · exact nofun
    · rw [if_pos (bne_iff_ne.mpr hsync)]
      exact nofun

theorem readBridge_long (h : 40 < length.toNat) :
    readBridge sent (0xC3 :: type :: length :: rest) = .malformed type (errorTag type length rest) := by
  unfold readBridge
  dsimp only
  rw [if_neg (by decide), if_neg (by decide), if_pos h]

theorem readBridge_dropped (h : length.toNat ≤ 40)
    (hcrc : rest[length.toNat]? ≠ some (crc8 (type :: length :: rest.take length.toNat))) :
    readBridge sent (0xC3 :: type :: length :: rest) = .dropped := by
  unfold readBridge
  dsimp only
  rw [if_neg (by decide), if_neg (by decide), if_neg (Nat.not_lt.mpr h)]
  exact if_pos (by simpa using hcrc)

theorem readBridge_checked (h : length.toNat ≤ 40)
    (hcrc : rest[length.toNat]? = some (crc8 (type :: length :: rest.take length.toNat))) :
    (∀ i, bridgeCommand sent type (rest.take length.toNat) = some i →
      readBridge sent (0xC3 :: type :: length :: rest) = .command i) ∧
    (bridgeCommand sent type (rest.take length.toNat) = none → readBridge sent (0xC3 :: type :: length :: rest) =
      .malformed type (errorTag type length (rest.take length.toNat))) := by
  unfold readBridge
  dsimp only
  rw [if_neg (by decide), if_neg (by decide), if_neg (Nat.not_lt.mpr h), if_neg (by simp [hcrc])]
  exact ⟨fun i hi => by rw [hi], fun hn => by rw [hn]⟩

/-- The tag of an ERROR frame: an ACCESS's own where it has one, and FFh otherwise (R175). -/
theorem errorTag_eq {tag : Byte} {l : List Byte} (hl : 1 ≤ length.toNat → l.head? = rest.head?)
    (h : (type = 0x01 ∧ 1 ≤ length.toNat ∧ tag.toNat ≤ 15 ∧ rest.head? = some tag) ∨
      (tag = 0xFF ∧ ∀ first : Byte, type = 0x01 → 1 ≤ length.toNat → rest.head? = some first → 15 < first.toNat)) :
    errorTag type length l = tag := by
  unfold errorTag
  rcases h with ⟨htype, hlength, htag, hhead⟩ | ⟨rfl, hother⟩
  · obtain ⟨tail, rfl⟩ : ∃ tail, l = tag :: tail := List.head?_eq_some_iff.mp ((hl hlength).trans hhead)
    exact if_pos (by simp [htype, hlength, htag])
  · split
    · next t tail =>
      refine if_neg fun hall => ?_
      simp only [Bool.and_eq_true, decide_eq_true_eq] at hall
      obtain ⟨⟨htype, hlength⟩, htag⟩ := hall
      exact absurd (hother t htype hlength (hl hlength).symm) (Nat.not_lt.mpr htag)
    · rfl

end

/-- Settles O24: by the reading of the bytes, its first case that applies. -/
theorem malformedFrames : Obligations.MalformedFrames := by
  unfold Obligations.MalformedFrames
  intro s sent mosi hp
  have hmedia := exec_media (sent := sent) hp
  have hexec := exec_frame (s := s) (sent := sent) (c := .malformedFrame sent mosi) (fun s => s.rejectFrame mosi) hp
  obtain ⟨hpending, here, -⟩ := s.readOut_marks sent
  generalize (s.readOut sent).1 = u at *
  have hother (h : ∀ type tag, readBridge false mosi ≠ .malformed type tag) :
      ((u.rejectFrame mosi).finish (s.readOut sent).2).settleStandby = (u.finish (s.readOut sent).2).settleStandby := by
    rw [State.rejectFrame_of_other h]
  refine ⟨_, _, hmedia, hexec, fun h => hother (readBridge_unsynced h), fun type length rest payload hmosi hpayload => ?_⟩
  subst hmosi hpayload
  have hhead (h : 1 ≤ length.toNat) : (rest.take length.toNat).head? = rest.head? := by
    rw [List.head?_take, if_neg (by omega)]
  have hreject (tag : Byte) (l : List Byte) (hl : 1 ≤ length.toNat → l.head? = rest.head?)
      (htag : (type = 0x01 ∧ 1 ≤ length.toNat ∧ tag.toNat ≤ 15 ∧ rest.head? = some tag) ∨
        (tag = 0xFF ∧ ∀ first : Byte, type = 0x01 → 1 ≤ length.toNat → rest.head? = some first → 15 < first.toNat))
      (h : readBridge false (0xC3 :: type :: length :: rest) = .malformed type (errorTag type length l)) :
      (u.finish (s.readOut sent).2).settleStandby.sameExcept
        ((u.rejectFrame (0xC3 :: type :: length :: rest)).finish (s.readOut sent).2).settleStandby [.mpt, .ere] ∧
      s.answers (u.finish (s.readOut sent).2).settleStandby
        ((u.rejectFrame (0xC3 :: type :: length :: rest)).finish (s.readOut sent).2).settleStandby (.error type tag) := by
    rw [errorTag_eq hl htag] at h
    rw [State.rejectFrame_of_malformed h]
    exact ⟨(State.finish_sameExcept (L := [.mpt]) (by simp [State.sameExcept_iff])).mono (by simp),
      State.answers_of_finish rfl rfl rfl hpending (congrArg Ere.sweepOwed here)⟩
  refine ⟨fun h hcrc => hother fun _ _ => ?_, fun h hcrc hfields => hother fun _ _ => ?_, fun h tag htag => ?_⟩
  · rw [readBridge_dropped h hcrc]
    exact nofun
  · obtain ⟨i, hi⟩ := Option.isSome_iff_exists.mp ((bridgeCommand_isSome false _ _).mpr hfields)
    rw [(readBridge_checked h hcrc).1 i hi]
    exact nofun
  · by_cases hlong : 40 < length.toNat
    · exact hreject tag rest (fun _ => rfl) htag (readBridge_long hlong)
    · obtain ⟨hcrc, hfields⟩ := h.resolve_left hlong
      have hnone : bridgeCommand false type (rest.take length.toNat) = none := by
        rw [← Option.not_isSome_iff_eq_none, bridgeCommand_isSome]
        exact hfields
      exact hreject tag _ hhead htag ((readBridge_checked (Nat.not_lt.mp hlong) hcrc).2 hnone)

end Sys2Proof.Machine
end

section
/-! SUPPORT. Frames read back as the command they carry (R174, R175, R181, 10.5). -/

namespace Sys2Proof.Machine

set_option Elab.async false

/-! ### Operands read back -/

theorem ofNat_beValue_beBytes {w : Nat} (n : Nat) (x : BitVec w) (hw : 2 ^ w = 256 ^ n) :
    BitVec.ofNat w (beValue (beBytes n x.toNat)) = x := by
  rw [beValue_beBytes_of_lt (hw ▸ x.isLt), BitVec.ofNat_toNat, BitVec.setWidth_eq]

theorem directionOf_directionCode (d : Direction) : directionOf (directionCode d) = some d := by cases d <;> rfl

/-- A SET SETTINGS payload names its fields (R188, 10.5). -/
theorem readSettings_settingsPayload (entries : List (Byte × BitVec 16)) :
    readSettings (settingsPayload entries) = some entries := by
  induction entries with
  | nil => rfl
  | cons e rest ih =>
    change (readSettings (settingsPayload rest)).map
      (fun l => (e.1, BitVec.ofNat 16 (beValue (beBytes 2 e.2.toNat))) :: l) = _
    rw [ih, ofNat_beValue_beBytes 2 e.2 (by decide)]
    rfl

theorem settingsPayload_length (entries : List (Byte × BitVec 16)) :
    (settingsPayload entries).length = 3 * entries.length := by
  induction entries with
  | nil => rfl
  | cons e rest ih =>
    simp only [settingsPayload, List.length_cons, List.length_append, beBytes_length, ih]
    omega

/-! ### The length and the check code of a frame -/

theorem ofNat_length_toNat {payload : List Byte} (h : payload.length < 256) :
    (BitVec.ofNat 8 payload.length).toNat = payload.length := by
  rw [BitVec.toNat_ofNat]
  exact Nat.mod_eq_of_lt h

theorem mediaFrame_length {payload : List Byte} (type : Byte) (h : payload.length ≤ 40) :
    (mediaFrame type payload).length = 44 := by
  simp only [mediaFrame, transactionBytes, List.length_append, List.length_cons, List.length_replicate, List.length_nil]
  omega

/-- A bridge frame is read as the command that its payload spells (R174, R175). -/
theorem readBridge_mediaFrame {sent : Bool} {type : Byte} {payload : List Byte} {i : Instr} (h : payload.length ≤ 40)
    (hi : bridgeCommand sent type payload = some i) : readBridge sent (mediaFrame type payload) = .command i := by
  have hlen := ofNat_length_toNat (payload := payload) (by omega)
  have htake (tail : List Byte) : (payload ++ tail).take (BitVec.ofNat 8 payload.length).toNat = payload := by
    rw [hlen, List.take_left]
  unfold mediaFrame
  simp only [List.cons_append, List.append_assoc]
  refine (readBridge_checked (by rw [hlen]; exact h) ?_).1 i (by rw [htake]; exact hi)
  rw [htake, hlen, List.getElem?_append_right (Nat.le_refl _), Nat.sub_self]
  rfl

/-- A panel frame is read as the request that its payload spells (R181). -/
theorem readPanel_panelFrame {type : Byte} {payload : List Byte} {i : Instr} (h : payload.length < 256)
    (hi : panelCommand type payload = some i) : readPanel (panelFrame type payload) = .command i := by
  have hlen := ofNat_length_toNat h
  unfold panelFrame
  simp only [List.cons_append]
  unfold readPanel
  simp [hlen, hi]

/-! ### The command that a payload spells -/

/-- The payload of a bridge frame spells its command (10.5). -/
theorem bridgeCommand_encoding {i : Instr} {type : Byte} {payload : List Byte}
    (he : bridgeEncoding i = some (type, payload)) (hw : i.wellFormed = true) :
    payload.length ≤ 40 ∧ bridgeCommand (sentMark i) type payload = some i := by
  cases i <;> try exact absurd (show none = some (type, payload) from he) nofun
  all_goals obtain ⟨rfl, rfl⟩ := Prod.mk.inj (Option.some.inj he)
  case access sent tag lba count dir =>
    refine ⟨by simp [beBytes_length], ?_⟩
    have htag : tag.toNat ≤ 15 := of_decide_eq_true hw
    change (if tag.toNat ≤ 15 then (directionOf (directionCode dir)).map (fun dir =>
      Instr.access sent tag (BitVec.ofNat 32 (beValue (beBytes 4 lba.toNat)))
        (BitVec.ofNat 16 (beValue (beBytes 2 count.toNat))) dir) else none) = _
    rw [if_pos htag, directionOf_directionCode, ofNat_beValue_beBytes 4 lba (by decide),
      ofNat_beValue_beBytes 2 count (by decide)]
    rfl
  case attach sent capacity =>
    refine ⟨by simp [beBytes_length], ?_⟩
    change some (Instr.attach sent (BitVec.ofNat 64 (beValue (beBytes 8 capacity.toNat)))) = _
    rw [ofNat_beValue_beBytes 8 capacity (by decide)]
  case detach => exact ⟨by decide, rfl⟩
  case hostlock => exact ⟨by decide, rfl⟩
  case linkreset => exact ⟨by decide, rfl⟩
  case keyack sent context order ok =>
    refine ⟨by simp, ?_⟩
    change (flagOf (boolCode (!ok))).map (fun fail => Instr.keyack sent context order (!fail)) = _
    simp [flagOf_boolCode]
  case purgeack => exact ⟨by simp, rfl⟩
  case swept sent start count ok =>
    refine ⟨by simp [beBytes_length], ?_⟩
    change (flagOf (boolCode (!ok))).map (fun fail => Instr.swept sent
      (BitVec.ofNat 32 (beValue (beBytes 4 start.toNat))) (BitVec.ofNat 16 (beValue (beBytes 2 count.toNat))) (!fail)) = _
    rw [flagOf_boolCode, ofNat_beValue_beBytes 4 start (by decide), ofNat_beValue_beBytes 2 count (by decide)]
    simp

/-- The payload of a SET SETTINGS request spells it (R188, 10.5). -/
theorem panelCommand_settings {entries : List (Byte × BitVec 16)} (hleast : 1 ≤ entries.length)
    (hmost : entries.length ≤ 7) : panelCommand 0x14 (settingsPayload entries) = some (.setSettings entries) := by
  have hlen := settingsPayload_length entries
  unfold panelCommand
  rw [if_pos rfl, if_pos (by simp only [Bool.and_eq_true, decide_eq_true_eq]; omega), readSettings_settingsPayload]
  rfl

/-- The twelve bytes of a SET RANGE request spell it (10.5). -/
theorem panelCommand_range (index cls policy denial : Byte) (start count : BitVec 32) :
    panelCommand 0x12 ([index] ++ beBytes 4 start.toNat ++ beBytes 4 count.toNat ++ [cls, policy, denial]) =
      some (.setRange index start count cls policy denial) := by
  exact congrArg₂ (fun a b => some (Instr.setRange index a b cls policy denial))
    (ofNat_beValue_beBytes 4 start (by decide)) (ofNat_beValue_beBytes 4 count (by decide))

/-- The payload of a request spells it (10.5). -/
theorem panelCommand_encoding {i : Instr} {type : Byte} {payload : List Byte}
    (he : panelEncoding i = some (type, payload)) (hw : i.wellFormed = true) :
    payload.length < 256 ∧ panelCommand type payload = some i := by
  cases i <;> try exact absurd (show none = some (type, payload) from he) nofun
  all_goals obtain ⟨rfl, rfl⟩ := Prod.mk.inj (Option.some.inj he)
  case ack flags =>
    refine ⟨by simp [beBytes_length], ?_⟩
    change some (Instr.ack (BitVec.ofNat 16 (beValue (beBytes 2 flags.toNat)))) = _
    rw [ofNat_beValue_beBytes 2 flags (by decide)]
  case setAlertEnables enables =>
    refine ⟨by simp [beBytes_length], ?_⟩
    change some (Instr.setAlertEnables (BitVec.ofNat 16 (beValue (beBytes 2 enables.toNat)))) = _
    rw [ofNat_beValue_beBytes 2 enables (by decide)]
  case setRange index start count cls policy denial =>
    exact ⟨by simp [beBytes_length], panelCommand_range index cls policy denial start count⟩
  case setSettings entries =>
    simp only [Instr.wellFormed, Bool.and_eq_true, decide_eq_true_eq] at hw
    have hlen := settingsPayload_length entries
    exact ⟨by omega, panelCommand_settings hw.1 hw.2⟩
  all_goals exact ⟨by simp, rfl⟩

/-! ### The obligations -/

/-- Settles O4: the frame carries the payload of the command, and the payload spells it. -/
theorem bridgeFramesReadBack : Obligations.BridgeFramesReadBack := by
  unfold Obligations.BridgeFramesReadBack
  intro i bytes h hw
  obtain ⟨⟨type, payload⟩, he, rfl⟩ := Option.map_eq_some_iff.mp h
  obtain ⟨hlen, hi⟩ := bridgeCommand_encoding he hw
  exact ⟨mediaFrame_length type hlen, readBridge_mediaFrame hlen hi⟩

/-- Settles O5: the frame carries the payload of the request, and the payload spells it. -/
theorem panelRequestsReadBack : Obligations.PanelRequestsReadBack := by
  unfold Obligations.PanelRequestsReadBack
  intro i bytes h hw
  obtain ⟨⟨type, payload⟩, he, rfl⟩ := Option.map_eq_some_iff.mp h
  obtain ⟨hlen, hi⟩ := panelCommand_encoding he hw
  exact readPanel_panelFrame hlen hi

end Sys2Proof.Machine
end

section
/-! SUPPORT. The keypad's presses and releases, and the expiries of the entry unit (R26 to R33, R45). -/

namespace Sys2Proof.Machine

set_option Elab.async false

section
variable {s : State} {k : Ksc} {l : LockState}

/-! ### Debounced states -/

theorem Ksc.isDown_of_allUp (h : k.allUp = true) (key : PadKey) : k.isDown key = false := by
  simp only [Ksc.allUp, List.all_eq_true, Bool.not_eq_true'] at h
  exact h (padIndex key) (List.mem_finRange _)

theorem Ksc.isDown_setDown_of_ne {key other : PadKey} (v : Bool) (h : padIndex key ≠ padIndex other) :
    (k.setDown key v).isDown other = k.isDown other := by
  have hval : (padIndex key).val ≠ (padIndex other).val := fun heq => h (Fin.ext heq)
  simp [Ksc.isDown, Ksc.setDown, hval]

/-! ### A key event that the scanner gives -/

/-- A key event in ERASING and before store-ready does nothing beyond the standby timer (R30, R44). -/
theorem State.keyEvent_ignored_absent (e : KeyEvent) (h : s.lkc.lockState = none ∨ s.lkc.lockState = some .erasing) :
    (s.setKsc k).keyEvent e = s.keyTaken k := State.keyEvent_absent (s := s.setKsc k) e h

theorem State.keyEvent_idle (e : KeyEvent) (hl : s.lkc.lockState = some l) (he : l ≠ .erasing) (hi : s.enu.state = .idle) :
    (s.setKsc k).keyEvent e = (s.keyTaken k).idleKey l e :=
  (State.keyEvent_present (s := s.setKsc k) e hl he).trans (State.presentKey_idle (s := s.keyTaken k) e hi)

theorem State.keyEvent_collecting (e : KeyEvent) (hl : s.lkc.lockState = some l) (he : l ≠ .erasing)
    (hi : s.enu.state = .collecting) : (s.setKsc k).keyEvent e = (s.keyTaken k).collectingKey e :=
  (State.keyEvent_present (s := s.setKsc k) e hl he).trans (State.presentKey_collecting (s := s.keyTaken k) e hi)

/-- In CHECKING and in HOLDOFF a key event that is not LOCK does nothing beyond the standby timer (R39, R41, R44). -/
theorem State.keyEvent_busy {e : KeyEvent} (hlock : e ≠ .lock) (hi : s.enu.state = .checking ∨ s.enu.state = .holdoff) :
    (s.setKsc k).keyEvent e = s.keyTaken k := by
  by_cases habsent : s.lkc.lockState = none ∨ s.lkc.lockState = some .erasing
  · exact State.keyEvent_ignored_absent e habsent
  · rw [not_or] at habsent
    obtain ⟨l, hl⟩ := Option.ne_none_iff_exists'.mp habsent.1
    have he : l ≠ .erasing := fun heq => habsent.2 (heq ▸ hl)
    exact (State.keyEvent_present (s := s.setKsc k) e hl he).trans
      ((State.presentKey_busy (s := s.keyTaken k) e hi).trans (if_neg hlock))

/-- A key event that the entry unit ignores changes the scanner alone (R44). -/
theorem State.keyTaken_settled (s : State) (k : Ksc) :
    s.sameExcept (s.keyTaken k).settleStandby [.ksc] :=
  State.sameExcept.settled (by simp [State.sameExcept_iff, State.keyTaken, State.setKsc, State.restartStandby, Enu.sameEntry])

/-- A key event that changes the entry unit alone, the scanner as `k`. -/
theorem State.keyTaken_entered (s : State) (k : Ksc) (e : Enu) :
    s.sameExcept ({ s.keyTaken k with enu := e } : State).settleStandby [.ksc, .enu] :=
  State.sameExcept.settled (by simp [State.sameExcept_iff, State.keyTaken, State.setKsc, State.restartStandby])

/-! ### DIGIT -/

/-- A DIGIT event leaves the scanner (R30 to R32). -/
theorem State.keyEvent_digit_ksc (d : Digit) : ((s.setKsc k).keyEvent (.digit d)).ksc = k := by
  by_cases habsent : s.lkc.lockState = none ∨ s.lkc.lockState = some .erasing
  · rw [State.keyEvent_ignored_absent _ habsent]
    rfl
  · rw [not_or] at habsent
    obtain ⟨l, hl⟩ := Option.ne_none_iff_exists'.mp habsent.1
    have he : l ≠ .erasing := fun heq => habsent.2 (heq ▸ hl)
    cases hi : s.enu.state with
    | idle =>
      rw [State.keyEvent_idle _ hl he hi]
      cases l with
      | blank =>
        simp only [State.idleKey]
        split <;> rfl
      | _ => rfl
    | collecting =>
      rw [State.keyEvent_collecting _ hl he hi]
      rfl
    | checking =>
      rw [State.keyEvent_busy (e := .digit d) nofun (.inl hi)]
      rfl
    | holdoff =>
      rw [State.keyEvent_busy (e := .digit d) nofun (.inr hi)]
      rfl

/-- A digit pressed on a free keypad is a DIGIT event (R27). -/
theorem State.press_digit {d : Digit} (hscan : s.ksc.scanMode = .full) (hheld : s.ksc.held = none)
    (hup : s.ksc.allUp = true) : s.press (.digit d) =
      (s.setKsc { s.ksc.setDown (.digit d) true with held := some (.digit d) }).keyEvent (.digit d) := by
  unfold State.press
  rw [if_neg (by rw [Ksc.isDown_of_allUp hup]; decide), if_neg (by rw [hscan]; decide)]
  unfold State.fullPress
  dsimp only
  rw [if_pos (by rw [hheld, hup]; rfl)]

end

/-- Settles O35: the press is a DIGIT event, which the entry unit takes by its state and the lock state. -/
theorem digitStartsEntry : Obligations.DigitStartsEntry := by
  unfold Obligations.DigitStartsEntry
  intro s d hp hscan hheld hup
  have hexec := exec_event (c := .keyPressAccepted (.digit d)) (fun s => s.press (.digit d)) hp
  rw [State.press_digit hscan hheld hup] at hexec
  refine ⟨_, hexec, State.keyEvent_digit_ksc d, fun hi => ⟨fun hl => ?_, fun hl hidn hflight => ?_, fun hl hbar => ?_,
    fun hother => ?_⟩, fun hi herasing hpresent => ?_, fun hi => ?_⟩
  · rw [State.keyEvent_idle (l := .locked) _ hl nofun hi]
    exact ⟨State.keyTaken_entered _ _ _, rfl, rfl, rfl, rfl, rfl, rfl, rfl⟩
  · rw [State.keyEvent_idle (l := .blank) _ hl nofun hi]
    have hstart : (s.keyTaken { s.ksc.setDown (.digit d) true with held := some (.digit d) }).idleKey .blank (.digit d) =
        (s.keyTaken { s.ksc.setDown (.digit d) true with held := some (.digit d) }).startEntry .enroll1 [d]
          (some firstOrder) := if_neg (by simp [State.keyTaken, State.setKsc, State.restartStandby, hidn, hflight])
    rw [hstart]
    exact ⟨State.keyTaken_entered _ _ _, rfl, rfl, rfl, rfl, rfl, rfl, rfl, rfl⟩
  · rw [State.keyEvent_idle (l := .blank) _ hl nofun hi]
    have hstand : (s.keyTaken { s.ksc.setDown (.digit d) true with held := some (.digit d) }).idleKey .blank (.digit d) =
        s.keyTaken { s.ksc.setDown (.digit d) true with held := some (.digit d) } :=
      if_pos (by simpa [State.keyTaken, State.setKsc, State.restartStandby] using hbar)
    rw [hstand]
    exact State.keyTaken_settled _ _
  · rcases hother with (hl | hl) | hl | hl
    · rw [State.keyEvent_idle (l := .openPending) _ hl nofun hi]
      exact State.keyTaken_settled _ _
    · rw [State.keyEvent_idle (l := .opened) _ hl nofun hi]
      exact State.keyTaken_settled _ _
    · rw [State.keyEvent_ignored_absent _ (.inr hl)]
      exact State.keyTaken_settled _ _
    · rw [State.keyEvent_ignored_absent _ (.inl hl)]
      exact State.keyTaken_settled _ _
  · obtain ⟨l, hl⟩ := Option.ne_none_iff_exists'.mp hpresent
    rw [State.keyEvent_collecting _ hl (fun heq => herasing (heq ▸ hl)) hi]
    refine ⟨State.keyTaken_entered _ _ _, fun hroom => ?_, fun hfull => ?_⟩
    · rw [State.collectingKey, Enu.addDigit, if_pos (by exact hroom)]
      rfl
    · rw [State.collectingKey, Enu.addDigit, if_neg (by exact Nat.not_lt.mpr hfull)]
      rfl
  · rw [State.keyEvent_busy (e := .digit d) nofun hi]
    exact State.keyTaken_settled _ _

/-! ### The chord -/

section
variable {s : State} {first second : PadKey}

/-- The partner's press in the pairing window forms the chord (R28). -/
theorem State.press_partner (hpair : chordPartner first = some second) (hscan : s.ksc.scanMode = .full)
    (hchord : s.ksc.chord = .pairing) (hheld : s.ksc.held = some first) (hup : s.ksc.isDown second = false) :
    s.press second = s.setKsc { s.ksc.setDown second true with
      chord := .forming, pairingTimer := .stopped, chordTimer := .running 0 } := by
  unfold State.press
  rw [if_neg (by rw [hup]; decide), if_neg (by rw [hscan]; decide)]
  unfold State.fullPress
  dsimp only
  rw [if_neg (by rw [hheld]; nofun), if_pos]
  simp [Ksc.setDown, hchord, hheld, hpair]

/-- The release of a chord key while the other stays down abandons a forming chord (R29). -/
theorem State.release_forming (hpair : chordPartner first = some second) (hchord : s.ksc.chord = .forming)
    (hdown : s.ksc.isDown first = true) (hother : s.ksc.isDown second = true) :
    s.release first = s.setKsc { s.ksc.setDown first false with chord := .abandoned, chordTimer := .stopped } := by
  have hne : padIndex first ≠ padIndex second := by
    cases first <;> cases hpair <;> decide
  have hstands : (s.ksc.setDown first false).isDown second = true := by rwa [Ksc.isDown_setDown_of_ne _ hne]
  have hforming : (s.ksc.setDown first false).chord = .forming := hchord
  unfold State.release
  rw [if_neg (by rw [hdown]; decide)]
  dsimp only
  rw [hforming]
  dsimp only
  rw [if_pos (by rw [isChordKey, hpair]; rfl)]
  refine congrArg s.setKsc (if_neg ?_)
  simp only [Ksc.chordKeysUp]
  cases first <;> cases hpair <;> simp_all [Ksc.isDown]

/-- Outside a chord the release of the held key makes the held key absent (R27). -/
theorem State.release_plain (hchord : s.ksc.chord = .none) (hheld : s.ksc.held = some first)
    (hdown : s.ksc.isDown first = true) :
    s.release first = s.setKsc { s.ksc.setDown first false with held := none } := by
  have hnone : (s.ksc.setDown first false).chord = .none := hchord
  unfold State.release
  rw [if_neg (by rw [hdown]; decide)]
  dsimp only
  rw [hnone]
  exact congrArg s.setKsc (if_pos hheld)

/-- The chord timer's expiry is a CHORD event (R29). -/
theorem State.chordExpiry_eq (hchord : s.ksc.chord = .forming) (hreached : s.ksc.chordTimer.reached 1000 = true) :
    s.chordExpiry = (s.setKsc { s.ksc with chord := .formed, chordTimer := .stopped }).keyEvent .chord :=
  if_pos (Bool.and_eq_true_iff.mpr ⟨decide_eq_true hchord, hreached⟩)

/-- The scanner's value alone changes where a press or release is no key event. -/
theorem State.setKsc_settled (s : State) (k : Ksc) : s.sameExcept (s.setKsc k).settleStandby [.ksc] :=
  State.sameExcept.settled (by simp [State.sameExcept_iff, State.setKsc])

/-- A CHORD event leaves the scanner (R30, R38). -/
theorem State.keyEvent_chord_idle {k : Ksc} {l : LockState} (hl : s.lkc.lockState = some l)
    (hstarts : l = .locked ∨ l = .openPending ∨ l = .opened) (hi : s.enu.state = .idle) :
    (s.setKsc k).keyEvent .chord = (s.keyTaken k).startEntry .admin [] none := by
  rw [State.keyEvent_idle .chord hl (by rcases hstarts with rfl | rfl | rfl <;> decide) hi]
  rcases hstarts with rfl | rfl | rfl <;> rfl

/-- A CHORD event outside IDLE, in BLANK, in ERASING and before store-ready is ignored (R30, R38, R39, R41). -/
theorem State.keyEvent_chord_ignored {k : Ksc} (h : s.enu.state ≠ .idle ∨ s.lkc.lockState = some .blank ∨
    s.lkc.lockState = some .erasing ∨ s.lkc.lockState = none) : (s.setKsc k).keyEvent .chord = s.keyTaken k := by
  by_cases habsent : s.lkc.lockState = none ∨ s.lkc.lockState = some .erasing
  · exact State.keyEvent_ignored_absent .chord habsent
  · rw [not_or] at habsent
    obtain ⟨l, hl⟩ := Option.ne_none_iff_exists'.mp habsent.1
    have he : l ≠ .erasing := fun heq => habsent.2 (heq ▸ hl)
    cases hi : s.enu.state with
    | idle =>
      have hblank : l = .blank := by
        rcases h with h | h | h | h
        · exact absurd hi h
        · exact Option.some.inj (hl.symm.trans h)
        · exact absurd h habsent.2
        · exact absurd h habsent.1
      subst hblank
      exact State.keyEvent_idle .chord hl he hi
    | collecting => exact State.keyEvent_collecting .chord hl he hi
    | checking => exact State.keyEvent_busy nofun (.inl hi)
    | holdoff => exact State.keyEvent_busy nofun (.inr hi)

end

/-- Settles O36: the scanner's chord course, and the CHORD event as the entry unit takes it. -/
theorem chordAndReleases : Obligations.ChordAndReleases := by
  unfold Obligations.ChordAndReleases
  intro s hp
  refine ⟨fun first second hkeys => ?_, fun hchord hreached => ?_, fun key hchord hheld hdown => ?_⟩
  · have hpair : chordPartner first = some second := by rcases hkeys with ⟨rfl, rfl⟩ | ⟨rfl, rfl⟩ <;> rfl
    refine ⟨fun hscan hchord hheld hup => ?_, fun hchord hlock hunlock => ?_⟩
    · have hexec := exec_event (c := .keyPressAccepted second) (fun s => s.press second) hp
      rw [State.press_partner hpair hscan hchord hheld hup] at hexec
      exact ⟨_, hexec, State.setKsc_settled _ _, rfl⟩
    · have hdown : s.ksc.isDown first = true ∧ s.ksc.isDown second = true := by
        rcases hkeys with ⟨rfl, rfl⟩ | ⟨rfl, rfl⟩
        · exact ⟨hlock, hunlock⟩
        · exact ⟨hunlock, hlock⟩
      have hexec := exec_event (c := .keyReleaseAccepted first) (fun s => s.release first) hp
      rw [State.release_forming hpair hchord hdown.1 hdown.2] at hexec
      exact ⟨_, hexec, State.setKsc_settled _ _, rfl⟩
  · have hexec := exec_event (c := .chordTimerExpiry) State.chordExpiry hp
    rw [State.chordExpiry_eq hchord hreached] at hexec
    by_cases hstarts : s.enu.state = .idle ∧ (s.lkc.lockState = some .locked ∨ s.unlocked)
    · obtain ⟨hi, hlock⟩ := hstarts
      obtain ⟨l, hl, hcases⟩ : ∃ l, s.lkc.lockState = some l ∧ (l = .locked ∨ l = .openPending ∨ l = .opened) := by
        rcases hlock with h | h | h <;> exact ⟨_, h, by decide⟩
      rw [State.keyEvent_chord_idle hl hcases hi] at hexec
      refine ⟨_, hexec, rfl, fun _ _ => ⟨State.keyTaken_entered _ _ _, rfl, rfl, rfl, rfl, rfl, rfl, rfl⟩, fun h => ?_⟩
      rw [hi, hl] at h
      rcases hcases with rfl | rfl | rfl <;> exact absurd h (by decide)
    · have hignored : s.enu.state ≠ .idle ∨ s.lkc.lockState = some .blank ∨ s.lkc.lockState = some .erasing ∨
          s.lkc.lockState = none := by
        by_contra hnot
        simp only [not_or, Classical.not_not] at hnot
        obtain ⟨hi, hblank, herasing, hpresent⟩ := hnot
        refine hstarts ⟨hi, ?_⟩
        unfold State.unlocked
        rcases hl : s.lkc.lockState with _ | l
        · exact absurd hl hpresent
        · cases l <;> simp_all
      rw [State.keyEvent_chord_ignored hignored] at hexec
      exact ⟨_, hexec, rfl, fun hi hlock => absurd ⟨hi, hlock⟩ hstarts, fun _ => State.keyTaken_settled _ _⟩
  · have hexec := exec_event (c := .keyReleaseAccepted key) (fun s => s.release key) hp
    rw [State.release_plain hchord hheld hdown] at hexec
    exact ⟨_, hexec, State.setKsc_settled _ _, rfl⟩

/-! ### Expiries of the entry unit -/

/-- An expiry of a timer that has not reached its preset does not occur (R89). -/
theorem exec_event_stands {c : Instr} {s : State} (f : State → State) (hp : s.powered = true) (hf : f s = s)
    (h : exec c s = s.event f := by rfl) : ∃ t, exec c s = .next t ∧ s.sameExcept t [] :=
  ⟨_, (exec_event f hp h).trans (by rw [hf]), s.sameExcept_settleStandby⟩

/-- Settles O37: each expiry by the test of its timer. -/
theorem entryUnitTimers : Obligations.EntryUnitTimers := by
  unfold Obligations.EntryUnitTimers
  intro s hp
  refine ⟨fun c hc => ?_, fun hdue => ?_, fun hdue => ?_⟩
  · rcases hc with ⟨rfl, h⟩ | ⟨rfl, h⟩ | ⟨rfl, h⟩ | ⟨rfl, h⟩ | ⟨rfl, h⟩
    · exact exec_event_stands State.entryExpiry hp (if_neg (Bool.eq_false_iff.mp h))
    · exact exec_event_stands State.standbyExpiry hp (if_neg (Bool.eq_false_iff.mp h))
    · exact exec_event_stands State.idleExpiry hp (if_neg (by simp [State.idleDue, h]))
    · exact exec_event_stands State.windowExpiry hp (if_neg (Bool.eq_false_iff.mp h))
    · exact exec_event_stands State.sessionExpiry hp (if_neg (Bool.eq_false_iff.mp h))
  · have hexpiry : s.entryExpiry = s.abandonEntry := if_pos hdue
    have hexec := exec_event (c := .entryTimerExpiry) State.entryExpiry hp
    rw [hexpiry, State.abandonEntry_eq] at hexec
    refine ⟨_, hexec, State.sameExcept.settled (by simp [State.sameExcept_iff]), rfl, rfl, rfl, rfl, rfl, rfl, rfl,
      if_congr ?_ rfl rfl⟩
    rcases s.enu.purpose with _ | p
    · simp [isEnrollment]
    · simp [isEnrollment_some]
  · have hexpiry : s.standbyExpiry =
        { s with enu := { s.enu with standby := true, standbyTimer := .held }, ksc := s.ksc.enterStandby } := if_pos hdue
    have hexec := exec_event (c := .standbyTimerExpiry) State.standbyExpiry hp
    rw [hexpiry] at hexec
    have hscan : s.ksc.enterStandby.scanMode = .wake ∧ s.ksc.enterStandby.held = s.ksc.held := by
      unfold Ksc.enterStandby
      split <;> exact ⟨rfl, rfl⟩
    refine ⟨_, hexec, State.sameExcept.settled (by simp [State.sameExcept_iff]), rfl, rfl, rfl, hscan.1, hscan.2,
      fun h => ?_, fun h => ?_⟩
    · exact congrArg Ksc.chord (show s.ksc.enterStandby = _ by rw [Ksc.enterStandby, h])
    · exact congrArg Ksc.chord (show s.ksc.enterStandby = _ by rw [Ksc.enterStandby, h])

end Sys2Proof.Machine
end

section
/-! SUPPORT. Due expiries and the passing of a millisecond (R79, R89; entries 2 and 33). -/

namespace Sys2Proof.Machine

set_option Elab.async false

section
variable {s : State} {c : Instr}

/-! ### The sources of a due expiry -/

theorem dueIf_eq_some {b : Bool} {i j : Instr} : dueIf b i = some j ↔ b = true ∧ i = j := by
  cases b <;> simp [dueIf]

theorem dueIf_eq_none {b : Bool} {i : Instr} : dueIf b i = none ↔ b = false := by cases b <;> simp [dueIf]

/-- A checkpoint before the preset is due by the ticks since the last one (R81). -/
theorem BackoffTimer.checkpointDue_iff {x : BackoffTimer} (h : x.elapsed < x.preset) :
    x.checkpointDue = true ↔ x.checkpointed + 100 ≤ x.elapsed := by
  have hlast : lastMultiple x.elapsed < x.preset := Nat.lt_of_le_of_lt (Nat.sub_le _ _) h
  exact Bool.and_eq_true_iff.trans ⟨fun h => of_decide_eq_true h.1, fun h => ⟨decide_eq_true h, decide_eq_true hlast⟩⟩

theorem Atg.due_isDue (h : s.atg.due = some c) : s.isDue c := by
  unfold Atg.due at h
  split at h
  · next x hx =>
    split at h
    · next hended =>
      cases h
      exact ⟨x, hx, of_decide_eq_true hended⟩
    · next hrunning =>
      have hlt : x.elapsed < x.preset := Nat.not_le.mp fun hle => hrunning (decide_eq_true hle)
      split at h
      · next hcheckpoint =>
        cases h
        obtain ⟨hactive, hdue⟩ := Bool.and_eq_true_iff.mp hcheckpoint
        exact ⟨Option.isSome_iff_ne_none.mp hactive, x, hx, (BackoffTimer.checkpointDue_iff hlt).mp hdue, hlt⟩
      · cases h
  · cases h

/-- Where the back-off timer gives no event, neither its end nor a checkpoint is due (R80, R81). -/
theorem Atg.due_none (h : s.atg.due = none) : ¬ s.isDue .backoffEnd ∧ ¬ s.isDue .backoffCheckpoint := by
  unfold Atg.due at h
  split at h
  · next x hx =>
    split at h
    · cases h
    · next hrunning =>
      have hlt : x.elapsed < x.preset := Nat.not_le.mp fun hle => hrunning (decide_eq_true hle)
      split at h
      · cases h
      · next hcheckpoint =>
        refine ⟨fun ⟨y, hy, hended⟩ => ?_, fun ⟨hactive, y, hy, hdue, _⟩ => hcheckpoint ?_⟩
        · cases hx.symm.trans hy
          exact absurd hended (Nat.not_le.mpr hlt)
        · cases hx.symm.trans hy
          exact Bool.and_eq_true_iff.mpr
            ⟨Option.isSome_iff_ne_none.mpr hactive, (BackoffTimer.checkpointDue_iff hlt).mpr hdue⟩
  · next hnone => exact ⟨fun ⟨y, hy, _⟩ => (nomatch hnone.symm.trans hy), fun ⟨_, y, hy, _⟩ => (nomatch hnone.symm.trans hy)⟩

theorem ReplyTimer.due_iff {t : ReplyTimer} : t.due = true ↔ ∃ e, t = .running e ∧ 20 ≤ e := by
  cases t with
  | running e => exact decide_eq_true_iff.trans ⟨fun h => ⟨e, rfl, h⟩, fun ⟨_, he, h⟩ => ReplyTimer.running.inj he ▸ h⟩
  | _ => exact ⟨nofun, nofun⟩

/-- The expiry that a context's entry gives (R133, R135). -/
theorem contextDue_some {i : CtxIx} {e : ContextEntry} (h : contextDue i e = some c) :
    (∃ r o n x, e = .loading r o n (.running x) ∧ 20 ≤ x ∧ c = .keyloadReplyTimeout i) ∨
    (∃ r o x, e = .purging r o (.running x) ∧ 20 ≤ x ∧ c = .purgeReplyTimeout i) := by
  unfold contextDue at h
  split at h
  · next hdue =>
    obtain ⟨x, htimer, hx⟩ := ReplyTimer.due_iff.mp hdue
    cases e with
    | loading r o n t =>
      cases htimer
      exact .inl ⟨r, o, n, x, rfl, hx, (Option.some.inj h).symm⟩
    | purging r o t =>
      cases htimer
      exact .inr ⟨r, o, x, rfl, hx, (Option.some.inj h).symm⟩
    | _ => cases h
  · cases h

theorem contextDue_loading {i : CtxIx} {r o n x} (h : 20 ≤ x) :
    contextDue i (.loading r o n (.running x)) = some (.keyloadReplyTimeout i) :=
  if_pos (ReplyTimer.due_iff.mpr ⟨x, rfl, h⟩)

theorem contextDue_purging {i : CtxIx} {r o x} (h : 20 ≤ x) :
    contextDue i (.purging r o (.running x)) = some (.purgeReplyTimeout i) :=
  if_pos (ReplyTimer.due_iff.mpr ⟨x, rfl, h⟩)

theorem contexts_isDue (h : allCtx.findSome? (fun i => contextDue i s.cxm.entries[i]) = some c) : s.isDue c := by
  obtain ⟨i, -, hi⟩ := List.exists_of_findSome?_eq_some h
  rcases contextDue_some hi with ⟨r, o, n, x, he, hx, rfl⟩ | ⟨r, o, x, he, hx, rfl⟩
  · exact ⟨r, o, n, x, he, hx⟩
  · exact ⟨r, o, x, he, hx⟩

theorem contexts_none (h : allCtx.findSome? (fun i => contextDue i s.cxm.entries[i]) = none) (i : CtxIx) :
    ¬ s.isDue (.keyloadReplyTimeout i) ∧ ¬ s.isDue (.purgeReplyTimeout i) := by
  have hi := List.findSome?_eq_none_iff.mp h i (mem_allCtx i)
  refine ⟨fun ⟨r, o, n, x, he, hx⟩ => ?_, fun ⟨r, o, x, he, hx⟩ => ?_⟩
  · rw [he, contextDue_loading hx] at hi
    cases hi
  · rw [he, contextDue_purging hx] at hi
    cases hi

theorem Parked.due_iff {p : Parked} : p.due = true ↔ ∃ d stale e, p.state = .ready d stale e ∧ 50 ≤ e := by
  unfold Parked.due
  split
  · next d stale e h =>
    refine decide_eq_true_iff.trans ⟨fun he => ⟨d, stale, e, h, he⟩, fun ⟨_, _, _, h', he⟩ => ?_⟩
    cases h.symm.trans h'
    exact he
  · next h => simp [h]

theorem repeat_isDue (h : (s.dqq.findIdx? Parked.due).map Instr.repeatTimerExpiry = some c) : s.isDue c := by
  obtain ⟨place, hplace, rfl⟩ := Option.map_eq_some_iff.mp h
  obtain ⟨hlt, hdue, -⟩ := List.findIdx?_eq_some_iff_getElem.mp hplace
  obtain ⟨d, stale, e, hstate, he⟩ := Parked.due_iff.mp hdue
  exact ⟨_, d, stale, e, List.getElem?_eq_getElem hlt, hstate, he⟩

theorem repeat_none (h : (s.dqq.findIdx? Parked.due).map Instr.repeatTimerExpiry = none) (place : Nat) :
    ¬ s.isDue (.repeatTimerExpiry place) := by
  rintro ⟨p, d, stale, e, hp, hstate, he⟩
  have hnone := List.findIdx?_eq_none_iff.mp (Option.map_eq_none_iff.mp h) p (List.mem_of_getElem? hp)
  exact absurd (Parked.due_iff.mpr ⟨d, stale, e, hstate, he⟩) (Bool.eq_false_iff.mp hnone)

/-! ### The event that is due -/

/-- What the clock takes is due (entry 2). -/
theorem State.dueEvent_isDue (hp : s.powered = true) (h : s.dueEvent = some c) : s.isDue c := by
  unfold State.dueEvent at h
  rw [if_neg (by rw [hp]; decide)] at h
  simp only [Option.or_eq_some_iff, dueIf_eq_some] at h
  rcases h with ⟨h, rfl⟩ | ⟨-, ⟨h, rfl⟩ | ⟨-, ⟨h, rfl⟩ | ⟨-, ⟨h, rfl⟩ | ⟨-, ⟨h, rfl⟩ | ⟨-, h | ⟨-, ⟨h, rfl⟩ | ⟨-,
    ⟨h, rfl⟩ | ⟨-, ⟨h, rfl⟩ | ⟨-, h | ⟨-, h⟩⟩⟩⟩⟩⟩⟩⟩⟩⟩
  · obtain ⟨hpending, hidle⟩ := Bool.and_eq_true_iff.mp h
    exact ⟨hpending, Option.isNone_iff_eq_none.mp hidle, rfl⟩
  · exact (Bool.and_eq_true_iff.mp h).imp_left of_decide_eq_true
  · exact (Bool.and_eq_true_iff.mp h).imp_left of_decide_eq_true
  · exact h
  · exact h
  · exact Atg.due_isDue h
  · exact (Bool.and_eq_true_iff.mp h).imp_left bne_iff_ne.mp
  · exact h
  · exact h
  · exact contexts_isDue h
  · exact repeat_isDue h

/-- Where the clock takes no event, none is due (entry 2). -/
theorem State.not_isDue (hp : s.powered = true) (h : s.dueEvent = none) (c : Instr) : ¬ s.isDue c := by
  unfold State.dueEvent at h
  rw [if_neg (by rw [hp]; decide)] at h
  simp only [Option.or_eq_none_iff, dueIf_eq_none] at h
  obtain ⟨hrestart, hpairing, hchord, hentry, hstandby, hbackoff, hidle, hwindow, hsession, hcontexts, hrepeat⟩ := h
  cases c with
  | restartTakesEffect low =>
    rintro ⟨hpending, hwriting, -⟩
    simp [hpending, hwriting] at hrestart
  | pairingTimerExpiry =>
    rintro ⟨hstate, hreached⟩
    exact absurd (Bool.and_eq_true_iff.mpr ⟨decide_eq_true hstate, hreached⟩) (Bool.eq_false_iff.mp hpairing)
  | chordTimerExpiry =>
    rintro ⟨hstate, hreached⟩
    exact absurd (Bool.and_eq_true_iff.mpr ⟨decide_eq_true hstate, hreached⟩) (Bool.eq_false_iff.mp hchord)
  | entryTimerExpiry => exact Bool.eq_false_iff.mp hentry
  | standbyTimerExpiry => exact Bool.eq_false_iff.mp hstandby
  | backoffEnd => exact (Atg.due_none hbackoff).1
  | backoffCheckpoint => exact (Atg.due_none hbackoff).2
  | idleTimerExpiry =>
    rintro ⟨hpreset, hreached⟩
    simp [State.idleDue, hpreset, hreached] at hidle
  | attachWindowExpiry => exact Bool.eq_false_iff.mp hwindow
  | adminSessionExpiry => exact Bool.eq_false_iff.mp hsession
  | keyloadReplyTimeout i => exact (contexts_none hcontexts i).1
  | purgeReplyTimeout i => exact (contexts_none hcontexts i).2
  | repeatTimerExpiry place => exact repeat_none hrepeat place
  | _ => exact id

/-! ### Steps -/

theorem step_front {rest : List Instr} (h : s.pending = c :: rest) : step s = exec c { s with pending := rest } := by
  unfold step
  rw [h]

theorem step_due (h : s.pending = []) (hc : s.dueEvent = some c) : step s = exec c s := by
  unfold step
  rw [h, hc]

theorem step_tick (h : s.pending = []) (hc : s.dueEvent = none) : step s = .next s.tick := by
  unfold step
  rw [h, hc]

end

/-- Settles O1: the front command, a due expiry as the clock's choice finds it, or one tick. -/
theorem stepRunsFrontCommand : Obligations.StepRunsFrontCommand := by
  unfold Obligations.StepRunsFrontCommand
  refine ⟨fun c rest s h => step_front h, fun s h hp => ?_, fun s h hp => ⟨fun hdue => ?_, fun hnone => ?_⟩⟩
  · have hoff : ¬ s.powered = true := Bool.eq_false_iff.mp hp
    have hevent : s.dueEvent = none := if_pos (by rw [hp]; decide)
    rw [step_tick h hevent]
    exact congrArg _ (if_neg hoff)
  · obtain ⟨c, hc⟩ := hdue
    rcases hevent : s.dueEvent with _ | d
    · exact absurd hc (s.not_isDue hp hevent c)
    · exact ⟨d, s.dueEvent_isDue hp hevent, step_due h hevent⟩
  · have hevent : s.dueEvent = none := by
      rcases hevent : s.dueEvent with _ | d
      · rfl
      · exact absurd (s.dueEvent_isDue hp hevent) (hnone d)
    have htick : s.tick = { s with
      ksc := { s.ksc with pairingTimer := s.ksc.pairingTimer.tick, chordTimer := s.ksc.chordTimer.tick },
      enu := { s.enu with entryTimer := s.enu.entryTimer.tick, standbyTimer := s.enu.standbyTimer.tick },
      atg := { s.atg with timer := s.atg.timer.map BackoffTimer.tick },
      lkc := { s.lkc with sessionTimer := s.lkc.sessionTimer.tick, windowTimer := s.lkc.windowTimer.tick,
                          idleTimer := s.lkc.idleTimer.tick },
      cxm := { s.cxm with entries := tab4 (fun i => s.cxm.entries[i].tick) },
      dqq := s.dqq.map Parked.tick } := if_pos hp
    refine ⟨_, (step_tick h hevent).trans (congrArg _ htick), rfl, rfl, rfl, rfl, fun timer htimer => ?_, rfl, ?_, rfl⟩
    · have hcounts : timer s.tick = (timer s).tick := by
        rw [htick]
        simp only [timersOf, List.mem_cons, List.not_mem_nil, or_false] at htimer
        rcases htimer with rfl | rfl | rfl | rfl | rfl | rfl | rfl <;> rfl
      rw [← htick, hcounts]
      cases timer s <;> rfl
    · refine congrArg (fun v => { s.cxm with entries := v }) (Vector.ext fun i hi => ?_)
      rw [Vector.getElem_map]
      refine (tab4_get _ ⟨i, hi⟩).trans ?_
      generalize s.cxm.entries[(⟨i, hi⟩ : CtxIx)] = e
      cases e with
      | loading r o n t => cases t <;> rfl
      | purging r o t => cases t <;> rfl
      | _ => rfl

end Sys2Proof.Machine
end

section
/-! SUPPORT. SET SETTINGS: the values held and taken, and the effects of the presets' changes (R68, R83, R91, R92, R188). -/

namespace Sys2Proof.Machine

set_option Elab.async false

/-! ### Writes on their way through a lock event -/

section
variable {s : State} {e : QueueEntry} {reason : LockReason}

/-- An install keeps the writes on their way that are of no range (R111, R162). -/
theorem State.installWrites_carries (staged : Vector RangeRecord 8) (hc : ∀ k, e.cell ≠ .rng k) (l : List RangeIx) :
    ∀ s : State, s.stc.carries e → (l.foldl (fun s k => s.offerReserved (.rng k staged[k]) none) s).stc.carries e := by
  induction l with
  | nil => exact fun _ h => h
  | cons j l ih =>
    intro s h
    obtain ⟨r, hoffer, -, hadmits⟩ := s.offerReserved_eq (.rng j staged[j]) none
    rw [List.foldl_cons, hoffer]
    exact ih _ (hadmits.carries e (hc j) h)

theorem State.install_carries (hc : ∀ k, e.cell ≠ .rng k) (h : s.stc.carries e) : s.install.stc.carries e := by
  have hwrites := State.installWrites_carries s.rgt.staged hc s.rgt.changed s h
  unfold State.install
  dsimp only
  generalize s.rgt.changed.foldl (fun u k => u.offerReserved (.rng k s.rgt.staged[k]) none) s = u at *
  obtain ⟨b, c, m, halign, -⟩ := State.alignRanges_purged s.rgt.live s.rgt.staged s.rgt.changed
    { u with rgt := { u.rgt with dirty := false } }
  rw [halign]
  exact hwrites

theorem State.lockedTables_carries (hc : ∀ k, e.cell ≠ .rng k) (h : s.stc.carries e) :
    (s.lockedTables reason).stc.carries e := by
  obtain ⟨c, m, hpurge, -⟩ := s.lockKeys.purgeWhere_spec (fun r => s.lockKeys.rgt.live[r].isClosed)
  unfold State.lockedTables State.lockTables
  rw [hpurge]
  dsimp only
  split
  · exact State.install_carries hc h
  · exact h

end

/-! ### The changes of the lock timers' presets -/

/-- What a lock event, or a lock timer's new preset, leaves as it stood (R7, R91). -/
structure State.Relocked (b t : State) : Prop where
  atg : t.atg = b.atg
  cells : t.stc.cells = b.stc.cells
  cfg : t.stc.cfg = b.stc.cfg
  reply : t.ppt.reply = b.ppt.reply
  pending : ∀ f, b.ppt.isPending f = true → t.ppt.isPending f = true
  unit : t.enu.state = b.enu.state
  carries : ∀ e : QueueEntry, (∀ k, e.cell ≠ .rng k) → b.stc.carries e → t.stc.carries e

section
variable {b t u : State} {old : Nat} {reason : LockReason}

theorem State.Relocked.refl (b : State) : b.Relocked b := ⟨rfl, rfl, rfl, rfl, fun _ h => h, rfl, fun _ _ h => h⟩

theorem State.Relocked.trans (h : b.Relocked t) (k : t.Relocked u) : b.Relocked u :=
  ⟨k.atg.trans h.atg, k.cells.trans h.cells, k.cfg.trans h.cfg, k.reply.trans h.reply,
    fun f hf => k.pending f (h.pending f hf), k.unit.trans h.unit, fun e he hb => k.carries e he (h.carries e he hb)⟩

theorem State.Relocked.lkc (b : State) (l : Lkc) : b.Relocked { b with lkc := l } :=
  ⟨rfl, rfl, rfl, rfl, fun _ h => h, rfl, fun _ _ h => h⟩

theorem Enu.cancelled_state (e : Enu) : e.cancelled.state = e.state := by
  unfold Enu.cancelled
  split <;> rfl

theorem State.lockEvent_relocked (hr : reason ≠ .key ∧ reason ≠ .panel) : b.Relocked (b.lockEvent reason) := by
  by_cases hu : b.unlocked
  · obtain ⟨hcells, hcfg, -⟩ := b.lockedTables_spec reason
    rw [State.lockEvent_unlocked reason hu, State.lockProcedure_tables]
    exact ⟨rfl, hcells, hcfg, rfl, fun f hf => by simp [hf], b.enu.cancelled_state,
      fun e he h => State.lockedTables_carries he h⟩
  · by_cases hl : b.lkc.lockState = some .locked
    · rw [State.lockEvent_locked reason hl, State.lockedEvent_eq, if_neg (not_or.mpr hr)]
      exact ⟨rfl, rfl, rfl, rfl, fun _ h => h, rfl, fun _ _ h => h⟩
    · rw [State.lockEvent_closed reason hu hl]
      exact .refl b

theorem State.lockEvent_closedDown (hu : b.unlocked) (hr : reason ≠ .erase) : (b.lockEvent reason).closedDown :=
  (State.lockEvent_lockedFrom (P := False) (s := b) (u := b) ⟨hu, rfl, rfl, rfl, rfl, rfl, rfl, rfl, rfl⟩ hr).1.closed

theorem State.idlePresetChanged_relocked : b.Relocked (b.idlePresetChanged old) := by
  unfold State.idlePresetChanged State.idleExpiry
  dsimp only
  split
  · exact .refl b
  split
  · exact .lkc b _
  split
  · exact .lkc b _
  split
  · split
    · exact (State.Relocked.lkc b _).trans (State.lockEvent_relocked (by decide))
    · exact .refl b
  · exact .refl b

theorem State.windowPresetChanged_relocked : b.Relocked (b.windowPresetChanged old) := by
  unfold State.windowPresetChanged State.windowExpiry
  dsimp only
  split
  · split
    · exact (State.Relocked.lkc b _).trans (State.lockEvent_relocked (by decide))
    · exact .refl b
  · exact .refl b

/-- A new idle preset that the running timer has reached locks the drive (R91). -/
theorem State.idlePresetChanged_ends (hl : b.lkc.lockState = some .opened) (hne : b.stc.cfg.idle ≠ old)
    (hnew : b.stc.cfg.idle ≠ 0) (hold : old ≠ 0) (hreached : b.lkc.idleTimer.reached (1000 * b.stc.cfg.idle) = true) :
    (b.idlePresetChanged old).closedDown := by
  have hexpiry : b.idlePresetChanged old = { b with lkc := { b.lkc with idleTimer := .held } }.lockEvent .idle := by
    unfold State.idlePresetChanged
    dsimp only
    rw [if_neg (by simp [hl, hne]), if_neg hnew, if_neg hold, if_pos hreached]
    exact if_pos (by simp [State.idleDue, hnew, hreached])
  rw [hexpiry]
  exact State.lockEvent_closedDown (.inr hl) (by decide)

/-- Any other change of the idle preset acts on the timer alone (R92). -/
theorem State.idlePresetChanged_stands (h : ¬ (b.lkc.lockState = some .opened ∧ b.stc.cfg.idle ≠ old ∧
    b.stc.cfg.idle ≠ 0 ∧ old ≠ 0 ∧ b.lkc.idleTimer.reached (1000 * b.stc.cfg.idle) = true)) :
    b.idlePresetChanged old = { b with lkc := { b.lkc with
      idleTimer := if b.lkc.lockState = some .opened ∧ b.stc.cfg.idle ≠ old then
          (if b.stc.cfg.idle = 0 then .held else if old = 0 then .running 0 else b.lkc.idleTimer)
        else b.lkc.idleTimer } } := by
  unfold State.idlePresetChanged
  dsimp only
  by_cases hacts : b.lkc.lockState = some .opened ∧ b.stc.cfg.idle ≠ old
  · rw [if_neg (by simp [hacts]), if_pos hacts]
    by_cases hnew : b.stc.cfg.idle = 0
    · rw [if_pos hnew, if_pos hnew]
    · rw [if_neg hnew, if_neg hnew]
      by_cases hold : old = 0
      · rw [if_pos hold, if_pos hold]
      · rw [if_neg hold, if_neg hold, if_neg fun hreached => h ⟨hacts.1, hacts.2, hnew, hold, hreached⟩]
  · rw [if_pos (by by_contra hn; simp at hn; exact hacts hn), if_neg hacts]

theorem State.windowPresetChanged_ends (hu : b.unlocked) (hne : b.stc.cfg.window ≠ old)
    (hreached : b.lkc.windowTimer.reached (1000 * b.stc.cfg.window) = true) : (b.windowPresetChanged old).closedDown := by
  have hexpiry : b.windowPresetChanged old = { b with lkc := { b.lkc with windowTimer := .stopped } }.lockEvent .window :=
    (if_pos (by simp [hne, hreached])).trans (if_pos hreached)
  rw [hexpiry]
  exact State.lockEvent_closedDown hu (by decide)

theorem State.windowPresetChanged_stands
    (h : ¬ (b.stc.cfg.window ≠ old ∧ b.lkc.windowTimer.reached (1000 * b.stc.cfg.window) = true)) :
    b.windowPresetChanged old = b := if_neg (by simpa using h)

theorem State.closedDown.windowPresetChanged (h : b.closedDown) : (b.windowPresetChanged old).closedDown := by
  have hstopped : b.lkc.windowTimer = .stopped := by
    obtain ⟨-, -, -, -, -, -, hw, -⟩ := h
    exact hw
  rwa [State.windowPresetChanged_stands (by rw [hstopped]; exact fun h => nomatch h.2)]

end

/-! ### The change of the back-off's settings -/

/-- What the change of F, B and C leaves as it stood (R83). -/
structure State.Rebacked (v b : State) (old : Settings) : Prop where
  frame : ∃ a q e p, b = { v with atg := a, stc := q, enu := e, ppt := p }
  counter : b.atg.counter = v.atg.counter
  cells : b.stc.cells = v.stc.cells
  cfg : b.stc.cfg = v.stc.cfg
  reply : b.ppt.reply = v.ppt.reply
  carries : ∀ e : QueueEntry, e.cell ≠ .bko → v.stc.carries e → b.stc.carries e
  stands : v.stc.cfg.F = old.F → v.stc.cfg.B = old.B → v.stc.cfg.C = old.C → b = v
  ends : ∀ x a, v.atg.timer = some x → v.atg.bko.active = some a →
    (v.stc.cfg.F ≠ old.F ∨ v.stc.cfg.B ≠ old.B ∨ v.stc.cfg.C ≠ old.C) →
    (a.count ≤ v.stc.cfg.F ∨ backoffPreset v.stc.cfg a.count ≤ x.elapsed) →
    b.atg = { v.atg with timer := none, bko := { v.atg.bko with active := none } } ∧
    b.ppt.isPending .holdoffEnded = true ∧ (v.enu.state = .holdoff → b.enu.state = .idle) ∧
    (v.stc.reserve = [] → ∃ e, b.stc.carries e ∧ e.write = .bko b.atg.bko)
  renewed : ∀ x a, v.atg.timer = some x → v.atg.bko.active = some a →
    (v.stc.cfg.F ≠ old.F ∨ v.stc.cfg.B ≠ old.B ∨ v.stc.cfg.C ≠ old.C) →
    v.stc.cfg.F < a.count → x.elapsed < backoffPreset v.stc.cfg a.count →
    b.atg = { v.atg with timer := some { x with preset := backoffPreset v.stc.cfg a.count } } ∧ b.enu.state = v.enu.state

theorem State.recomputeBackoff_eq {v : State} {x : BackoffTimer} {a : ActiveBackoff} (hx : v.atg.timer = some x)
    (ha : v.atg.bko.active = some a) : v.recomputeBackoff =
      if a.count ≤ v.stc.cfg.F ∨ backoffPreset v.stc.cfg a.count ≤ x.elapsed then v.endBackoff
      else { v with atg := { v.atg with timer := some { x with preset := backoffPreset v.stc.cfg a.count } } } := by
  unfold State.recomputeBackoff
  rw [hx, ha]
  simp only [Bool.or_eq_true, decide_eq_true_eq]

theorem State.backoffSettingsChanged_rebacked (v : State) (old : Settings) :
    v.Rebacked (v.backoffSettingsChanged old) old := by
  by_cases hchanged : v.stc.cfg.F ≠ old.F ∨ v.stc.cfg.B ≠ old.B ∨ v.stc.cfg.C ≠ old.C
  · have heq : v.backoffSettingsChanged old = v.recomputeBackoff :=
      if_pos (by simpa [or_assoc] using hchanged)
    have hsame (P : Prop) : v.stc.cfg.F = old.F → v.stc.cfg.B = old.B → v.stc.cfg.C = old.C → P :=
      fun hF hB hC => (hchanged.elim (· hF) (Or.elim · (· hB) (· hC))).elim
    rw [heq]
    by_cases hrunning : ∃ x a, v.atg.timer = some x ∧ v.atg.bko.active = some a
    · obtain ⟨x, a, hx, ha⟩ := hrunning
      rw [State.recomputeBackoff_eq hx ha]
      by_cases hends : a.count ≤ v.stc.cfg.F ∨ backoffPreset v.stc.cfg a.count ≤ x.elapsed
      · obtain ⟨r, hend, hcfg, hadmits, hsends⟩ := v.endBackoff_offers
        rw [if_pos hends, hend]
        refine ⟨⟨_, _, _, _, rfl⟩, rfl, hadmits.cells, hcfg, rfl, hadmits.carries, hsame _, fun y c hy hc _ _ => ?_,
          fun y c hy hc _ hF hP => ?_⟩
        · exact ⟨rfl, by simp, fun h => by rw [if_pos h]; rfl,
            fun h => (hsends (Stc.hasRoom_guard_of_nil h rfl)).exists⟩
        · cases hx.symm.trans hy
          cases ha.symm.trans hc
          omega
      · rw [if_neg hends]
        refine ⟨⟨_, _, _, _, rfl⟩, rfl, rfl, rfl, rfl, fun _ _ h => h, hsame _, fun y c hy hc _ h => ?_,
          fun y c hy hc _ _ _ => ?_⟩
        · cases hx.symm.trans hy
          cases ha.symm.trans hc
          exact absurd h hends
        · cases hx.symm.trans hy
          cases ha.symm.trans hc
          exact ⟨rfl, rfl⟩
    · have hstand : v.recomputeBackoff = v := by
        unfold State.recomputeBackoff
        split
        · next x a hx ha => exact absurd ⟨x, a, hx, ha⟩ hrunning
        · rfl
      rw [hstand]
      exact ⟨⟨_, _, _, _, rfl⟩, rfl, rfl, rfl, rfl, fun _ _ h => h, hsame _,
        fun x a hx ha _ _ => absurd ⟨x, a, hx, ha⟩ hrunning, fun x a hx ha _ _ _ => absurd ⟨x, a, hx, ha⟩ hrunning⟩
  · have hstand : v.backoffSettingsChanged old = v := if_neg (by simpa [or_assoc] using hchanged)
    rw [hstand]
    exact ⟨⟨_, _, _, _, rfl⟩, rfl, rfl, rfl, rfl, fun _ _ h => h, fun _ _ _ => rfl,
      fun _ _ _ _ h => absurd h hchanged, fun _ _ _ _ h => absurd h hchanged⟩

end Sys2Proof.Machine
end

section
/-! SUPPORT. The values that SET SETTINGS holds and takes (R68, R188). -/

namespace Sys2Proof.Machine

set_option Elab.async false

/-! ### Held and taken values -/

section
variable (c : Settings) (field : Byte) (v : BitVec 16)

/-- A single field is taken: in its range, and leaving W at least F+2 where it is one of the pair (R188). -/
def Settings.takes : Prop :=
  settingInRange field v = true ∧ (isPairField field = true → (c.setField field v).F + 2 ≤ (c.setField field v).W)

variable {c field v}

theorem keptSettings_taken (h : c.takes field v) : keptSettings c [(field, v)] = [(field, v)] := by
  obtain ⟨hrange, hpair⟩ := h
  unfold keptSettings
  simp only [List.filter_cons, hrange, if_true, List.filter_nil, Settings.apply, List.foldl_cons, List.foldl_nil]
  split
  · rfl
  · next hbreaks =>
    have hnot : isPairField field = false := Bool.eq_false_iff.mpr fun hp => hbreaks (hpair hp)
    simp [hnot]

theorem keptSettings_held (h : ¬ c.takes field v) : keptSettings c [(field, v)] = [] := by
  unfold keptSettings
  by_cases hrange : settingInRange field v = true
  · have hpair : isPairField field = true ∧ ¬ (c.setField field v).F + 2 ≤ (c.setField field v).W := by
      by_contra hn
      exact h ⟨hrange, fun hp => by_contra fun hb => hn ⟨hp, hb⟩⟩
    simp only [List.filter_cons, hrange, if_true, List.filter_nil, Settings.apply, List.foldl_cons, List.foldl_nil]
    rw [if_neg hpair.2]
    simp [hpair.1]
  · simp [hrange]

theorem heldList_taken (h : c.takes field v) : heldList c [(field, v)] = 0 := by
  simp [heldList, keptSettings_taken h]

theorem heldList_held (h : ¬ c.takes field v) : heldList c [(field, v)] = fieldBit field := by
  simp [heldList, keptSettings_held h]

theorem fieldBit_eq (hleast : 1 ≤ field.toNat) (hmost : field.toNat ≤ 7) :
    fieldBit field = BitVec.ofNat 8 (2 ^ (field.toNat - 1)) := by
  have hcases : field = 1#8 ∨ field = 2#8 ∨ field = 3#8 ∨ field = 4#8 ∨ field = 5#8 ∨ field = 6#8 ∨ field = 7#8 := by
    simp only [← BitVec.toNat_inj, BitVec.toNat_ofNat]
    omega
  rcases hcases with rfl | rfl | rfl | rfl | rfl | rfl | rfl <;> rfl

end

section
variable {c : Settings} {f w : BitVec 16}

/-- F and W named together, the values that are in range (R68). -/
def Settings.withPair (c : Settings) (f w : BitVec 16) : Settings :=
  { c with F := if 1 ≤ f.toNat ∧ f.toNat ≤ 18 then f.toNat else c.F,
           W := if 3 ≤ w.toNat ∧ w.toNat ≤ 20 then w.toNat else c.W }

theorem settingInRange_F (f : BitVec 16) : settingInRange 1#8 f = decide (1 ≤ f.toNat ∧ f.toNat ≤ 18) := by
  simp [settingInRange]

theorem settingInRange_W (w : BitVec 16) : settingInRange 2#8 w = decide (3 ≤ w.toNat ∧ w.toNat ≤ 20) := by
  simp [settingInRange]

/-- Of F and W named together those out of range are held, and both where the pair that would result breaks W ≥ F+2
(R68, R188). -/
theorem keptSettings_pair (c : Settings) (f w : BitVec 16) :
    ((c.withPair f w).F + 2 ≤ (c.withPair f w).W →
      c.apply (keptSettings c [(0x01, f), (0x02, w)]) = c.withPair f w ∧
      heldList c [(0x01, f), (0x02, w)] = (if 1 ≤ f.toNat ∧ f.toNat ≤ 18 then 0 else 1) |||
        (if 3 ≤ w.toNat ∧ w.toNat ≤ 20 then 0 else 2)) ∧
    ((c.withPair f w).W < (c.withPair f w).F + 2 →
      c.apply (keptSettings c [(0x01, f), (0x02, w)]) = c ∧ heldList c [(0x01, f), (0x02, w)] = 0x03) := by
  have happly : c.apply ([(0x01, f), (0x02, w)].filter (fun e => settingInRange e.1 e.2)) = c.withPair f w := by
    by_cases hF : 1 ≤ f.toNat ∧ f.toNat ≤ 18 <;> by_cases hW : 3 ≤ w.toNat ∧ w.toNat ≤ 20 <;>
      simp [settingInRange_F, settingInRange_W, Settings.apply, Settings.setField, Settings.withPair, hF, hW]
  have hnone : ([(0x01, f), (0x02, w)].filter (fun e => settingInRange e.1 e.2)).filter (fun e => !isPairField e.1) = [] := by
    rw [List.filter_filter]
    simp [isPairField]
  refine ⟨fun h => ?_, fun h => ?_⟩
  · have hkept : keptSettings c [(0x01, f), (0x02, w)] =
        [(0x01, f), (0x02, w)].filter (fun e => settingInRange e.1 e.2) := by
      unfold keptSettings
      dsimp only
      rw [happly, if_pos h]
    refine ⟨by rw [hkept, happly], ?_⟩
    unfold heldList
    rw [hkept]
    by_cases hF : 1 ≤ f.toNat ∧ f.toNat ≤ 18 <;> by_cases hW : 3 ≤ w.toNat ∧ w.toNat ≤ 20 <;>
      simp [settingInRange_F, settingInRange_W, hF, hW, fieldBit]
  · have hkept : keptSettings c [(0x01, f), (0x02, w)] = [] := by
      unfold keptSettings
      dsimp only
      rw [happly, if_neg (Nat.not_le.mpr h), hnone]
    refine ⟨by rw [hkept]; rfl, ?_⟩
    unfold heldList
    rw [hkept]
    simp [fieldBit]

end

/-! ### The action -/

section
variable {s : State} {entries : List (Byte × BitVec 16)}

theorem exec_setSettings_act (hp : s.powered = true) (ha : s.admits .admin) (hleast : 1 ≤ entries.length)
    (hmost : entries.length ≤ 7) (hcoded : settingsCoded entries = true) :
    exec (.setSettings entries) s = .next (s.requestTaken.setSettingsAct entries).settleStandby :=
  exec_request (fun r => settingsReply r 0) (fun s => s.setSettingsAct entries) hp ha
    ((exec_setSettings (by simp [hleast, hmost]) s).trans (by rw [hcoded]))

/-- The settings as the request leaves them (R188). -/
def Settings.requested (c : Settings) (entries : List (Byte × BitVec 16)) : Settings := c.apply (keptSettings c entries)

/-- A request whose write the store refuses (R188). -/
theorem State.setSettingsAct_refused (hcount : 5 ≤ settingsCount s.stc.queue) (hqueue : holdsCell s.stc.queue .cfg = false)
    (hreserve : holdsCell s.stc.reserve .cfg = false) :
    s.setSettingsAct entries = s.setReply (settingsReply .busy 0) := by
  have hoffer : s.offer .ordinary (.cfg (s.stc.cfg.requested entries)) none = (s, false) :=
    State.offer_of_refusal (Stc.admission_refused rfl (.inl hcount) hqueue hreserve)
  unfold Settings.requested at hoffer
  unfold State.setSettingsAct
  dsimp only
  rw [hoffer]
  exact if_neg Bool.false_ne_true

/-- A request whose write is admitted: the working copy and the write first, then the effects (R188; entry 16). -/
theorem State.setSettingsAct_admitted (hcount : settingsCount s.stc.queue < 5) (hreserve : s.stc.reserve = []) :
    ∃ r, s.setSettingsAct entries =
        ({ s with stc := r }.answerAdmin (settingsReply .accepted (heldList s.stc.cfg entries))).settingsEffects s.stc.cfg ∧
      r.cfg = s.stc.cfg.requested entries ∧ r.cells = s.stc.cells ∧ r.reserve = [] ∧
      ∃ e, r.carries e ∧ e.write = .cfg r.cfg := by
  obtain ⟨r, hoffer, hcfg, hadmits, hsends, hnil⟩ := State.offer_hasRoom (k := .ordinary) (a := none)
    (w := .cfg (s.stc.cfg.requested entries)) (Stc.hasRoom_of_free hcount hreserve _)
  refine ⟨r, ?_, hcfg, hadmits.cells, hnil hreserve, ?_⟩
  · unfold Settings.requested at hoffer
    unfold State.setSettingsAct
    dsimp only
    rw [hoffer]
    exact if_pos rfl
  · rw [hcfg]
    exact hsends.exists

end

/-! ### The effects -/

section
variable {s : State} {entries : List (Byte × BitVec 16)}

/-- The settings' effects by their three parts (R83, R91, R188; entry 16). -/
theorem State.settingsEffects_eq (v : State) (old : Settings) : v.settingsEffects old =
    ((v.backoffSettingsChanged old).idlePresetChanged old.idle).windowPresetChanged old.window := rfl

/-- Settings that no timer reads have no effect beyond the store (R83, R91). -/
theorem State.settingsEffects_stands {v : State} {old : Settings} (hF : v.stc.cfg.F = old.F) (hB : v.stc.cfg.B = old.B)
    (hC : v.stc.cfg.C = old.C) (hidle : v.stc.cfg.idle = old.idle) (hwindow : v.stc.cfg.window = old.window) :
    v.settingsEffects old = v := by
  have hstand : v.idlePresetChanged old.idle = v := if_pos (by simp [hidle])
  rw [State.settingsEffects_eq, (v.backoffSettingsChanged_rebacked old).stands hF hB hC, hstand,
    State.windowPresetChanged_stands fun h => h.1 hwindow]

/-- A request taken, before its effects: the settings in the store, the reply, the session timer (R17, R188). -/
def State.settingsTaken (s : State) (q : Stc) (held : Byte) : State :=
  { s.requestTaken with stc := q }.answerAdmin (settingsReply .accepted held)

/-- A request whose write is admitted, as its effects meet it (R188; entry 16). -/
theorem exec_setSettings_admitted (hp : s.powered = true) (ha : s.admits .admin) (hleast : 1 ≤ entries.length)
    (hmost : entries.length ≤ 7) (hcoded : settingsCoded entries = true) (hcount : settingsCount s.stc.queue < 5)
    (hreserve : s.stc.reserve = []) : ∃ q, exec (.setSettings entries) s =
      .next ((s.settingsTaken q (heldList s.stc.cfg entries)).settingsEffects s.stc.cfg).settleStandby ∧
    q.cfg = s.stc.cfg.requested entries ∧ q.cells = s.stc.cells ∧ q.reserve = [] ∧
    ∃ e, q.carries e ∧ e.write = .cfg q.cfg := by
  obtain ⟨q, hact, hq⟩ := State.setSettingsAct_admitted (s := s.requestTaken) (entries := entries)
    (by rwa [State.requestTaken_stc]) (by rwa [State.requestTaken_stc])
  rw [State.requestTaken_stc] at hact hq
  exact ⟨q, (exec_setSettings_act hp ha hleast hmost hcoded).trans (by rw [hact]; rfl), hq⟩

/-- What the effects leave of the store and the reply (R83, R91). -/
theorem State.settingsEffects_store (v : State) (old : Settings) :
    (v.settingsEffects old).stc.cfg = v.stc.cfg ∧ (v.settingsEffects old).stc.cells = v.stc.cells ∧
    (v.settingsEffects old).ppt.reply = v.ppt.reply ∧ (v.settingsEffects old).atg.counter = v.atg.counter ∧
    ((v.settingsEffects old).atg = (v.backoffSettingsChanged old).atg) ∧
    ∀ e : QueueEntry, e.cell = .cfg → v.stc.carries e → (v.settingsEffects old).stc.carries e := by
  have hback := v.backoffSettingsChanged_rebacked old
  have hlock : (v.backoffSettingsChanged old).Relocked (v.settingsEffects old) :=
    State.idlePresetChanged_relocked.trans State.windowPresetChanged_relocked
  exact ⟨hlock.cfg.trans hback.cfg, hlock.cells.trans hback.cells, hlock.reply.trans hback.reply,
    (congrArg Atg.counter hlock.atg).trans hback.counter, hlock.atg, fun e he h =>
      hlock.carries e (fun k => by rw [he]; nofun) (hback.carries e (by rw [he]; nofun) h)⟩

/-- The effects of the lock timers' presets: what closes the drive, and what otherwise stands (R91, R92). -/
theorem State.settingsEffects_presets (v : State) (old : Settings) {idleEnds windowEnds : Prop}
    (hidle : idleEnds ↔ v.lkc.lockState = some .opened ∧ v.stc.cfg.idle ≠ old.idle ∧ v.stc.cfg.idle ≠ 0 ∧ old.idle ≠ 0 ∧
      v.lkc.idleTimer.reached (1000 * v.stc.cfg.idle) = true)
    (hwindow : windowEnds ↔ v.stc.cfg.window ≠ old.window ∧
      v.lkc.windowTimer.reached (1000 * v.stc.cfg.window) = true) :
    ((idleEnds ∨ (windowEnds ∧ v.unlocked)) → (v.settingsEffects old).closedDown) ∧
    (¬ idleEnds → ¬ windowEnds → v.sameExcept (v.settingsEffects old) [.stc, .lkc, .ppt, .atg, .enu] ∧
      (v.settingsEffects old).lkc = { v.lkc with
        idleTimer := if v.lkc.lockState = some .opened ∧ v.stc.cfg.idle ≠ old.idle then
            (if v.stc.cfg.idle = 0 then .held else if old.idle = 0 then .running 0 else v.lkc.idleTimer)
          else v.lkc.idleTimer }) := by
  have hback := v.backoffSettingsChanged_rebacked old
  have hlkc : (v.backoffSettingsChanged old).lkc = v.lkc := v.backoffSettingsChanged_lkc old
  have hcfg := hback.cfg
  rw [State.settingsEffects_eq]
  rw [hidle, hwindow]
  have hsame : v.sameExcept (v.backoffSettingsChanged old) [.stc, .ppt, .atg, .enu] := by
    obtain ⟨a, q, e, p, hb⟩ := hback.frame
    rw [hb]
    simp [State.sameExcept_iff]
  generalize v.backoffSettingsChanged old = b at *
  have hunlocked : b.unlocked ↔ v.unlocked := by unfold State.unlocked; rw [hlkc]
  rw [← hlkc, ← hcfg, ← hunlocked]
  refine ⟨fun h => ?_, fun hni hnw => ?_⟩
  · by_cases hends : b.lkc.lockState = some .opened ∧ b.stc.cfg.idle ≠ old.idle ∧ b.stc.cfg.idle ≠ 0 ∧ old.idle ≠ 0 ∧
        b.lkc.idleTimer.reached (1000 * b.stc.cfg.idle) = true
    · obtain ⟨hl, hne, hnew, hold, hreached⟩ := hends
      exact (State.idlePresetChanged_ends hl hne hnew hold hreached).windowPresetChanged
    · obtain ⟨⟨hne, hreached⟩, hu⟩ := h.resolve_left hends
      rw [State.idlePresetChanged_stands hends]
      exact State.windowPresetChanged_ends hu hne hreached
  · rw [State.idlePresetChanged_stands hni, State.windowPresetChanged_stands (by exact hnw)]
    refine ⟨(hsame.trans (u := { b with lkc := _ }) (M := [.lkc]) (by simp [State.sameExcept_iff])).mono (by simp), rfl⟩

end

/-! ### The obligation -/

section
variable {s : State} {field : Byte} {v : BitVec 16}

/-- A request for one field (R188). -/
theorem settings_single (hp : s.powered = true) (ha : s.admits .admin) (hleast : 1 ≤ field.toNat)
    (hmost : field.toNat ≤ 7) (hcount : settingsCount s.stc.queue < 5) (hreserve : s.stc.reserve = []) :
    ∃ t, exec (.setSettings [(field, v)]) s = .next t ∧ t.stc.cells = s.stc.cells ∧
      (∃ e, t.stc.carries e ∧ e.write = .cfg t.stc.cfg) ∧
      (s.stc.cfg.takes field v →
        t.stc.cfg = s.stc.cfg.setField field v ∧ t.ppt.reply = { type := 0x94, payload := [0x00, 0x00] }) ∧
      (¬ s.stc.cfg.takes field v → t.stc.cfg = s.stc.cfg ∧
        t.ppt.reply = { type := 0x94, payload := [0x00, BitVec.ofNat 8 (2 ^ (field.toNat - 1))] }) ∧
      ((field = 0x02 ∨ field = 0x07) → s.requestTaken.sameExcept t [.stc, .lkc, .ppt] ∧
        t.lkc = { s.lkc with sessionTimer := s.lkc.sessionTimer.restarted }) := by
  obtain ⟨q, hexec, hcfg, hcells, -, e, he, hwrite⟩ := exec_setSettings_admitted (entries := [(field, v)]) hp ha
    (by simp) (by simp) (by simp [settingsCoded, hleast, hmost]) hcount hreserve
  have hstore := (s.settingsTaken q (heldList s.stc.cfg [(field, v)])).settingsEffects_store s.stc.cfg
  obtain ⟨htcfg, htcells, hreply, -, -, hcarries⟩ := hstore
  have hcell : e.cell = .cfg := by rw [QueueEntry.cell, hwrite]; rfl
  refine ⟨_, hexec, htcells.trans hcells, ⟨e, hcarries e hcell he, hwrite.trans (congrArg _ htcfg.symm)⟩,
    fun h => ?_, fun h => ?_, fun hfield => ?_⟩
  · refine ⟨htcfg.trans (hcfg.trans (congrArg s.stc.cfg.apply (keptSettings_taken h))), hreply.trans ?_⟩
    rw [heldList_taken h]
    rfl
  · refine ⟨htcfg.trans (hcfg.trans (congrArg s.stc.cfg.apply (keptSettings_held h))), hreply.trans ?_⟩
    rw [heldList_held h, fieldBit_eq hleast hmost]
    rfl
  · have hstands : q.cfg.F = s.stc.cfg.F ∧ q.cfg.B = s.stc.cfg.B ∧ q.cfg.C = s.stc.cfg.C ∧
        q.cfg.idle = s.stc.cfg.idle ∧ q.cfg.window = s.stc.cfg.window := by
      rw [hcfg, Settings.requested]
      by_cases h : s.stc.cfg.takes field v
      · rw [keptSettings_taken h]
        rcases hfield with rfl | rfl <;> exact ⟨rfl, rfl, rfl, rfl, rfl⟩
      · rw [keptSettings_held h]
        exact ⟨rfl, rfl, rfl, rfl, rfl⟩
    obtain ⟨hF, hB, hC, hidle, hwindow⟩ := hstands
    rw [State.settingsEffects_stands (by exact hF) (by exact hB) (by exact hC) (by exact hidle) (by exact hwindow)]
    have hframe : s.requestTaken.sameExcept { s.requestTaken with stc := q } [.stc] := by simp [State.sameExcept_iff]
    obtain ⟨hsame, hlkc, -⟩ := State.answerAdmin_frame hframe (by simp) (by simp)
      (settingsReply .accepted (heldList s.stc.cfg [(field, v)]))
    exact ⟨hsame, hlkc⟩

/-- A request for F and W together (R68, R188). -/
theorem settings_pair {f w : BitVec 16} (hp : s.powered = true) (ha : s.admits .admin)
    (hcount : settingsCount s.stc.queue < 5) (hreserve : s.stc.reserve = []) :
    ∃ t, exec (.setSettings [(0x01, f), (0x02, w)]) s = .next t ∧ t.stc.cells = s.stc.cells ∧
      ((s.stc.cfg.withPair f w).F + 2 ≤ (s.stc.cfg.withPair f w).W →
        t.stc.cfg = s.stc.cfg.withPair f w ∧ t.ppt.reply = { type := 0x94, payload :=
          [0x00, (if 1 ≤ f.toNat ∧ f.toNat ≤ 18 then 0 else 1) ||| (if 3 ≤ w.toNat ∧ w.toNat ≤ 20 then 0 else 2)] }) ∧
      ((s.stc.cfg.withPair f w).W < (s.stc.cfg.withPair f w).F + 2 →
        t.stc.cfg = s.stc.cfg ∧ t.ppt.reply = { type := 0x94, payload := [0x00, 0x03] }) := by
  obtain ⟨q, hexec, hcfg, hcells, -⟩ := exec_setSettings_admitted (entries := [(0x01, f), (0x02, w)]) hp ha
    (by simp) (by simp) (by simp [settingsCoded]) hcount hreserve
  obtain ⟨htcfg, htcells, hreply, -⟩ :=
    (s.settingsTaken q (heldList s.stc.cfg [(0x01, f), (0x02, w)])).settingsEffects_store s.stc.cfg
  obtain ⟨hkept, hheld⟩ := keptSettings_pair s.stc.cfg f w
  refine ⟨_, hexec, htcells.trans hcells, fun h => ?_, fun h => ?_⟩
  · refine ⟨htcfg.trans (hcfg.trans (hkept h).1), hreply.trans ?_⟩
    rw [(hkept h).2]
    rfl
  · refine ⟨htcfg.trans (hcfg.trans (hheld h).1), hreply.trans ?_⟩
    rw [(hheld h).2]
    rfl

end

/-- Settles O58: the values by the held list, the write by its admission, and the effects in their order. -/
theorem settingsTaken : Obligations.SettingsTaken := by
  unfold Obligations.SettingsTaken
  intro s hp ha
  refine ⟨fun field v hleast hmost _ hcount hreserve => settings_single hp ha hleast hmost hcount hreserve,
    fun f w hcount hreserve => ?_, fun entries hleast hmost hcoded hcount hqueue hreserve => ?_,
    fun entries hleast hmost hcoded hcount hreserve => ?_⟩
  · obtain ⟨t, hexec, hcells, hkept, hheld⟩ := settings_pair hp ha hcount hreserve
    refine ⟨t, hexec, hcells, fun F W hF hW => ?_⟩
    subst hF hW
    exact ⟨hkept, hheld⟩
  · refine ⟨_, exec_setSettings_act hp ha hleast hmost hcoded, ?_⟩
    rw [State.setSettingsAct_refused (by rwa [State.requestTaken_stc]) (by rwa [State.requestTaken_stc])
      (by rwa [State.requestTaken_stc])]
    exact ⟨State.sameExcept.settled (by simp [State.sameExcept_iff, State.setReply]), rfl⟩
  · obtain ⟨q, hexec, -, -, hempty, -⟩ := exec_setSettings_admitted hp ha hleast hmost hcoded hcount hreserve
    have hvatg : (s.settingsTaken q (heldList s.stc.cfg entries)).atg = s.atg := s.requestTaken_atg
    have hvlkc : (s.settingsTaken q (heldList s.stc.cfg entries)).lkc =
        { s.lkc with sessionTimer := s.lkc.sessionTimer.restarted } := congrArg Lkc.touchSession s.requestTaken_lkc
    have hvunit : (s.settingsTaken q (heldList s.stc.cfg entries)).enu.state = s.enu.state := s.requestTaken_enu_state
    have hvcfg : (s.settingsTaken q (heldList s.stc.cfg entries)).stc = q := rfl
    have hvsame : s.requestTaken.sameExcept (s.settingsTaken q (heldList s.stc.cfg entries)) [.stc, .lkc, .ppt] := by
      simp [State.sameExcept_iff, State.settingsTaken, State.answerAdmin, State.touchSession, State.setReply]
    generalize s.settingsTaken q (heldList s.stc.cfg entries) = v at *
    have hback := v.backoffSettingsChanged_rebacked s.stc.cfg
    have hlock : (v.backoffSettingsChanged s.stc.cfg).Relocked (v.settingsEffects s.stc.cfg) :=
      State.idlePresetChanged_relocked.trans State.windowPresetChanged_relocked
    obtain ⟨hcfg, -, -, hcounter, hatg, -⟩ := v.settingsEffects_store s.stc.cfg
    have hvu : v.unlocked ↔ s.unlocked := by unfold State.unlocked; rw [hvlkc]
    refine ⟨_, hexec, hcounter.trans (congrArg Atg.counter hvatg), ?_, ?_, ?_⟩
    · simp only [State.settleStandby_stc, State.settleStandby_atg, hcfg, hatg, ← hvatg]
      exact fun hF hB hC => congrArg State.atg (hback.stands hF hB hC)
    · simp only [State.settleStandby_stc, State.settleStandby_atg, State.settleStandby_ppt, hcfg, hatg, ← hvatg, ← hvunit]
      intro x a hx hact hchanged
      refine ⟨fun hends => ?_, fun hF hpreset => ?_⟩
      · obtain ⟨hbatg, hpending, hunit, hwrite⟩ := hback.ends x a hx hact hchanged hends
        obtain ⟨e, he, hw⟩ := hwrite (hvcfg ▸ hempty)
        exact ⟨hbatg, hlock.pending _ hpending, fun h => hlock.unit.trans (hunit h), e,
          hlock.carries e (fun k => by rw [QueueEntry.cell, hw]; nofun) he, hw⟩
      · obtain ⟨hbatg, hunit⟩ := hback.renewed x a hx hact hchanged hF hpreset
        exact ⟨hbatg, hlock.unit.trans hunit⟩
    · simp only [State.settleStandby_stc, State.settleStandby_lkc, hcfg]
      intro idleEnds windowEnds hidle hwindow
      obtain ⟨hcloses, hstands⟩ := v.settingsEffects_presets s.stc.cfg (idleEnds := idleEnds) (windowEnds := windowEnds)
        (by rw [hvlkc, hidle]) (by rw [hvlkc, hwindow])
      rw [hvu, hvlkc] at *
      refine ⟨hcloses, fun hni hnw => ?_⟩
      obtain ⟨hsame, hlkc⟩ := hstands hni hnw
      exact ⟨((hvsame.trans hsame).settled).mono (by simp), hlkc⟩

end Sys2Proof.Machine
end

section
/-! SUPPORT. What the writes of one event make of the store, its working sequences included (R160, R162 to R165). -/

namespace Sys2Proof.Machine

set_option Elab.async false

/-! ### Working sequences -/

/-- The cell at a place of the working sequences. -/
def cellAt (i : Fin 18) : Cell :=
  #v[.att, .bko, .ejr, .slt 0, .slt 1, .slt 2, .slt 3, .slt 4, .rng 0, .rng 1, .rng 2, .rng 3, .rng 4, .rng 5, .rng 6,
     .rng 7, .cfg, .idn][i]

theorem cellAt_index (c : Cell) : cellAt c.index = c := by
  cases c with
  | slt k => fin_cases k <;> rfl
  | rng k => fin_cases k <;> rfl
  | _ => rfl

theorem Cell.index_injective : Function.Injective Cell.index := Function.LeftInverse.injective cellAt_index

/-- The store has taken no write, or an idle store one, whose working sequence is one more (R160, R165). -/
def Stc.takes (q r : Stc) : Prop :=
  (r.writing = q.writing ∧ r.seq = q.seq) ∨
  (q.writing = none ∧ ∃ w, r.writing = some w ∧
    r.seq = q.seq.set w.entry.cell.index (q.seq[w.entry.cell.index] + 1))

section
variable {q r p : Stc}

theorem Stc.takes.trans (h : q.takes r) (k : r.takes p) : q.takes p := by
  rcases h with ⟨hw, hs⟩ | ⟨hnone, w, hw, hs⟩
  · unfold Stc.takes at k
    rwa [hw, hs] at k
  · rcases k with ⟨kw, ks⟩ | ⟨knone, -⟩
    · exact .inr ⟨hnone, w, kw.trans hw, ks.trans hs⟩
    · cases hw.symm.trans knone

theorem Stc.take_takes (q : Stc) : q.takes q.take := by
  unfold Stc.take
  split
  · next e hw hn => exact .inr ⟨hw, _, rfl, rfl⟩
  · exact .inl ⟨rfl, rfl⟩

/-- The working sequence of a cell after an event: one more where the event's taking was of it (R160). -/
theorem Stc.takes.seq (h : q.takes r) (c : Cell) : r.seq[c.index] =
    if q.writing = none ∧ r.writing.map (fun w => w.entry.cell) = some c then q.seq[c.index] + 1 else q.seq[c.index] := by
  rcases h with ⟨hw, hs⟩ | ⟨hnone, w, hw, hs⟩
  · rw [hs, if_neg]
    rintro ⟨hnone, hc⟩
    rw [hw, hnone] at hc
    cases hc
  · rw [hs, hw, getElem_set_fin]
    by_cases hc : w.entry.cell = c
    · subst hc
      rw [if_pos rfl, if_pos ⟨hnone, rfl⟩]
    · rw [if_neg fun h => hc (Cell.index_injective h), if_neg fun h => hc (Option.some.inj h.2)]

end

/-! ### Writes offered -/

/-- What an event's writes leave of a store: the cells, the identity, the settings, the law, and the writes on their way
of the cells in `C`, of which it offers none. -/
structure Stc.Moved (C : Cell → Prop) (q r : Stc) : Prop where
  cells : r.cells = q.cells
  idn : r.idn = q.idn
  ready : r.ready = q.ready
  cfg : r.cfg = q.cfg
  lawful : q.lawful → r.lawful
  takes : q.takes r
  carries : ∀ e : QueueEntry, C e.cell → q.carries e → r.carries e

section
variable {C D : Cell → Prop} {q r p : Stc} {s : State} {w : CellWrite} {a : Option Awaiter}

theorem Stc.Moved.refl (C : Cell → Prop) (q : Stc) : q.Moved C q := ⟨rfl, rfl, rfl, rfl, id, .inl ⟨rfl, rfl⟩, fun _ _ => id⟩

theorem Stc.Moved.trans (h : q.Moved C r) (k : r.Moved C p) : q.Moved C p :=
  ⟨k.cells.trans h.cells, k.idn.trans h.idn, k.ready.trans h.ready, k.cfg.trans h.cfg, fun hl => k.lawful (h.lawful hl),
    h.takes.trans k.takes, fun e he hc => k.carries e he (h.carries e he hc)⟩

theorem Stc.Moved.mono (h : q.Moved D r) (hC : ∀ c, C c → D c) : q.Moved C r :=
  { h with carries := fun e he => h.carries e (hC _ he) }

theorem Stc.Moved.exists_carries (h : q.Moved C r) (hw : C w.cell) (hc : ∃ e, q.carries e ∧ e.write = w) :
    ∃ e, r.carries e ∧ e.write = w := by
  obtain ⟨e, he, rfl⟩ := hc
  exact ⟨e, h.carries e hw he, rfl⟩

/-- An offer of a write that leaves the settings (R161 to R165). -/
theorem State.offer_moved (k : OfferKind) (hC : ¬ C w.cell) (hcfg : (s.setWorking w).stc.cfg = s.stc.cfg) :
    s.stc.Moved C (s.offer k w a).1.stc := by
  have hlawful : s.stc.lawful → (s.offer k w a).1.stc.lawful := State.offer_lawful k w a
  cases hadmission : s.stc.admission k { write := w, awaiter := a } with
  | none =>
    rw [State.offer_of_refusal hadmission]
    exact .refl C _
  | some p =>
    obtain ⟨r, hoffer, hrcfg, hadmits, -⟩ := State.offer_of_admission hadmission
    obtain ⟨-, hseq, -, hwriting, -⟩ := Stc.admission_frame hadmission
    have hset : (State.setWorking { s with stc := p } w).stc.seq = s.stc.seq ∧
        (State.setWorking { s with stc := p } w).stc.writing = s.stc.writing := by
      cases w <;> exact ⟨hseq, hwriting⟩
    have htakes : s.stc.takes (s.offer k w a).1.stc := by
      have hbefore : s.stc.takes (State.setWorking { s with stc := p } w).stc := .inl ⟨hset.2, hset.1⟩
      have hresult : (s.offer k w a).1 = (State.setWorking { s with stc := p } w).takeNext := by
        unfold State.offer
        rw [hadmission]
      rw [hresult]
      rcases State.takeNext_eq (State.setWorking { s with stc := p } w) with ht | ht
      · rw [ht]
        exact hbefore
      · rw [ht]
        exact hbefore.trans (Stc.take_takes _)
    rw [hoffer] at hlawful htakes ⊢
    exact ⟨hadmits.cells, hadmits.idn, hadmits.ready, hrcfg.trans hcfg, hlawful, htakes,
      fun e he => hadmits.carries e fun h => hC (h ▸ he)⟩

theorem State.offerGuard_moved (hC : ¬ C w.cell) (hcfg : (s.setWorking w).stc.cfg = s.stc.cfg) :
    s.stc.Moved C (s.offerGuard w a).stc := State.offer_moved .ordinary hC hcfg

/-- A guard-group offer takes no room from the settings group (R162, R165). -/
theorem settingsCount_take (q : Stc) (h : q.reserve = []) : settingsCount q.take.queue ≤ settingsCount q.queue := by
  unfold Stc.take
  split
  · rw [h]
    exact (List.eraseP_sublist).countP_le
  · exact Nat.le_refl _

theorem settingsCount_admission {e : QueueEntry} {k : OfferKind} (h : q.admission k e = some r)
    (hg : e.cell.isGuard = true) (hreserve : q.reserve = []) :
    settingsCount r.queue = settingsCount q.queue ∧ r.reserve = [] := by
  unfold Stc.admission at h
  rw [hreserve, holdsCell_nil, if_neg (show ¬ false = true from Bool.false_ne_true), if_pos hg] at h
  split at h
  · cases h
    exact ⟨settingsCount_replaceIn _ _, rfl⟩
  · cases h
    exact ⟨by simp [settingsCount, hg], rfl⟩

end

end Sys2Proof.Machine
end

section
/-! SUPPORT. The offers of store-ready and what they leave, its notices, and a PFW edge that was pending (R9, R147, R165,
R177, R183). -/

namespace Sys2Proof.Machine

set_option Elab.async false

/-! ### One offer -/

/-- A write is offered to a store: the writes of other cells stand, and this one is on its way where the store is lawful. -/
structure Stc.Offered (w : CellWrite) (a : Option Awaiter) (q r : Stc) : Prop where
  moved : q.Moved (fun c => c ≠ w.cell) r
  owes : ∀ x : QueueEntry, x.cell ≠ w.cell → (r.owes x ↔ q.owes x)
  sends : q.lawful → r.sends w a

section
variable {s : State} {w : CellWrite} {a : Option Awaiter} {q r : Stc}

theorem Stc.Offered.sent (h : Stc.Offered w a q r) (hl : q.lawful) : ∃ e, r.carries e ∧ e.write = w := (h.sends hl).exists

theorem State.offerGuard_offered (s : State) (w : CellWrite) (a : Option Awaiter) (hg : w.cell.isGuard = true) :
    ∃ r, s.offerGuard w a = { s.setWorking w with stc := r } ∧ Stc.Offered w a s.stc r := by
  have hcfg : (s.setWorking w).stc.cfg = s.stc.cfg := by
    cases w with
    | cfg c => cases hg
    | _ => rfl
  have hmoved := State.offerGuard_moved (a := a) (C := fun c => c ≠ w.cell) (not_not.mpr rfl) hcfg
  obtain ⟨r, hoffer, -, hadmits, hsends, -⟩ := s.offerGuard_eq w a hg
  rw [hoffer] at hmoved
  exact ⟨r, hoffer, hmoved, hadmits.owes, fun hl => hsends (Stc.hasRoom_of_guard hl hg)⟩

theorem State.offerReserved_moved (hcfg : (s.setWorking w).stc.cfg = s.stc.cfg) :
    ∃ r, s.offerReserved w a = { s.setWorking w with stc := r } ∧ s.stc.Moved (fun c => c ≠ w.cell) r ∧
      s.stc.Admits w a r := by
  have hmoved : s.stc.Moved (fun c => c ≠ w.cell) (s.offerReserved w a).stc :=
    State.offer_moved .reserved (not_not.mpr rfl) hcfg
  obtain ⟨r, hoffer, -, hadmits⟩ := s.offerReserved_eq w a
  rw [hoffer] at hmoved
  exact ⟨r, hoffer, hmoved, hadmits⟩

theorem State.putJournal_offered (s : State) (j : Journal) :
    ∃ q, s.putJournal j = { s with ere := { s.ere with journal := j, awaited := some .ejr }, stc := q } ∧
      Stc.Offered (.ejr j) (some .erase) s.stc q := by
  obtain ⟨q, hq, hoffered⟩ := s.offerGuard_offered (.ejr j) (some .erase) rfl
  refine ⟨q, ?_, hoffered⟩
  unfold State.putJournal
  rw [hq]
  rfl

/-- The BKO write that carries the working copy, where it is owed (R85, R86). -/
theorem State.oweBko_offered (s : State) (owed : Bool) : ∃ q, s.oweBko owed = { s with stc := q } ∧
    s.stc.Moved (fun c => c ≠ .bko) q ∧ (∀ x : QueueEntry, x.cell ≠ .bko → (q.owes x ↔ s.stc.owes x)) ∧
    (owed = true → s.stc.lawful → ∃ e, q.carries e ∧ e.write = .bko s.atg.bko) := by
  cases owed with
  | false => exact ⟨s.stc, rfl, .refl _ _, fun _ _ => Iff.rfl, nofun⟩
  | true =>
    obtain ⟨q, hq, hoffered⟩ := s.offerGuard_offered (.bko s.atg.bko) none rfl
    exact ⟨q, hq, hoffered.moved, hoffered.owes, fun _ hl => hoffered.sent hl⟩

/-- A guard-group offer leaves the settings group its room (R162). -/
theorem State.offerGuard_room (hg : w.cell.isGuard = true) (hreserve : s.stc.reserve = []) :
    settingsCount (s.offerGuard w a).stc.queue ≤ settingsCount s.stc.queue ∧ (s.offerGuard w a).stc.reserve = [] := by
  obtain ⟨p, hp⟩ := s.stc.admission_guard .ordinary { write := w, awaiter := a } hg
  obtain ⟨hcount, hnil⟩ := settingsCount_admission hp hg hreserve
  have hresult : s.offerGuard w a = (State.setWorking { s with stc := p } w).takeNext := by
    unfold State.offerGuard State.offer
    rw [hp]
  have hset : (State.setWorking { s with stc := p } w).stc.queue = p.queue ∧
      (State.setWorking { s with stc := p } w).stc.reserve = p.reserve := by
    cases w <;> exact ⟨rfl, rfl⟩
  rw [hresult]
  rcases State.takeNext_eq (State.setWorking { s with stc := p } w) with ht | ht
  · rw [ht, hset.1, hset.2]
    exact ⟨hcount.le, hnil⟩
  · rw [ht]
    refine ⟨(settingsCount_take _ (hset.2.trans hnil)).trans ?_, Stc.take_reserve_nil (hset.2.trans hnil)⟩
    rw [hset.1]
    exact hcount.le

end

/-! ### Notices -/

section
variable {s : State} {m : Mpt} {f g : OutFrame}

/-- With room an order frame joins the tail (R178). -/
theorem Mpt.offerOrder_outbound (h : m.outbound.length < 8) : (m.offerOrder g).1.outbound = m.outbound ++ [g] := by
  have hroom : m.offerOrder g = (m.appendOrder g, true) := if_pos h
  rw [hroom]
  rfl

theorem Mpt.mem_offerOrder (h : m.outbound.length < 8) (hf : f ∈ m.outbound ∨ f = g) : f ∈ (m.offerOrder g).1.outbound := by
  rw [Mpt.offerOrder_outbound h]
  exact List.mem_append.mpr (hf.imp id List.mem_singleton.mpr)

theorem Mpt.offerOrder_length (h : m.outbound.length < 8) : (m.offerOrder g).1.outbound.length = m.outbound.length + 1 := by
  rw [Mpt.offerOrder_outbound h]
  exact List.length_append

/-- A context's purge queues one frame at most, and keeps the notices where there is room (R135, R177). -/
theorem State.purgeOne_outbound (p : RangeIx → Bool) (i : CtxIx) (h : s.mpt.outbound.length < 8) :
    (s.purgeOne p i).mpt.outbound.length ≤ s.mpt.outbound.length + 1 ∧
    ∀ l, .state l ∈ s.mpt.outbound → .state l ∈ (s.purgeOne p i).mpt.outbound := by
  unfold State.purgeOne
  split
  · next r hr =>
    split
    · have hlen : (s.mpt.withdraw (OutFrame.isKeyloadFor i)).outbound.length ≤ s.mpt.outbound.length :=
        List.length_filter_le _ _
      have hroom : (s.mpt.withdraw (OutFrame.isKeyloadFor i)).outbound.length < 8 := Nat.lt_of_le_of_lt hlen h
      refine ⟨(Mpt.offerOrder_length (g := .purge i s.cxm.orderCounter) hroom).le.trans (Nat.add_le_add_right hlen 1),
        fun l hl => Mpt.mem_offerOrder (g := .purge i s.cxm.orderCounter) hroom (.inl ?_)⟩
      exact List.mem_filter.mpr ⟨hl, rfl⟩
    · exact ⟨Nat.le_succ _, fun _ => id⟩
  · exact ⟨Nat.le_succ _, fun _ => id⟩

/-- A purge of every context keeps the notices of a queue with room for its four frames (R135, R177). -/
theorem State.purgeWhere_outbound (p : RangeIx → Bool) (h : s.mpt.outbound.length + 4 ≤ 8) (l : LockState)
    (hl : .state l ∈ s.mpt.outbound) : .state l ∈ (s.purgeWhere p).mpt.outbound := by
  rw [State.purgeWhere_steps]
  obtain ⟨hlen, hmem⟩ := s.purgeOne_outbound p 0 (by omega)
  obtain ⟨hlen', hmem'⟩ := (s.purgeOne p 0).purgeOne_outbound p 1 (by omega)
  obtain ⟨hlen'', hmem''⟩ := ((s.purgeOne p 0).purgeOne p 1).purgeOne_outbound p 2 (by omega)
  obtain ⟨-, hmem'''⟩ := (((s.purgeOne p 0).purgeOne p 1).purgeOne p 2).purgeOne_outbound p 3 (by omega)
  exact hmem''' l (hmem'' l (hmem' l (hmem l hl)))

/-! ### The erase start of a drive that is not unlocked -/

/-- The store and the notice of an erase start in a drive that is not unlocked (R145). -/
theorem State.eraseStart_store (hu : ¬ s.unlocked) :
    Stc.Offered (.ejr (.at .zeroise 0)) (some .erase) s.stc s.eraseStart.stc ∧
    (s.mpt.outbound.length + 5 ≤ 8 → .state .erasing ∈ s.eraseStart.mpt.outbound) := by
  have hlock : s.lockForErase = s := if_neg (by simpa [State.unlocked, or_comm] using hu)
  obtain ⟨c, m, hpurge, -⟩ := ({ s with lkc := s.lkc.erased }.sendState .erasing).purgeWhere_spec (fun _ => true)
  have hnotice := State.purgeWhere_outbound (s := { s with lkc := s.lkc.erased }.sendState .erasing) (fun _ => true)
  obtain ⟨check, slt, p, hrest, -⟩ := State.eraseRest_eq
    (({ s with lkc := s.lkc.erased }.sendState .erasing).purgeWhere (fun _ => true))
  obtain ⟨q, hput, hoffered⟩ := State.putJournal_offered
    (({ s with lkc := s.lkc.erased }.sendState .erasing).purgeWhere (fun _ => true)).eraseRest (.at .zeroise 0)
  rw [State.eraseStart_eq, State.lkcEraseStart_eq, hlock, hput]
  rw [hrest] at hoffered ⊢
  rw [hpurge] at hoffered hnotice ⊢
  refine ⟨hoffered, fun hroom => ?_⟩
  have hlen : s.mpt.outbound.length < 8 := by omega
  refine hnotice ?_ .erasing (Mpt.mem_offerOrder (m := s.mpt) hlen (.inr rfl))
  rw [show (State.sendState { s with lkc := s.lkc.erased } .erasing).mpt = (s.mpt.offerOrder (.state .erasing)).1 from rfl,
    Mpt.offerOrder_length hlen]
  omega

end

end Sys2Proof.Machine
end

section
/-! SUPPORT. The start-up evaluation and a resumed erasure (R86, R150, R151, R155). -/

namespace Sys2Proof.Machine

set_option Elab.async false

/-! ### The evaluation, row by row (R86) -/

/-- A BKO write is owed beyond what the evaluation's row queues: PFW-seen was set, or BKO read damaged (R85, R86). -/
def State.bkoOwed (b : State) : Bool := b.atg.bko.pfwSeen || b.stc.cells.readBko.isNone

section
variable {b : State}

theorem State.evaluate_resumes (h : b.ere.journal.phase ≠ .idle) : b.evaluate = b.clearSeen.oweBko b.bkoOwed :=
  if_pos (by simpa [State.clearSeen] using h)

theorem State.evaluate_wipes (h : b.ere.journal.phase = .idle) (hW : b.stc.cfg.W ≤ b.atg.counter) :
    b.evaluate = b.clearSeen.eraseStart.oweBko b.bkoOwed :=
  (if_neg (by simpa [State.clearSeen] using h)).trans (if_pos hW)

theorem State.evaluate_backs_off (h : b.ere.journal.phase = .idle) (hW : b.atg.counter < b.stc.cfg.W)
    (hF : b.stc.cfg.F < b.atg.counter) :
    b.evaluate = b.clearSeen.startBackoff b.atg.counter (b.atg.bko.resumeAt b.atg.counter) :=
  (if_neg (by simpa [State.clearSeen] using h)).trans ((if_neg (Nat.not_le.mpr hW)).trans (if_pos hF))

theorem State.evaluate_frees (h : b.ere.journal.phase = .idle) (hW : b.atg.counter < b.stc.cfg.W)
    (hF : b.atg.counter ≤ b.stc.cfg.F) : b.evaluate =
      if b.atg.bko.active.isSome then b.clearSeen.offerGuard (.bko { b.clearSeen.atg.bko with active := none }) none
      else b.clearSeen.oweBko b.bkoOwed :=
  (if_neg (by simpa [State.clearSeen] using h)).trans ((if_neg (Nat.not_le.mpr hW)).trans (if_neg (Nat.not_lt.mpr hF)))

/-! ### What each row leaves -/

/-- The state with a BKO record as its working copy, and a store. -/
def State.withBko (b : State) (r : BackoffRecord) (q : Stc) : State :=
  { b with atg := { b.atg with bko := r }, stc := q }

/-- No row but the BKO write owed: the journal is not IDLE (R86). -/
theorem State.evaluate_resumes_offered (h : b.ere.journal.phase ≠ .idle) :
    ∃ q, b.evaluate = b.withBko { b.atg.bko with pfwSeen := false } q ∧ b.stc.Moved (fun c => c ≠ .bko) q ∧
      (b.bkoOwed = true → b.stc.lawful → ∃ e, q.carries e ∧ e.write = .bko { b.atg.bko with pfwSeen := false }) := by
  obtain ⟨q, howe, hmoved, -, hsends⟩ := b.clearSeen.oweBko_offered b.bkoOwed
  exact ⟨q, (State.evaluate_resumes h).trans howe, hmoved, hsends⟩

/-- The counter at most F: no back-off (R86). -/
theorem State.evaluate_frees_offered (h : b.ere.journal.phase = .idle) (hW : b.atg.counter < b.stc.cfg.W)
    (hF : b.atg.counter ≤ b.stc.cfg.F) :
    ∃ q, b.evaluate = b.withBko { active := none, pfwSeen := false } q ∧ b.stc.Moved (fun c => c ≠ .bko) q ∧
      (b.bkoOwed = true ∨ b.atg.bko.active ≠ none → b.stc.lawful →
        ∃ e, q.carries e ∧ e.write = .bko { active := none, pfwSeen := false }) := by
  rw [State.evaluate_frees h hW hF]
  by_cases hactive : b.atg.bko.active.isSome = true
  · obtain ⟨q, hoffer, hoffered⟩ :=
      b.clearSeen.offerGuard_offered (.bko { b.clearSeen.atg.bko with active := none }) none rfl
    rw [if_pos hactive]
    exact ⟨q, hoffer, hoffered.moved, fun _ hl => hoffered.sent hl⟩
  · have hnone : b.atg.bko.active = none := Option.not_isSome_iff_eq_none.mp hactive
    have hrecord : ({ b.atg.bko with pfwSeen := false } : BackoffRecord) = { active := none, pfwSeen := false } :=
      congrArg (fun a => BackoffRecord.mk a false) hnone
    obtain ⟨q, howe, hmoved, -, hsends⟩ := b.clearSeen.oweBko_offered b.bkoOwed
    rw [if_neg hactive, howe, ← hrecord]
    exact ⟨q, rfl, hmoved, fun hor => hsends (hor.resolve_right fun hne => hne hnone)⟩

/-- F < n < W: a back-off of count n, which runs (R78, R86). -/
theorem State.startBackoff_runs {n elapsed : Nat} (h : elapsed < backoffPreset b.stc.cfg n) :
    ∃ q, b.startBackoff n elapsed =
        { b.withBko { b.atg.bko with active := some { count := n, elapsed := elapsed } } q with
          atg := { b.atg with
            timer := some { elapsed := elapsed, preset := backoffPreset b.stc.cfg n, phase := 0,
                            checkpointed := lastMultiple elapsed },
            bko := { b.atg.bko with active := some { count := n, elapsed := elapsed } } },
          enu := { b.enu.toIdle with state := .holdoff } } ∧
      Stc.Offered (.bko { b.atg.bko with active := some { count := n, elapsed := elapsed } }) none b.stc q := by
  obtain ⟨q, hoffer, hoffered⟩ := State.offerGuard_offered
    { b with atg := { b.atg with timer := some { elapsed := elapsed, preset := backoffPreset b.stc.cfg n, phase := 0,
                                                 checkpointed := lastMultiple elapsed } } }
    (.bko { b.atg.bko with active := some { count := n, elapsed := elapsed } }) none rfl
  refine ⟨q, ?_, hoffered⟩
  unfold State.startBackoff
  dsimp only
  rw [hoffer, if_neg (Nat.not_le.mpr h)]
  rfl

/-- The end of a back-off, with what it leaves of the store (R80). -/
theorem State.endBackoff_offered (b : State) : ∃ q, b.endBackoff =
      { b with atg := { b.atg with timer := none, bko := { b.atg.bko with active := none } }, stc := q,
               ppt := b.ppt.setFlag .holdoffEnded, enu := if b.enu.state = .holdoff then b.enu.toIdle else b.enu } ∧
    Stc.Offered (.bko { b.atg.bko with active := none }) none b.stc q := by
  obtain ⟨r, hend, -⟩ := b.endBackoff_offers
  obtain ⟨q, hoffer, hoffered⟩ := State.offerGuard_offered { b with atg := { b.atg with timer := none } }
    (.bko { b.atg.bko with active := none }) none rfl
  have hstore : b.endBackoff.stc = (State.offerGuard { b with atg := { b.atg with timer := none } }
      (.bko { b.atg.bko with active := none }) none).stc := by
    unfold State.endBackoff
    dsimp only
    split <;> rfl
  rw [hend, hoffer] at hstore
  have hrq : r = q := hstore
  exact ⟨r, hend, hrq ▸ hoffered⟩

/-- A back-off that is resumed at or above its preset ends at once (R80, R86). -/
theorem State.startBackoff_ends {n elapsed : Nat} (h : backoffPreset b.stc.cfg n ≤ elapsed) :
    ∃ q, b.startBackoff n elapsed =
        { b with
          atg := { b.atg with timer := none, bko := { b.atg.bko with active := none } },
          stc := q, ppt := b.ppt.setFlag .holdoffEnded, enu := Enu.toIdle { b.enu.toIdle with state := .holdoff } } ∧
      b.stc.Moved (fun c => c ≠ .bko) q ∧
      (b.stc.lawful → ∃ e, q.carries e ∧ e.write = .bko { b.atg.bko with active := none }) := by
  obtain ⟨p, hoffer, hoffered⟩ := State.offerGuard_offered
    { b with atg := { b.atg with timer := some { elapsed := elapsed, preset := backoffPreset b.stc.cfg n, phase := 0,
                                                 checkpointed := lastMultiple elapsed } } }
    (.bko { b.atg.bko with active := some { count := n, elapsed := elapsed } }) none rfl
  obtain ⟨q, hend, hended⟩ := State.endBackoff_offered
    { b with
      atg := { b.atg with
        timer := some { elapsed := elapsed, preset := backoffPreset b.stc.cfg n, phase := 0,
                        checkpointed := lastMultiple elapsed },
        bko := { b.atg.bko with active := some { count := n, elapsed := elapsed } } },
      stc := p, enu := { b.enu.toIdle with state := .holdoff } }
  refine ⟨q, ?_, hoffered.moved.trans hended.moved, fun hl => hended.sent (hoffered.moved.lawful hl)⟩
  unfold State.startBackoff
  dsimp only
  rw [hoffer, if_pos h]
  exact hend

end

/-! ### A resumed erasure (R155) -/

section
variable {b : State}

/-- The state in which a resumed erasure's step is taken (R190). -/
theorem State.resumeErase_step (h : b.ere.journal.phase = .zeroise ∨ b.ere.journal.phase = .ranges) :
    b.resumeErase = (b.setFlag .eraseStarted).journalStep := by
  unfold State.resumeErase
  rcases h with h | h <;> rw [h]

theorem State.resumeErase_sweep (h : b.ere.journal.phase = .sweep) :
    b.resumeErase = (b.setFlag .eraseStarted).pausedOrOn := by
  unfold State.resumeErase
  rw [h]

/-- What a resumed erasure leaves, of the state with ERASE_STARTED set. -/
structure State.Resumes (b t : State) : Prop where
  frame : ∃ d q g x m, t = { b.setFlag .eraseStarted with ere := d, stc := q, rgt := g, slt := x, mpt := m }
  store : b.stc.Moved (fun c => c = .att ∨ c = .cfg ∨ c = .bko) t.stc
  slots : b.ere.journal.phase ≠ .zeroise → t.slt = b.slt
  ranges : b.ere.journal.phase ≠ .ranges → t.rgt = b.rgt
  notices : b.mpt.outbound.length < 8 → ∀ l, .state l ∈ b.mpt.outbound → .state l ∈ t.mpt.outbound

theorem State.resumes_zeroise {k : SlotIx} (h : b.ere.journal.phase = .zeroise) (hk : b.ere.journal.next = some k.val) :
    b.Resumes b.resumeErase ∧ b.resumeErase.slt = { b.slt with slots := b.slt.slots.set k .empty } ∧
      b.resumeErase.ere = { b.ere with awaited := some (.slt k) } ∧
      b.resumeErase.stc.owes { write := .slt k .empty, awaiter := some .erase } := by
  obtain ⟨q, hoffer, hmoved, hadmits⟩ := State.offerReserved_moved (s := b.setFlag .eraseStarted) (w := .slt k .empty)
    (a := some .erase) rfl
  have hresult : b.resumeErase = { b.setFlag .eraseStarted with
      slt := { b.slt with slots := b.slt.slots.set k .empty }, ere := { b.ere with awaited := some (.slt k) }, stc := q } := by
    rw [State.resumeErase_step (.inl h), State.journalStep_zeroise (s := b.setFlag .eraseStarted) h hk, State.zeroiseSlot,
      hoffer]
    rfl
  rw [hresult]
  refine ⟨⟨⟨_, q, _, _, _, rfl⟩, hmoved.mono ?_, fun hne => absurd h hne, fun _ => rfl, fun _ _ => id⟩, rfl, rfl,
    hadmits.owed_awaited⟩
  rintro c (rfl | rfl | rfl) <;> nofun

theorem State.resumes_past {k : Nat} (h : b.ere.journal.phase = .zeroise) (hk : b.ere.journal.next = some k)
    (hpast : ¬ k < 5) : b.Resumes b.resumeErase := by
  obtain ⟨q, hput, hoffered⟩ := (b.setFlag .eraseStarted).putJournal_offered (.at .ranges 0)
  have hresult : b.resumeErase = { b.setFlag .eraseStarted with
      ere := { b.ere with journal := .at .ranges 0, awaited := some .ejr }, stc := q } := by
    have hphase : (b.setFlag .eraseStarted).ere.journal.phase = .zeroise := h
    have hnext : (b.setFlag .eraseStarted).ere.journal.next = some k := hk
    rw [State.resumeErase_step (.inl h)]
    unfold State.journalStep
    rw [hphase, hnext]
    exact (dif_neg hpast).trans hput
  rw [hresult]
  refine ⟨⟨_, q, _, _, _, rfl⟩, hoffered.moved.mono ?_, fun _ => rfl, fun _ => rfl, fun _ _ => id⟩
  rintro c (rfl | rfl | rfl) <;> nofun

theorem State.resumes_ranges {k : RangeIx} (h : b.ere.journal.phase = .ranges) (hk : b.ere.journal.next = some k.val) :
    b.Resumes b.resumeErase ∧
      b.resumeErase.rgt = { b.rgt with live := b.rgt.live.set k (.factory k), staged := b.rgt.staged.set k (.factory k) } ∧
      b.resumeErase.ere = { b.ere with awaited := some (.rng k) } ∧
      b.resumeErase.stc.owes { write := .rng k (.factory k), awaiter := some .erase } := by
  obtain ⟨q, hoffer, hmoved, hadmits⟩ := State.offerReserved_moved (s := b.setFlag .eraseStarted)
    (w := .rng k (.factory k)) (a := some .erase) rfl
  have hresult : b.resumeErase = { b.setFlag .eraseStarted with
      rgt := { b.rgt with live := b.rgt.live.set k (.factory k), staged := b.rgt.staged.set k (.factory k) },
      ere := { b.ere with awaited := some (.rng k) }, stc := q } := by
    rw [State.resumeErase_step (.inr h), State.journalStep_ranges (s := b.setFlag .eraseStarted) h hk, State.factoryRange,
      hoffer]
    rfl
  rw [hresult]
  refine ⟨⟨⟨_, q, _, _, _, rfl⟩, hmoved.mono ?_, fun _ => rfl, fun hne => absurd h hne, fun _ _ => id⟩, rfl, rfl,
    hadmits.owed_awaited⟩
  rintro c (rfl | rfl | rfl) <;> nofun

theorem State.resumes_paused (h : b.ere.journal.phase = .sweep) (hoff : b.mpt.attached = false) :
    b.Resumes b.resumeErase ∧ b.resumeErase.ere = { b.ere with sweepState := some .paused } := by
  rw [State.resumeErase_sweep h, State.pausedOrOn_off (s := b.setFlag .eraseStarted) hoff]
  exact ⟨⟨⟨_, _, _, _, _, rfl⟩, .refl _ _, fun _ => rfl, fun _ => rfl, fun _ _ => id⟩, rfl⟩

theorem State.resumes_ordered {cursor last : Lba} (h : b.ere.journal.phase = .sweep) (hon : b.mpt.attached = true)
    (hc : b.ere.journal.cursor = some cursor) (hlast : b.ere.journal.sweepEnd = some last) :
    b.Resumes b.resumeErase ∧ ∃ owed, b.resumeErase.ere = { b.ere with
      sweepState := some .ordered, retry := 1, order := some (chunkAt cursor last), sweepOwed := owed } := by
  obtain ⟨owed, hgive, -⟩ := State.giveOrder_eq
    { b.setFlag .eraseStarted with ere := { b.ere with sweepState := some .paused } } cursor last
  have hresult : b.resumeErase = _ :=
    (State.resumeErase_sweep h).trans ((State.pausedOrOn_on (s := b.setFlag .eraseStarted) hon).trans
      ((State.leavePaused_gives (s := { b.setFlag .eraseStarted with ere := { b.ere with sweepState := some .paused } })
        hc hlast).trans hgive))
  rw [hresult]
  exact ⟨⟨⟨_, _, _, _, _, rfl⟩, .refl _ _, fun _ => rfl, fun _ => rfl, fun hroom l hl =>
    Mpt.mem_offerOrder (m := b.mpt) hroom (.inl hl)⟩, owed, rfl⟩

/-- A sweep without a cursor, the media attached: the journal write that records its end, or the erase end (R150). -/
theorem State.resumes_recording (h : b.ere.journal.phase = .sweep) (hon : b.mpt.attached = true)
    (hc : b.ere.journal.cursor = none ∨ b.ere.journal.sweepEnd = none) :
    ∃ (j : Journal) (d : Ere) (q : Stc),
      b.resumeErase = { b.setFlag .eraseStarted with ere := { d with journal := j, awaited := some .ejr }, stc := q } ∧
      Stc.Offered (.ejr j) (some .erase) b.stc q ∧
      j = if b.mpt.capacity.getD 0 = 0 then
          { phase := .idle, next := none, cursor := none, sweepEnd := none, incomplete := false }
        else { phase := .sweep, next := none, cursor := some 0, sweepEnd := some (sweepEndOf (b.mpt.capacity.getD 0)),
               incomplete := false } := by
  have hleave : b.resumeErase = _ :=
    (State.resumeErase_sweep h).trans (State.pausedOrOn_on (s := b.setFlag .eraseStarted) hon)
  have hstep : State.leavePaused { b.setFlag .eraseStarted with ere := { b.ere with sweepState := some .paused } } =
      if b.mpt.capacity.getD 0 = 0 then
        State.eraseFinish { b.setFlag .eraseStarted with ere := { b.ere with sweepState := some .paused } } none false
      else State.putJournal { b.setFlag .eraseStarted with ere := { b.ere with sweepState := some .recording } }
        { phase := .sweep, next := none, cursor := some 0, sweepEnd := some (sweepEndOf (b.mpt.capacity.getD 0)),
          incomplete := false } := by
    unfold State.leavePaused
    split
    · next cursor last hcursor hlast => rcases hc with hc | hc <;> [cases hc.symm.trans hcursor; cases hc.symm.trans hlast]
    · rfl
  rw [hleave]
  change ∃ j d q, State.leavePaused { b.setFlag .eraseStarted with ere := { b.ere with sweepState := some .paused } } = _ ∧ _
  rw [hstep]
  by_cases hcapacity : b.mpt.capacity.getD 0 = 0
  · obtain ⟨q, hput, hoffered⟩ := State.putJournal_offered
      { b.setFlag .eraseStarted with
        ere := { b.ere with sweepState := some .paused, order := none, sweepOwed := false } }
      { phase := .idle, next := none, cursor := none, sweepEnd := none, incomplete := false }
    rw [if_pos hcapacity]
    exact ⟨_, _, q, hput, hoffered, (if_pos hcapacity).symm⟩
  · obtain ⟨q, hput, hoffered⟩ := State.putJournal_offered
      { b.setFlag .eraseStarted with ere := { b.ere with sweepState := some .recording } }
      { phase := .sweep, next := none, cursor := some 0, sweepEnd := some (sweepEndOf (b.mpt.capacity.getD 0)),
        incomplete := false }
    rw [if_neg hcapacity]
    exact ⟨_, _, q, hput, hoffered, (if_neg hcapacity).symm⟩

/-- A journal that was read resumes at a step of its phase (R146, R155). -/
theorem State.resumes (hr : b.ere.journal.inRange = true) (h : b.ere.journal.phase ≠ .idle) : b.Resumes b.resumeErase := by
  have hnext (hp : b.ere.journal.phase = .zeroise ∨ b.ere.journal.phase = .ranges) :
      ∃ k, b.ere.journal.next = some k ∧ k < 8 := by
    unfold Journal.inRange at hr
    rcases hk : b.ere.journal.next with _ | k
    · rcases hp with hp | hp <;> simp [hp, hk] at hr
    · refine ⟨k, rfl, ?_⟩
      rcases hp with hp | hp <;> simp [hp, hk] at hr <;> omega
  cases hp : b.ere.journal.phase with
  | idle => exact absurd hp h
  | zeroise =>
    obtain ⟨k, hk, -⟩ := hnext (.inl hp)
    by_cases hlt : k < 5
    · exact (State.resumes_zeroise (k := ⟨k, hlt⟩) hp hk).1
    · exact State.resumes_past hp hk hlt
  | ranges =>
    obtain ⟨k, hk, hlt⟩ := hnext (.inr hp)
    exact (State.resumes_ranges (k := ⟨k, hlt⟩) hp hk).1
  | sweep =>
    cases hon : b.mpt.attached with
    | false => exact (State.resumes_paused hp hon).1
    | true =>
      by_cases hordered : ∃ cursor last, b.ere.journal.cursor = some cursor ∧ b.ere.journal.sweepEnd = some last
      · obtain ⟨cursor, last, hc, hlast⟩ := hordered
        exact (State.resumes_ordered hp hon hc hlast).1
      · have hc : b.ere.journal.cursor = none ∨ b.ere.journal.sweepEnd = none := by
          by_contra hn
          rw [not_or] at hn
          obtain ⟨cursor, hcursor⟩ := Option.ne_none_iff_exists'.mp hn.1
          obtain ⟨last, hlast⟩ := Option.ne_none_iff_exists'.mp hn.2
          exact hordered ⟨cursor, last, hcursor, hlast⟩
        obtain ⟨j, d, q, hresult, hoffered, -⟩ := State.resumes_recording hp hon hc
        rw [hresult]
        refine ⟨⟨_, q, _, _, _, rfl⟩, hoffered.moved.mono ?_, fun _ => rfl, fun _ => rfl, fun _ _ => id⟩
        rintro c (rfl | rfl | rfl) <;> nofun

end

end Sys2Proof.Machine
end

section
/-! SUPPORT. Store-ready's stages: the cells as read, the repairs, the evaluation, and a PFW edge that was pending (R86,
R114, R160, R170, R183, R192). -/

namespace Sys2Proof.Machine

set_option Elab.async false

/-! ### The start-up read (R114, R160, R170) -/

theorem Image.startSeq_eq {α : Type} {f : CellFormat α} {i : Image α} {q : Byte} (h : i.readsSequence f q) :
    i.startSeq f = q := by
  obtain ⟨hnone, hsome⟩ := h
  unfold Image.startSeq
  cases hr : i.read f with
  | none => exact (hnone hr).symm
  | some v =>
    cases i with
    | written p c k =>
      have hv : v = c := by
        unfold Image.read at hr
        dsimp only at hr
        split at hr
        · exact (Option.some.inj hr).symm
        · cases hr
      exact (hsome p c k rfl (hv ▸ hr)).symm
    | _ => cases hr

/-- The working sequences are the sequence bytes read (R160, R170). -/
theorem Cells.startSeqs_get {c : Cells} {q : Byte} {cell : Cell} (h : c.readsSequence q cell) :
    c.startSeqs[cell.index] = q := by
  cases cell with
  | slt k =>
    have hk : c.startSeqs[(Cell.slt k).index] = c.slt[k].startSeq (sltFormat k) := by fin_cases k <;> rfl
    exact hk.trans (Image.startSeq_eq h)
  | rng k =>
    have hk : c.startSeqs[(Cell.rng k).index] = c.rng[k].startSeq (rngFormat k) := by fin_cases k <;> rfl
    exact hk.trans (Image.startSeq_eq h)
  | _ => exact Image.startSeq_eq h

/-- Of a setting aside up to index `n`: the records below stand or are set aside, those above are as read (R114). -/
def asideBelow (t : Vector RangeRecord 8) (n : Nat) (acc : Vector RangeRecord 8) : Prop :=
  (∀ k : RangeIx, n ≤ k.val → acc[k] = t[k]) ∧
  ∀ k : RangeIx, k.val < n →
    ((∃ i : RangeIx, i < k ∧ t[k].conflicts acc[i] = true) → acc[k] = .unused) ∧
    ((∀ i : RangeIx, i < k → t[k].conflicts acc[i] = false) → acc[k] = t[k])

theorem setAsideOne_asideBelow {t acc : Vector RangeRecord 8} {k : RangeIx} (h : asideBelow t k.val acc) :
    asideBelow t (k.val + 1) (setAsideOne acc k) := by
  obtain ⟨habove, hbelow⟩ := h
  have hk : acc[k] = t[k] := habove k (Nat.le_refl _)
  have hother (i : RangeIx) (hi : i ≠ k) : (setAsideOne acc k)[i] = acc[i] := by
    unfold setAsideOne
    split
    · rw [getElem_set_fin, if_neg (Ne.symm hi)]
    · rfl
  have hlower {i j : RangeIx} (hij : i < j) (hj : j.val ≤ k.val) : (setAsideOne acc k)[i] = acc[i] :=
    hother i fun he => absurd (he ▸ hij : k < j) (Nat.not_lt.mpr hj)
  refine ⟨fun i hi => ?_, fun i hi => ?_⟩
  · rw [hother i fun he => absurd (he ▸ hi) (Nat.not_succ_le_self _)]
    exact habove i (Nat.le_of_succ_le hi)
  · have hlow (j : RangeIx) (hj : j < i) : (setAsideOne acc k)[j] = acc[j] := hlower hj (Nat.lt_succ_iff.mp hi)
    by_cases hik : i = k
    · subst hik
      unfold setAsideOne
      by_cases hany : allRanges.any (fun j => j < i && acc[i].conflicts acc[j]) = true
      · simp only [if_pos hany]
        refine ⟨fun _ => by rw [getElem_set_fin, if_pos rfl], fun hfree => ?_⟩
        obtain ⟨j, -, hj⟩ := List.any_eq_true.mp hany
        obtain ⟨hlt, hconf⟩ := Bool.and_eq_true_iff.mp hj
        have hfreej := hfree j (of_decide_eq_true hlt)
        rw [getElem_set_fin, if_neg (ne_of_gt (of_decide_eq_true hlt)), ← hk, hconf] at hfreej
        cases hfreej
      · simp only [if_neg hany]
        refine ⟨fun ⟨j, hlt, hconf⟩ => absurd (List.any_eq_true.mpr ⟨j, mem_allRanges j, ?_⟩) hany, fun _ => hk⟩
        exact Bool.and_eq_true_iff.mpr ⟨decide_eq_true hlt, hk ▸ hconf⟩
    · obtain ⟨hconflicts, hfree⟩ := hbelow i (Nat.lt_of_le_of_ne (Nat.lt_succ_iff.mp hi) fun he => hik (Fin.ext he))
      rw [hother i hik]
      refine ⟨fun ⟨j, hlt, hconf⟩ => hconflicts ⟨j, hlt, hlow j hlt ▸ hconf⟩, fun hall => hfree fun j hlt => ?_⟩
      rw [← hlow j hlt]
      exact hall j hlt

/-- What every index's step keeps of the indices below it holds after all eight. -/
theorem foldl_allRanges_induction {α : Type} {P : Nat → α → Prop} (f : α → RangeIx → α)
    (hstep : ∀ (k : RangeIx) (acc : α), P k.val acc → P (k.val + 1) (f acc k)) (t : α) (h : P 0 t) :
    P 8 (allRanges.foldl f t) :=
  hstep 7 _ (hstep 6 _ (hstep 5 _ (hstep 4 _ (hstep 3 _ (hstep 2 _ (hstep 1 _ (hstep 0 _ h)))))))

/-- A record that conflicts with one of lower index that stands is set aside, and any other stands (R114). -/
theorem setAside_asideBelow (t : Vector RangeRecord 8) : asideBelow t 8 (setAside t) := by
  rw [setAside_eq]
  exact foldl_allRanges_induction (P := asideBelow t) setAsideOne (fun k acc => setAsideOne_asideBelow) t
    ⟨fun _ _ => rfl, fun k hk => absurd hk (Nat.not_lt_zero _)⟩

theorem Cells.startRanges_get (c : Cells) (k : RangeIx) : c.startRanges[k] = (c.readRng k).getD .unused := tab8_get _ k

theorem tab5_get {α : Type} (f : SlotIx → α) (k : SlotIx) : (tab5 f)[k] = f k := by fin_cases k <;> rfl

theorem Cells.startLive_get (c : Cells) (k : RangeIx) :
    ((∃ i : RangeIx, i < k ∧ ((c.readRng k).getD .unused).conflicts c.startLive[i] = true) → c.startLive[k] = .unused) ∧
    ((∀ i : RangeIx, i < k → ((c.readRng k).getD .unused).conflicts c.startLive[i] = false) →
      c.startLive[k] = (c.readRng k).getD .unused) := by
  have h := (setAside_asideBelow c.startRanges).2 k k.isLt
  rwa [c.startRanges_get k] at h

theorem Cells.startSlots_get (c : Cells) (k : SlotIx) : c.startSlots[k] = (c.readSlt k).getD .empty := tab5_get _ k

/-- A cell read damaged, or a record was set aside (R170). -/
def Cells.startFault (c : Cells) : Bool := c.anyDamaged || c.startLive != c.startRanges

theorem Cells.startFault_iff (c : Cells) : c.startFault = true ↔ c.readAtt = none ∨ c.readBko = none ∨
    c.readEjr = none ∨ (∃ k, c.readSlt k = none) ∨ (∃ k, c.readRng k = none) ∨ c.readCfg = none ∨
    c.readIdn = none ∨ (∃ k : RangeIx, c.startLive[k] ≠ (c.readRng k).getD .unused) := by
  have hlive : c.startLive ≠ c.startRanges ↔ ∃ k : RangeIx, c.startLive[k] ≠ (c.readRng k).getD .unused := by
    rw [← not_iff_not, not_not, not_exists]
    refine ⟨fun h k => not_not.mpr (h ▸ c.startRanges_get k), fun h => Vector.ext fun i hi => ?_⟩
    exact (not_not.mp (h ⟨i, hi⟩)).trans (c.startRanges_get ⟨i, hi⟩).symm
  simp [Cells.startFault, Cells.anyDamaged, or_assoc, hlive, mem_allSlots, mem_allRanges]

/-- The lock state that store-ready determines before the evaluation (R2). -/
theorem startLockState_eq (c : Cells) : startLockState c.startJournal c.startSlots =
    if c.startJournal.phase ≠ .idle then .erasing
    else if ∀ k : SlotIx, (c.readSlt k).getD .empty = .empty then .blank else .locked := by
  have hall : allSlots.all (fun k => c.startSlots[k] = .empty) = true ↔
      ∀ k : SlotIx, (c.readSlt k).getD .empty = .empty := by
    simp only [List.all_eq_true, decide_eq_true_eq, Cells.startSlots_get]
    exact ⟨fun h k => h k (mem_allSlots k), fun h k _ => h k⟩
  unfold startLockState
  by_cases hp : c.startJournal.phase = .idle
  · rw [if_neg (by simp [hp]), if_neg (not_not.mpr hp)]
    exact if_congr hall rfl rfl
  · rw [if_pos (by simpa using hp), if_pos hp]

theorem Cells.startJournal_inRange (c : Cells) : c.startJournal.inRange = true := by
  unfold Cells.startJournal
  cases h : c.readEjr with
  | none => decide
  | some v => exact Image.inRange_of_read h

end Sys2Proof.Machine
end

section
/-! SUPPORT. Store-ready's stages as relations between states (R86, R155, R170, R183, R192). -/

namespace Sys2Proof.Machine

set_option Elab.async false

/-! ### The repairs (R85, R170) -/

section
variable {b : State}

/-- The repairs change the store alone (R85, R170). -/
theorem State.repairCells_offered (b : State) : ∃ q, b.repairCells = { b with stc := q } ∧
    b.stc.Moved (fun _ => False) q ∧
    (b.stc.cells.readAtt = none → b.stc.lawful → ∃ e, q.carries e ∧ e.write = .att b.atg.counter) ∧
    (b.stc.cells.readCfg = none → settingsCount b.stc.queue < 5 → b.stc.reserve = [] →
      ∃ e, q.carries e ∧ e.write = .cfg b.stc.cfg) := by
  have hatt : ∃ p, (if b.stc.cells.readAtt.isNone then b.offerGuard (.att b.atg.counter) none else b) =
      { b with stc := p } ∧ b.stc.Moved (fun c => c ≠ .att) p ∧
      (b.stc.cells.readAtt = none → b.stc.lawful → ∃ e, p.carries e ∧ e.write = .att b.atg.counter) ∧
      (b.stc.reserve = [] → settingsCount p.queue ≤ settingsCount b.stc.queue ∧ p.reserve = []) := by
    by_cases hread : b.stc.cells.readAtt = none
    · obtain ⟨p, hoffer, hoffered⟩ := b.offerGuard_offered (.att b.atg.counter) none rfl
      have hroom := State.offerGuard_room (s := b) (w := .att b.atg.counter) (a := none) rfl
      rw [hoffer] at hroom
      rw [if_pos (by rw [hread]; rfl), hoffer]
      exact ⟨p, rfl, hoffered.moved, fun _ hl => hoffered.sent hl, hroom⟩
    · rw [if_neg (by simpa using hread)]
      exact ⟨b.stc, rfl, .refl _ _, fun h => absurd h hread, fun h => ⟨Nat.le_refl _, h⟩⟩
  obtain ⟨p, hfirst, hmoved, hatt, hroom⟩ := hatt
  unfold State.repairCells
  dsimp only
  rw [hfirst]
  by_cases hread : b.stc.cells.readCfg = none
  · rw [if_pos (by rw [hread]; rfl)]
    have hcfgmoved : p.Moved (fun c => c ≠ .cfg) (State.offer { b with stc := p } .ordinary (.cfg p.cfg) none).1.stc :=
      State.offer_moved (s := { b with stc := p }) .ordinary (not_not.mpr rfl) rfl
    have hsame : ∃ q, (State.offer { b with stc := p } .ordinary (.cfg p.cfg) none).1 = { b with stc := q } := by
      cases hadmission : p.admission .ordinary { write := .cfg p.cfg, awaiter := none } with
      | none =>
        rw [State.offer_of_refusal (s := { b with stc := p }) hadmission]
        exact ⟨p, rfl⟩
      | some r =>
        obtain ⟨q, hoffer, -⟩ := State.offer_of_admission (s := { b with stc := p }) hadmission
        rw [hoffer]
        exact ⟨q, rfl⟩
    have hsends (hcount : settingsCount b.stc.queue < 5) (hreserve : b.stc.reserve = []) :
        ∃ e, (State.offer { b with stc := p } .ordinary (.cfg p.cfg) none).1.stc.carries e ∧ e.write = .cfg p.cfg := by
      obtain ⟨hle, hnil⟩ := hroom hreserve
      obtain ⟨q, hoffer, -, -, hsends, -⟩ := State.offer_hasRoom (s := { b with stc := p }) (k := .ordinary) (a := none)
        (w := .cfg p.cfg) (Stc.hasRoom_of_free (Nat.lt_of_le_of_lt hle hcount) hnil _)
      rw [hoffer]
      exact hsends.exists
    obtain ⟨q, hq⟩ := hsame
    rw [hq] at hcfgmoved hsends ⊢
    refine ⟨q, rfl, (hmoved.mono fun _ => False.elim).trans (hcfgmoved.mono fun _ => False.elim), fun h hl => ?_,
      fun _ hcount hreserve => hmoved.cfg ▸ hsends hcount hreserve⟩
    exact hcfgmoved.exists_carries (w := .att b.atg.counter) nofun (hatt h hl)
  · rw [if_neg (by simpa using hread)]
    exact ⟨p, rfl, hmoved.mono fun _ => False.elim, hatt, fun h => absurd h hread⟩

end

/-! ### The cells taken (R161, R170, R192) -/

/-- The port after the start-up read: STORE_FAULT and the start cause (R170, R192). -/
def State.readPort (s : State) : Ppt :=
  { (if s.stc.cells.startFault then s.ppt.setFlag .storeFault else s.ppt) with
    startCause := if s.ppt.startCause = .supply ∧ s.stc.cells.startBko.pfwSeen = true then .supplyAfterPfw
      else s.ppt.startCause,
    unresolved := s.stc.cells.startJournal.phase = .idle &&
      Atg.unresolved { s.atg with counter := s.stc.cells.startCounter, bko := s.stc.cells.startBko } }

/-- The lock state that store-ready determines (R2). -/
def State.readLock (s : State) : LockState := startLockState s.stc.cells.startJournal s.stc.cells.startSlots

/-- The store with its working copies and sequences as read (R160, R161, R170). -/
def Stc.readIn (q : Stc) : Stc :=
  { q with seq := q.cells.startSeqs, cfg := q.cells.startCfg, idn := q.cells.readIdn, ready := true }

/-- The state with the cells taken, before any write is offered (R161, R170, R192). -/
def State.asRead (s : State) : State :=
  { s with
    stc := s.stc.readIn,
    atg := { s.atg with counter := s.stc.cells.startCounter, bko := s.stc.cells.startBko },
    ere := { s.ere with journal := s.stc.cells.startJournal },
    slt := { s.slt with slots := s.stc.cells.startSlots },
    rgt := { live := s.stc.cells.startLive, staged := s.stc.cells.startLive, dirty := false },
    lkc := { s.lkc with idnFault := s.stc.cells.readIdn.isNone, lockState := some s.readLock },
    mpt := (s.mpt.offerOrder (.state s.readLock)).1,
    ppt := s.readPort }

theorem State.asRead_eq (s : State) : s.readyTaken.settleCause = s.asRead := by
  have hcause (x : StartCause) (seen : Bool) : (if x = .supply && seen then StartCause.supplyAfterPfw else x) =
      if x = .supply ∧ seen = true then .supplyAfterPfw else x := if_congr (by simp) rfl rfl
  unfold State.readyTaken
  rw [State.setFlagIf_eq]
  unfold State.settleCause State.asRead State.readPort Cells.startFault
  split
  · simp only [hcause]
    rfl
  · simp only [hcause]
    rfl

/-- The store-ready event by its stages, where it is one (R1, R170). -/
theorem State.storeReadyEvent_stages {s : State} (hready : s.stc.ready = false) (hlock : s.lkc.lockState = none) :
    s.storeReadyEvent = ((s.asRead.repairCells.evaluate.resumeIf
      (s.stc.cells.startJournal.phase != .idle)).fillPublic).takePendingPfw := by
  rw [State.storeReadyEvent_eq, if_neg (by simp [hready, hlock]), State.asRead_eq]

/-! ### The evaluation and the resumed erasure -/

/-- What the evaluation meets: LKC at its start values but for the lock state `l` and the IDN fault mark, no staged edits,
a lawful store, a journal in its ranges (R24, R114, R146, R170). -/
structure State.StartsIn (b : State) (l : LockState) : Prop where
  lkc : b.lkc = { Lkc.start with lockState := some l, idnFault := b.lkc.idnFault }
  staged : b.rgt.staged = b.rgt.live
  dirty : b.rgt.dirty = false
  lawful : b.stc.lawful
  journal : b.ere.journal.inRange = true
  resumes : b.ere.journal.phase ≠ .idle → l = .erasing
  rests : b.ere.journal.phase = .idle → l = .blank ∨ l = .locked

/-- What the evaluation and a resumed erasure leave, the lock state being `l` then. -/
structure State.Evaluated (b : State) (l : LockState) (e : State) : Prop where
  store : b.stc.Moved (fun c => c = .att ∨ c = .cfg) e.stc
  counter : e.atg.counter = b.atg.counter
  seen : e.atg.bko.pfwSeen = false
  lkc : e.lkc = { b.lkc with lockState := some l }
  slots : b.ere.journal.phase ≠ .zeroise → e.slt.slots = b.slt.slots
  ranges : b.ere.journal.phase ≠ .ranges → e.rgt = b.rgt
  port : b.ppt.sameButFlags [.locked, .enrollFailed, .eraseStarted, .holdoffEnded] e.ppt
  started : e.ppt.isPending .eraseStarted = true ↔ b.ppt.isPending .eraseStarted = true ∨ l = .erasing
  notice : ∀ l', b.mpt.outbound = [.state l'] → b.lkc.lockState = some l' → .state l ∈ e.mpt.outbound
  owed : (b.bkoOwed = true ∨ (b.ere.journal.phase = .idle ∧ b.atg.counter < b.stc.cfg.W ∧
    (b.stc.cfg.F < b.atg.counter ∨ b.atg.bko.active ≠ none))) → ∃ x, e.stc.carries x ∧ x.write = .bko e.atg.bko

section
variable {b : State} {l : LockState}

theorem State.StartsIn.state (h : b.StartsIn l) : b.lkc.lockState = some l := by rw [h.lkc]

theorem State.StartsIn.stands (h : b.StartsIn l) : { b.lkc with lockState := some l } = b.lkc := by
  rw [h.lkc]

theorem moved_bko {q r : Stc} (h : q.Moved (fun c => c ≠ .bko) r) : q.Moved (fun c => c = .att ∨ c = .cfg) r :=
  h.mono (by rintro c (rfl | rfl) <;> nofun)

/-- A journal that is not IDLE: the BKO write that is owed, and the resumed step (R86, R155). -/
theorem State.evaluated_resumes (h : b.StartsIn l) (hp : b.ere.journal.phase ≠ .idle) :
    b.Evaluated .erasing b.evaluate.resumeErase ∧ b.evaluate.resumeErase.atg.timer = b.atg.timer := by
  obtain ⟨q, heval, hmoved, hsends⟩ := State.evaluate_resumes_offered hp
  have hl := h.resumes hp
  rw [heval]
  have hr := State.resumes (b := b.withBko { b.atg.bko with pfwSeen := false } q) h.journal hp
  obtain ⟨d, r, g, x, m, hframe⟩ := hr.frame
  obtain ⟨-, hstore, hslots, hranges, hnotices⟩ := hr
  rw [hframe] at hstore hslots hranges hnotices ⊢
  refine ⟨⟨(moved_bko hmoved).trans (hstore.mono (by rintro c (rfl | rfl) <;> simp)), rfl, rfl, ?_,
    fun hne => congrArg Slt.slots (hslots hne), hranges, (Ppt.sameButFlags.refl _ _).setFlag (by simp),
    by simp [State.setFlag, State.withBko], fun l' hout hl' => ?_, fun howed => ?_⟩, rfl⟩
  · rw [← hl]
    exact h.stands.symm
  · have hsame : l' = .erasing := (Option.some.inj (hl'.symm.trans h.state)).trans hl
    have hout' : (b.withBko { b.atg.bko with pfwSeen := false } q).mpt.outbound = [.state l'] := hout
    exact hnotices (by rw [hout']; simp) .erasing (by rw [hout', hsame]; exact List.mem_singleton_self _)
  · have hb : b.bkoOwed = true := howed.resolve_right fun hidle => hp hidle.1
    exact hstore.exists_carries (w := .bko { b.atg.bko with pfwSeen := false }) (.inr (.inr rfl)) (hsends hb h.lawful)

/-- The counter at or above W: the erase start (R86, R145). -/
theorem State.evaluated_wipes (h : b.StartsIn l) (hp : b.ere.journal.phase = .idle) (hW : b.stc.cfg.W ≤ b.atg.counter) :
    b.Evaluated .erasing b.evaluate ∧ b.evaluate.atg.timer = none ∧ b.evaluate.atg.bko.active = none ∧
      b.evaluate.ere.awaited = some .ejr ∧ b.evaluate.ere.journal = .at .zeroise 0 ∧
      b.evaluate.stc.carries { write := .ejr (.at .zeroise 0), awaiter := some .erase } := by
  have hu : ¬ b.clearSeen.unlocked := by
    have hstate : b.clearSeen.lkc.lockState = some l := h.state
    unfold State.unlocked
    rw [hstate]
    rcases h.rests hp with rfl | rfl <;> simp
  obtain ⟨hoffered, hnotice⟩ := State.eraseStart_store hu
  have herases := b.clearSeen.eraseStart_erases
  rw [State.evaluate_wipes hp hW]
  generalize b.clearSeen.eraseStart = e at *
  obtain ⟨q, howe, hmoved, -, hsends⟩ := e.oweBko_offered b.bkoOwed
  rw [howe]
  have hlawful : e.stc.lawful := hoffered.moved.lawful h.lawful
  have hejr : b.stc.Moved (fun c => c = .att ∨ c = .cfg) e.stc := hoffered.moved.mono (by rintro c (rfl | rfl) <;> nofun)
  refine ⟨⟨hejr.trans (moved_bko hmoved), ?_, ?_, ?_, fun _ => herases.slots, fun _ => ?_, ?_, ?_, fun l' hout _ => ?_,
    fun howed => ?_⟩, ?_, ?_, congrArg Ere.awaited herases.ere, congrArg Ere.journal herases.ere, ?_⟩
  · exact (congrArg Atg.counter herases.atg).trans rfl
  · exact (congrArg (fun a : Atg => a.bko.pfwSeen) herases.atg).trans rfl
  · refine herases.lkc.trans ?_
    change b.lkc.erased = _
    rw [h.lkc]
    rfl
  · refine herases.rgt.trans ?_
    have hstaged := h.staged
    have hdirty := h.dirty
    change ({ live := b.rgt.live, staged := b.rgt.live, dirty := false } : Rgt) = b.rgt
    generalize b.rgt = g at hstaged hdirty
    obtain ⟨live, staged, dirty⟩ := g
    cases hstaged
    cases hdirty
    rfl
  · exact herases.flags.mono (by simp)
  · exact ⟨fun _ => .inr rfl, fun _ => herases.started⟩
  · refine hnotice ?_
    change b.mpt.outbound.length + 5 ≤ 8
    rw [hout]
    simp
  · exact hsends (howed.resolve_right fun hidle => absurd hidle.2.1 (Nat.not_lt.mpr hW)) hlawful
  · exact (congrArg Atg.timer herases.atg).trans rfl
  · exact (congrArg (fun a : Atg => a.bko.active) herases.atg).trans rfl
  · exact hmoved.carries _ nofun (hoffered.sends h.lawful).awaited

/-- The rows of a drive that rests in BLANK or LOCKED leave the lock state (R86). -/
theorem State.evaluated_rests (h : b.StartsIn l) (hp : b.ere.journal.phase = .idle) {a : Atg} {e : Enu} {p : Ppt} {q : Stc}
    (hmoved : b.stc.Moved (fun c => c ≠ .bko) q) (hcounter : a.counter = b.atg.counter) (hseen : a.bko.pfwSeen = false)
    (hport : b.ppt.sameButFlags [.holdoffEnded] p)
    (howed : b.bkoOwed = true ∨ b.stc.cfg.F < b.atg.counter ∨ b.atg.bko.active ≠ none →
      ∃ x, q.carries x ∧ x.write = .bko a.bko) :
    b.Evaluated l { b with atg := a, stc := q, enu := e, ppt := p } := by
  refine ⟨moved_bko hmoved, hcounter, hseen, h.stands.symm, fun _ => rfl, fun _ => rfl, hport.mono (by simp), ?_,
    fun l' hout hl' => ?_, fun hor => howed (hor.imp id fun hidle => hidle.2.2)⟩
  · have hnot : l ≠ .erasing := by rcases h.rests hp with rfl | rfl <;> decide
    rw [show p.isPending .eraseStarted = b.ppt.isPending .eraseStarted from hport.2 _ (by simp)]
    exact ⟨.inl, fun hor => hor.resolve_right hnot⟩
  · rw [show l' = l from Option.some.inj (hl'.symm.trans h.state)] at hout
    change OutFrame.state l ∈ b.mpt.outbound
    rw [hout]
    exact List.mem_singleton_self _

end

end Sys2Proof.Machine
end

section
/-! SUPPORT. Store-ready in a drive that rests, and a PFW edge that was pending (R78, R86, R183). -/

namespace Sys2Proof.Machine

set_option Elab.async false

section
variable {b : State} {l : LockState}

/-! ### The rows of a journal at IDLE (R86) -/

/-- F < n < W, the back-off below its preset: it runs (R78, R86). -/
theorem State.evaluated_runs (h : b.StartsIn l) (hp : b.ere.journal.phase = .idle) (hW : b.atg.counter < b.stc.cfg.W)
    (hF : b.stc.cfg.F < b.atg.counter)
    (hlt : b.atg.bko.resumeAt b.atg.counter < backoffPreset b.stc.cfg b.atg.counter) :
    b.Evaluated l b.evaluate ∧ b.evaluate.enu.state = .holdoff ∧
      b.evaluate.atg.timer = some {
        elapsed := b.atg.bko.resumeAt b.atg.counter, preset := backoffPreset b.stc.cfg b.atg.counter, phase := 0,
        checkpointed := lastMultiple (b.atg.bko.resumeAt b.atg.counter) } ∧
      b.evaluate.atg.bko.active = some { count := b.atg.counter, elapsed := b.atg.bko.resumeAt b.atg.counter } := by
  obtain ⟨q, hstart, hoffered⟩ := State.startBackoff_runs (b := b.clearSeen) (n := b.atg.counter) hlt
  rw [State.evaluate_backs_off hp hW hF, hstart]
  exact ⟨State.evaluated_rests h hp hoffered.moved rfl rfl (.refl _ _) fun _ => hoffered.sent h.lawful, rfl, rfl, rfl⟩

/-- F < n < W, the back-off at or above its preset: it ends at once (R80, R86). -/
theorem State.evaluated_ends (h : b.StartsIn l) (hp : b.ere.journal.phase = .idle) (hW : b.atg.counter < b.stc.cfg.W)
    (hF : b.stc.cfg.F < b.atg.counter)
    (hle : backoffPreset b.stc.cfg b.atg.counter ≤ b.atg.bko.resumeAt b.atg.counter) :
    b.Evaluated l b.evaluate ∧ b.evaluate.enu.state = .idle ∧ b.evaluate.atg.timer = none ∧
      b.evaluate.atg.bko.active = none ∧ b.evaluate.ppt.isPending .holdoffEnded = true := by
  obtain ⟨q, hstart, hmoved, hsends⟩ := State.startBackoff_ends (b := b.clearSeen) (n := b.atg.counter) hle
  rw [State.evaluate_backs_off hp hW hF, hstart]
  exact ⟨State.evaluated_rests h hp hmoved rfl rfl ((Ppt.sameButFlags.refl _ _).setFlag (by simp))
    fun _ => hsends h.lawful, rfl, rfl, rfl, by simp⟩

/-- n ≤ F: no back-off (R86). -/
theorem State.evaluated_frees (h : b.StartsIn l) (hp : b.ere.journal.phase = .idle) (hW : b.atg.counter < b.stc.cfg.W)
    (hF : b.atg.counter ≤ b.stc.cfg.F) :
    b.Evaluated l b.evaluate ∧ b.evaluate.atg.timer = b.atg.timer ∧ b.evaluate.atg.bko.active = none ∧
      b.evaluate.enu = b.enu := by
  obtain ⟨q, heval, hmoved, hsends⟩ := State.evaluate_frees_offered hp hW hF
  rw [heval]
  exact ⟨State.evaluated_rests h hp hmoved rfl rfl (.refl _ _)
    fun hor => hsends (hor.imp id fun hor => hor.resolve_left (Nat.not_lt.mpr hF)) h.lawful, rfl, rfl, rfl⟩

/-! ### A PFW edge that was pending (R183) -/

theorem Atg.exactRecord_none {a : Atg} (h : a.bko.active = none) : a.exactRecord = none := by
  unfold Atg.exactRecord
  rw [h]

/-- What the pending edge, and the public keys before it, make of the state that the evaluation left (R21, R183). -/
structure State.Readied (e t : State) : Prop where
  lkc : t.lkc = e.fillPublic.lkc
  rgt : t.rgt = e.rgt
  ere : t.ere = e.ere
  mpt : t.mpt = e.mpt
  unit : t.enu.state = e.enu.state
  slots : t.slt.slots = e.slt.slots
  timer : t.atg.timer = e.atg.timer
  counter : t.atg.counter = e.atg.counter
  bko : t.atg.bko = if e.ppt.pfwPending then { active := e.atg.exactRecord, pfwSeen := true } else e.atg.bko
  store : e.stc.Moved (fun c => c ≠ .bko) t.stc
  owes : ∀ x : QueueEntry, x.cell ≠ .bko → (t.stc.owes x ↔ e.stc.owes x)
  sends : e.stc.lawful → (e.ppt.pfwPending = true ∨ ∃ x, e.stc.carries x ∧ x.write = .bko e.atg.bko) →
    ∃ x, t.stc.carries x ∧ x.write = .bko t.atg.bko
  cause : t.ppt.startCause = e.ppt.startCause
  unresolved : t.ppt.unresolved = e.ppt.unresolved
  flags : ∀ f, t.ppt.isPending f = (e.ppt.isPending f || (e.ppt.pfwPending && decide (f = .supply)))

/-- The public keys change the key buffer alone (R21). -/
theorem State.fillPublic_eq (e : State) : ∃ buffer, e.fillPublic = { e with lkc := { e.lkc with keyBuffer := buffer } } := by
  unfold State.fillPublic
  split
  · exact ⟨_, rfl⟩
  · exact ⟨_, rfl⟩

/-- The last stage of store-ready, in a drive that is not unlocked (R21, R183). -/
theorem State.readied (e : State) (hu : ¬ e.unlocked) : e.Readied e.fillPublic.takePendingPfw.settleStandby := by
  obtain ⟨buffer, hfill⟩ := e.fillPublic_eq
  have hlkc : { e.lkc with keyBuffer := buffer } = e.fillPublic.lkc := by rw [hfill]
  have hstate : ({ e.lkc with keyBuffer := buffer } : Lkc).lockState = e.lkc.lockState := rfl
  rw [hfill]
  generalize ({ e.lkc with keyBuffer := buffer } : Lkc) = k at hlkc hstate
  unfold State.takePendingPfw
  cases hpending : e.ppt.pfwPending with
  | false =>
    rw [if_neg Bool.false_ne_true]
    exact ⟨hlkc, rfl, rfl, rfl, rfl, rfl, rfl, rfl, by rw [hpending]; rfl, .refl _ _, fun _ _ => Iff.rfl,
      fun _ hor => hor.resolve_left (by rw [hpending]; nofun), rfl, rfl, fun f => by rw [hpending]; simp⟩
  | true =>
    rw [if_pos rfl]
    have hu' : ¬ (({ e with lkc := k, ppt := { e.ppt with pfwPending := false } } : State).setFlag .supply).unlocked := by
      unfold State.unlocked at *
      rw [← hstate] at hu
      exact hu
    obtain ⟨u, x, hlock, hlocked, hother⟩ := State.lockEvent_notUnlocked (reason := .supply) hu'
    have hrest : u = e.enu ∧ x.slots = e.slt.slots := by
      by_cases hl : (({ e with lkc := k, ppt := { e.ppt with pfwPending := false } } : State).setFlag
          .supply).lkc.lockState = some .locked
      · obtain ⟨hx, he⟩ := hlocked hl
        exact ⟨he, (congrArg Slt.slots hx).trans rfl⟩
      · obtain ⟨hx, he⟩ := hother hl
        exact ⟨he, (congrArg Slt.slots hx).trans rfl⟩
    unfold State.pfwEffects State.pfwRecord
    rw [hlock]
    obtain ⟨q, hoffer, hoffered⟩ := State.offerGuard_offered
      { (({ e with lkc := k, ppt := { e.ppt with pfwPending := false } } : State).setFlag .supply) with enu := u, slt := x }
      (.bko { active := e.atg.exactRecord, pfwSeen := true }) none rfl
    rw [show ({ (({ e with lkc := k, ppt := { e.ppt with pfwPending := false } } : State).setFlag .supply) with
      enu := u, slt := x } : State).atg.exactRecord = e.atg.exactRecord from rfl, hoffer]
    refine ⟨hlkc, rfl, rfl, rfl, show u.state = e.enu.state from congrArg Enu.state hrest.1, hrest.2, rfl, rfl, by rw [hpending]; rfl, hoffered.moved,
      hoffered.owes, fun hl _ => hoffered.sent hl, rfl, rfl, fun f => ?_⟩
    rw [hpending]
    exact Ppt.isPending_setFlag _ _ _

/-- A back-off that is inactive stays so, and one that runs is recorded as it stands (R82). -/
theorem State.Readied.active {e t : State} (h : e.Readied t)
    (hexact : e.atg.exactRecord = e.atg.bko.active) : t.atg.bko.active = e.atg.bko.active := by
  rw [h.bko]
  split
  · exact hexact
  · rfl

end

end Sys2Proof.Machine
end

section
/-! SUPPORT. What store-ready determines (R2, R21, R85, R86, R114, R155, R170, R183, R192). -/

namespace Sys2Proof.Machine

set_option Elab.async false

/-! ### The cells' readings -/

theorem Cells.startBko_active (c : Cells) : c.startBko.active = c.readBko.bind BackoffRecord.active := by
  unfold Cells.startBko
  cases c.readBko <;> rfl

theorem Cells.startBko_pfwSeen (c : Cells) : c.startBko.pfwSeen = c.readBko.any BackoffRecord.pfwSeen := by
  unfold Cells.startBko
  cases c.readBko <;> rfl

theorem State.readPort_isPending (s : State) (f : Flag) : s.readPort.isPending f =
    (s.ppt.isPending f || (s.stc.cells.startFault && decide (f = .storeFault))) := by
  unfold State.readPort
  cases s.stc.cells.startFault with
  | true => exact Ppt.isPending_setFlag s.ppt .storeFault f
  | false => exact (Bool.or_false _).symm

theorem Atg.unresolved_iff (a : Atg) : a.unresolved = true ↔
    0 < a.counter ∧ ∀ r, a.bko.active = some r → r.count ≠ a.counter := by
  unfold Atg.unresolved
  cases ha : a.bko.active with
  | none => simp
  | some r => simp

/-- The lock state as store-ready leaves it (R2, R86). -/
def State.finalLock (s : State) : LockState :=
  if s.stc.cells.startJournal.phase ≠ .idle ∨ s.stc.cells.startCfg.W ≤ s.stc.cells.startCounter then .erasing
  else s.readLock

/-! ### The stages of a store-ready event -/

/-- The states of a store-ready event taken in `s`: the store `q` after the repairs, `e` after the evaluation and the resumed
erasure, and `t` at the end. -/
structure State.ReadyBy (s : State) (q : Stc) (e t : State) : Prop where
  start : s.lkc = Lkc.start
  store : s.stc.readIn.Moved (fun _ => False) q
  att : s.stc.cells.readAtt = none → ∃ x, q.carries x ∧ x.write = .att s.stc.cells.startCounter
  cfgw : s.stc.cells.readCfg = none → settingsCount s.stc.queue < 5 → s.stc.reserve = [] →
    ∃ x, q.carries x ∧ x.write = .cfg s.stc.cells.startCfg
  starts : ({ s.asRead with stc := q } : State).StartsIn s.readLock
  result : e = ({ s.asRead with stc := q } : State).evaluate.resumeIf (s.stc.cells.startJournal.phase != .idle)
  evaluated : ({ s.asRead with stc := q } : State).Evaluated s.finalLock e
  readied : e.Readied t

section
variable {s e t : State} {q : Stc}

/-- The evaluation by its rows, the resumed erasure included (R86, R155). -/
theorem State.StartsIn.evaluated {b : State} {l : LockState} (h : b.StartsIn l) :
    b.Evaluated (if b.ere.journal.phase ≠ .idle ∨ b.stc.cfg.W ≤ b.atg.counter then .erasing else l)
      (b.evaluate.resumeIf (b.ere.journal.phase != .idle)) := by
  by_cases hp : b.ere.journal.phase = .idle
  · have hresult : b.evaluate.resumeIf (b.ere.journal.phase != .idle) = b.evaluate := if_neg (by simp [hp])
    rw [hresult]
    by_cases hW : b.stc.cfg.W ≤ b.atg.counter
    · rw [if_pos (.inr hW)]
      exact (State.evaluated_wipes h hp hW).1
    · rw [if_neg (not_or.mpr ⟨not_not.mpr hp, hW⟩)]
      have hlt := Nat.not_le.mp hW
      by_cases hF : b.stc.cfg.F < b.atg.counter
      · by_cases hrun : b.atg.bko.resumeAt b.atg.counter < backoffPreset b.stc.cfg b.atg.counter
        · exact (State.evaluated_runs h hp hlt hF hrun).1
        · exact (State.evaluated_ends h hp hlt hF (Nat.not_lt.mp hrun)).1
      · exact (State.evaluated_frees h hp hlt (Nat.not_lt.mp hF)).1
  · have hresult : b.evaluate.resumeIf (b.ere.journal.phase != .idle) = b.evaluate.resumeErase := if_pos (by simpa using hp)
    rw [hresult, if_pos (.inl hp)]
    exact (State.evaluated_resumes h hp).1

/-- Store-ready leaves no drive unlocked (R2). -/
theorem State.finalLock_not_unlocked (s : State) (he : e.lkc.lockState = some s.finalLock) : ¬ e.unlocked := by
  obtain ⟨hpending, hopened⟩ := startLockState_not_unlocked s.stc.cells.startJournal s.stc.cells.startSlots
  unfold State.unlocked
  rw [he]
  unfold State.finalLock
  split
  · simp
  · rw [Option.some.injEq, Option.some.injEq, not_or]
    exact ⟨hpending, hopened⟩

/-- A store-ready event at a part that has started, by its stages (R1, R24, R170). -/
theorem exec_storeReady (hp : s.powered = true) (hready : s.stc.ready = false) (hlkc : s.lkc = State.reset.lkc)
    (hl : s.stc.lawful) : ∃ q e t, exec .storeReady s = .next t ∧ s.ReadyBy q e t := by
  have hstart : s.lkc = Lkc.start := hlkc
  have hnone : s.lkc.lockState = none := by rw [hstart]; rfl
  obtain ⟨q, hrepair, hmoved, hatt, hcfg⟩ := s.asRead.repairCells_offered
  have hlawful : q.lawful := hmoved.lawful hl
  have hstarts : ({ s.asRead with stc := q } : State).StartsIn s.readLock := by
    refine ⟨?_, rfl, rfl, hlawful, s.stc.cells.startJournal_inRange, fun hne => ?_, fun hidle => ?_⟩
    · change ({ s.lkc with idnFault := s.stc.cells.readIdn.isNone, lockState := some s.readLock } : Lkc) = _
      rw [hstart]
      rfl
    · exact ((startLockState_cases _ _).resolve_right fun h => hne h.1).2
    · exact ((startLockState_cases _ _).resolve_left fun h => h.1 hidle).2
  have hevaluated := hstarts.evaluated
  have hcfgq : q.cfg = s.stc.cells.startCfg := hmoved.cfg
  rw [hcfgq] at hevaluated
  have hevent := exec_event (c := .storeReady) State.storeReadyEvent hp
  rw [State.storeReadyEvent_stages hready hnone, hrepair] at hevent
  refine ⟨q, _, _, hevent, hstart, hmoved, fun h => hatt h hl, hcfg, hstarts, rfl, hevaluated, State.readied _ ?_⟩
  exact State.finalLock_not_unlocked s (congrArg Lkc.lockState hevaluated.lkc)

/-- The port's attachment and capacity as the resumed sweep meets them. -/
theorem State.asRead_media (s : State) (q : Stc) (r : BackoffRecord) (p : Stc) :
    (({ s.asRead with stc := q } : State).withBko r p).mpt.attached = s.mpt.attached ∧
    (({ s.asRead with stc := q } : State).withBko r p).mpt.capacity = s.mpt.capacity := by
  obtain ⟨ha, hc, -⟩ := Mpt.offerOrder_frame s.mpt (.state s.readLock)
  exact ⟨ha, hc⟩

variable (h : s.ReadyBy q e t)
include h

/-! ### The store -/

theorem State.ReadyBy.moved : s.stc.readIn.Moved (fun _ => False) t.stc :=
  (h.store.trans (h.evaluated.store.mono fun _ => False.elim)).trans (h.readied.store.mono fun _ => False.elim)

/-- The repairs' writes stay on their way (R85, R170). -/
theorem State.ReadyBy.repairs {w : CellWrite} (hw : w.cell = .att ∨ w.cell = .cfg)
    (hc : ∃ x, q.carries x ∧ x.write = w) : ∃ x, t.stc.carries x ∧ x.write = w := by
  refine h.readied.store.exists_carries ?_ (h.evaluated.store.exists_carries hw hc)
  rcases hw with hw | hw <;> rw [hw] <;> nofun

/-- The working sequences (R160, R170). -/
theorem State.ReadyBy.sequences {cell : Cell} {read : Byte} (hread : s.stc.cells.readsSequence read cell) :
    t.stc.seq[cell.index] =
      if s.stc.writing = none ∧ t.stc.writing.map (fun w => w.entry.cell) = some cell then read + 1 else read := by
  have hstart : s.stc.readIn.seq[cell.index] = read := Cells.startSeqs_get hread
  rw [h.moved.takes.seq cell, hstart]
  rfl

theorem State.ReadyBy.lawful : e.stc.lawful := h.evaluated.store.lawful h.starts.lawful

/-- A PFW edge that was pending, as the last stage meets it (R183). -/
theorem State.ReadyBy.pfwPending : e.ppt.pfwPending = s.ppt.pfwPending := by
  have hport := congrArg Ppt.pfwPending h.evaluated.port.1
  refine hport.trans ?_
  change s.readPort.pfwPending = _
  unfold State.readPort
  dsimp only
  split <;> rfl

/-- The BKO write (R85, R86, R183). -/
theorem State.ReadyBy.backoffWrite (howed : s.stc.cells.readBko = none ∨ s.stc.cells.startBko.pfwSeen = true ∨
    s.ppt.pfwPending = true ∨ (s.stc.cells.startJournal.phase = .idle ∧
      s.stc.cells.startCounter < s.stc.cells.startCfg.W ∧
      (s.stc.cells.startCfg.F < s.stc.cells.startCounter ∨ s.stc.cells.startBko.active ≠ none))) :
    ∃ x, t.stc.carries x ∧ x.write = .bko t.atg.bko := by
  refine h.readied.sends h.lawful ?_
  by_cases hpending : s.ppt.pfwPending = true
  · exact .inl (h.pfwPending.trans hpending)
  · refine .inr (h.evaluated.owed ?_)
    have hcells : q.cells = s.stc.cells := h.store.cells
    have hcfg : q.cfg = s.stc.cells.startCfg := h.store.cfg
    unfold State.bkoOwed
    dsimp only
    rw [hcells, hcfg]
    rcases howed with hread | hseen | hpfw | hrow
    · exact .inl (by simp [hread])
    · exact .inl (Bool.or_eq_true_iff.mpr (.inl hseen))
    · exact absurd hpfw hpending
    · exact .inr hrow

/-! ### The lock state, its notice, the public keys -/

/-- LKC after store-ready (R2, R24, R101). -/
theorem State.ReadyBy.lkc : ∃ buffer, t.lkc = { Lkc.start with
    lockState := some s.finalLock, idnFault := s.stc.cells.readIdn.isNone, keyBuffer := buffer } := by
  obtain ⟨buffer, hfill⟩ := e.fillPublic_eq
  refine ⟨buffer, h.readied.lkc.trans ?_⟩
  rw [hfill]
  change ({ e.lkc with keyBuffer := buffer } : Lkc) = _
  rw [h.evaluated.lkc]
  change ({ s.lkc with idnFault := s.stc.cells.readIdn.isNone, lockState := some s.finalLock, keyBuffer := buffer } : Lkc) = _
  rw [h.start]

theorem State.ReadyBy.lockState : t.lkc.lockState = some s.finalLock := by
  obtain ⟨buffer, hlkc⟩ := h.lkc
  rw [hlkc]

theorem State.ReadyBy.notice {l : LockState} (hl : t.lkc.lockState = some l) (hout : s.mpt.outbound = []) :
    .state l ∈ t.mpt.outbound := by
  cases h.lockState.symm.trans hl
  rw [h.readied.mpt]
  refine h.evaluated.notice s.readLock ?_ rfl
  change (s.mpt.offerOrder (.state s.readLock)).1.outbound = _
  rw [Mpt.offerOrder_outbound (by rw [hout]; decide), hout]
  rfl

theorem State.ReadyBy.keys_erasing (hl : t.lkc.lockState = some .erasing) : t.lkc.keyBuffer = Vector.replicate 8 none := by
  have hfinal : some s.finalLock = some .erasing := h.lockState.symm.trans hl
  have hlkc := h.evaluated.lkc
  have hfill : e.fillPublic = e := if_pos ((congrArg Lkc.lockState hlkc).trans hfinal)
  rw [h.readied.lkc, hfill, hlkc]
  change s.lkc.keyBuffer = _
  rw [h.start]
  rfl

theorem State.ReadyBy.keys (hl : t.lkc.lockState ≠ some .erasing) (k : RangeIx) :
    t.lkc.keyBuffer[k] = e.publicKey t.rgt.live[k] := by
  have hlkc := h.evaluated.lkc
  have hfill : e.fillPublic = { e with lkc := { e.lkc with keyBuffer := tab8 (fun k => e.publicKey e.rgt.live[k]) } } :=
    if_neg fun he => hl (h.lockState.trans ((congrArg Lkc.lockState hlkc).symm.trans he))
  rw [h.readied.lkc, hfill, h.readied.rgt]
  exact tab8_get _ k

theorem State.ReadyBy.idn : e.stc.idn = s.stc.cells.readIdn ∧ e.lkc.idnFault = s.stc.cells.readIdn.isNone :=
  ⟨h.evaluated.store.idn.trans h.store.idn, congrArg Lkc.idnFault h.evaluated.lkc⟩

/-! ### Flags and start cause -/

theorem State.ReadyBy.flags (f : Flag) (hf : f ∉ [Flag.locked, .enrollFailed, .eraseStarted, .holdoffEnded]) :
    t.ppt.isPending f = true ↔ s.ppt.isPending f = true ∨ (s.stc.cells.startFault = true ∧ f = .storeFault) ∨
      (s.ppt.pfwPending = true ∧ f = .supply) := by
  rw [h.readied.flags f, h.evaluated.port.2 f hf, h.pfwPending,
    show ({ s.asRead with stc := q } : State).ppt.isPending f = _ from s.readPort_isPending f]
  simp [or_assoc]

theorem State.ReadyBy.started :
    t.ppt.isPending .eraseStarted = true ↔ s.ppt.isPending .eraseStarted = true ∨ t.lkc.lockState = some .erasing := by
  rw [h.readied.flags, h.lockState, Option.some.injEq]
  have hstarted := h.evaluated.started
  rw [show ({ s.asRead with stc := q } : State).ppt.isPending .eraseStarted = _ from s.readPort_isPending .eraseStarted]
    at hstarted
  simpa using hstarted

theorem State.ReadyBy.cause : t.ppt.startCause =
    if s.ppt.startCause = .supply ∧ s.stc.cells.startBko.pfwSeen = true then .supplyAfterPfw else s.ppt.startCause := by
  have hport := congrArg Ppt.startCause h.evaluated.port.1
  exact h.readied.cause.trans hport

theorem State.ReadyBy.unresolved : t.ppt.unresolved = true ↔ s.stc.cells.startJournal.phase = .idle ∧
    0 < s.stc.cells.startCounter ∧ ∀ a, s.stc.cells.startBko.active = some a → a.count ≠ s.stc.cells.startCounter := by
  have hport := congrArg Ppt.unresolved h.evaluated.port.1
  have hread : t.ppt.unresolved = s.readPort.unresolved := h.readied.unresolved.trans hport
  rw [hread]
  unfold State.readPort
  dsimp only
  rw [Bool.and_eq_true, decide_eq_true_eq, Atg.unresolved_iff]

/-! ### The tables -/

theorem State.ReadyBy.slots (hp : s.stc.cells.startJournal.phase ≠ .zeroise) (k : SlotIx) :
    t.slt.slots[k] = (s.stc.cells.readSlt k).getD .empty := by
  rw [h.readied.slots, h.evaluated.slots hp]
  exact s.stc.cells.startSlots_get k

theorem State.ReadyBy.ranges (hp : s.stc.cells.startJournal.phase ≠ .ranges) :
    t.rgt = { live := s.stc.cells.startLive, staged := s.stc.cells.startLive, dirty := false } :=
  h.readied.rgt.trans (h.evaluated.ranges hp)

/-! ### The evaluation -/

theorem State.ReadyBy.result_idle (hp : s.stc.cells.startJournal.phase = .idle) :
    e = ({ s.asRead with stc := q } : State).evaluate := h.result.trans (if_neg (by simp [hp]))

theorem State.ReadyBy.result_resumes (hp : s.stc.cells.startJournal.phase ≠ .idle) :
    ∃ r p, e = (({ s.asRead with stc := q } : State).withBko r p).resumeErase := by
  obtain ⟨p, heval, -⟩ := State.evaluate_resumes_offered (b := { s.asRead with stc := q }) hp
  exact ⟨_, p, (h.result.trans (if_pos (by simpa using hp))).trans (by rw [heval])⟩

theorem State.ReadyBy.cfg : q.cfg = s.stc.cells.startCfg := h.store.cfg

theorem State.ReadyBy.timer_resumes (hp : s.stc.cells.startJournal.phase ≠ .idle) : t.atg.timer = s.atg.timer := by
  have hresult : e = ({ s.asRead with stc := q } : State).evaluate.resumeErase := h.result.trans (if_pos (by simpa using hp))
  rw [h.readied.timer, hresult]
  exact (State.evaluated_resumes h.starts hp).2

theorem State.ReadyBy.wipes (hp : s.stc.cells.startJournal.phase = .idle)
    (hW : s.stc.cells.startCfg.W ≤ s.stc.cells.startCounter) :
    t.atg.timer = none ∧ t.atg.bko.active = none ∧ t.ere.awaited = some .ejr ∧ t.ere.journal = .at .zeroise 0 ∧
      t.stc.carries { write := .ejr t.ere.journal, awaiter := some .erase } := by
  rw [← h.cfg] at hW
  obtain ⟨-, htimer, hactive, hawaited, hjournal, hcarries⟩ := State.evaluated_wipes h.starts hp hW
  rw [← h.result_idle hp] at htimer hactive hawaited hjournal hcarries
  rw [h.readied.timer, h.readied.active ((Atg.exactRecord_none hactive).trans hactive.symm), h.readied.ere, hjournal]
  exact ⟨htimer, hactive, hawaited, rfl, h.readied.store.carries _ nofun hcarries⟩

theorem State.ReadyBy.runs (hp : s.stc.cells.startJournal.phase = .idle)
    (hF : s.stc.cells.startCfg.F < s.stc.cells.startCounter) (hW : s.stc.cells.startCounter < s.stc.cells.startCfg.W)
    {x : Nat} (hx : x = s.stc.cells.startBko.resumeAt s.stc.cells.startCounter) :
    (x < backoffPreset s.stc.cells.startCfg s.stc.cells.startCounter → t.enu.state = .holdoff ∧
      t.atg.timer = some { elapsed := x, preset := backoffPreset s.stc.cells.startCfg s.stc.cells.startCounter,
                           phase := 0, checkpointed := x - x % 100 } ∧
      t.atg.bko.active = some { count := s.stc.cells.startCounter, elapsed := x }) ∧
    (backoffPreset s.stc.cells.startCfg s.stc.cells.startCounter ≤ x → t.enu.state = .idle ∧ t.atg.timer = none ∧
      t.atg.bko.active = none ∧ t.ppt.isPending .holdoffEnded = true) := by
  subst hx
  rw [← h.cfg] at hF hW ⊢
  refine ⟨fun hlt => ?_, fun hle => ?_⟩
  · obtain ⟨-, hunit, htimer, hactive⟩ := State.evaluated_runs h.starts hp hW hF hlt
    rw [← h.result_idle hp] at hunit htimer hactive
    rw [h.readied.unit, h.readied.timer,
      h.readied.active ((Atg.exactRecord_of hactive htimer).trans hactive.symm)]
    exact ⟨hunit, htimer, hactive⟩
  · obtain ⟨-, hunit, htimer, hactive, hended⟩ := State.evaluated_ends h.starts hp hW hF hle
    rw [← h.result_idle hp] at hunit htimer hactive hended
    rw [h.readied.unit, h.readied.timer, h.readied.active ((Atg.exactRecord_none hactive).trans hactive.symm),
      h.readied.flags, hended]
    exact ⟨hunit, htimer, hactive, rfl⟩

theorem State.ReadyBy.frees (hp : s.stc.cells.startJournal.phase = .idle)
    (hF : s.stc.cells.startCounter ≤ s.stc.cells.startCfg.F) (hW : s.stc.cells.startCounter < s.stc.cells.startCfg.W) :
    t.atg.timer = s.atg.timer ∧ t.atg.bko.active = none ∧ t.enu.state = s.enu.state := by
  rw [← h.cfg] at hF hW
  obtain ⟨-, htimer, hactive, hunit⟩ := State.evaluated_frees h.starts hp hW hF
  rw [← h.result_idle hp] at htimer hactive hunit
  rw [h.readied.unit, h.readied.timer, h.readied.active ((Atg.exactRecord_none hactive).trans hactive.symm)]
  exact ⟨htimer, hactive, congrArg Enu.state hunit⟩

/-! ### The resumed step -/

theorem State.ReadyBy.zeroises {k : SlotIx} (hp : s.stc.cells.startJournal.phase = .zeroise)
    (hk : s.stc.cells.startJournal.next = some k.val) : t.slt.slots[k] = .empty ∧
      t.ere.journal = s.stc.cells.startJournal ∧ t.ere.awaited = some (.slt k) ∧
      t.stc.owes { write := .slt k .empty, awaiter := some .erase } ∧
      ∀ i : SlotIx, i ≠ k → t.slt.slots[i] = (s.stc.cells.readSlt i).getD .empty := by
  obtain ⟨r, p, he⟩ := h.result_resumes (by rw [hp]; nofun)
  obtain ⟨-, hslt, here, howes⟩ := State.resumes_zeroise (b := ({ s.asRead with stc := q } : State).withBko r p) hp hk
  rw [← he] at hslt here howes
  rw [h.readied.slots, h.readied.ere, hslt, here,
    h.readied.owes { write := .slt k .empty, awaiter := some .erase } nofun]
  dsimp only
  refine ⟨by rw [getElem_set_fin, if_pos rfl], rfl, rfl, howes, fun i hi => ?_⟩
  rw [getElem_set_fin, if_neg (Ne.symm hi)]
  exact s.stc.cells.startSlots_get i

theorem State.ReadyBy.rewrites {k : RangeIx} (hp : s.stc.cells.startJournal.phase = .ranges)
    (hk : s.stc.cells.startJournal.next = some k.val) : t.ere.journal = s.stc.cells.startJournal ∧
      t.ere.awaited = some (.rng k) ∧ t.stc.owes { write := .rng k (.factory k), awaiter := some .erase } ∧
      t.rgt = { live := s.stc.cells.startLive.set k (.factory k), staged := s.stc.cells.startLive.set k (.factory k),
                dirty := false } := by
  obtain ⟨r, p, he⟩ := h.result_resumes (by rw [hp]; nofun)
  obtain ⟨-, hrgt, here, howes⟩ := State.resumes_ranges (b := ({ s.asRead with stc := q } : State).withBko r p) hp hk
  rw [← he] at hrgt here howes
  rw [show (({ s.asRead with stc := q } : State).withBko r p).rgt = Rgt.mk s.stc.cells.startLive s.stc.cells.startLive false
    from rfl] at hrgt
  have hjournal := congrArg Ere.journal (h.readied.ere.trans here)
  have hawaited := congrArg Ere.awaited (h.readied.ere.trans here)
  refine ⟨hjournal, hawaited, ?_, by rw [h.readied.rgt, hrgt]⟩
  exact (h.readied.owes { write := .rng k (.factory k), awaiter := some .erase } nofun).mpr howes

theorem State.ReadyBy.pauses (hp : s.stc.cells.startJournal.phase = .sweep) (hoff : s.mpt.attached = false) :
    t.ere = { s.ere with journal := s.stc.cells.startJournal, sweepState := some .paused } := by
  obtain ⟨r, p, he⟩ := h.result_resumes (by rw [hp]; nofun)
  obtain ⟨-, here⟩ := State.resumes_paused (b := ({ s.asRead with stc := q } : State).withBko r p) hp
    ((s.asRead_media q r p).1.trans hoff)
  rw [← he] at here
  exact h.readied.ere.trans here

theorem State.ReadyBy.orders {cursor last : Lba} (hp : s.stc.cells.startJournal.phase = .sweep)
    (hon : s.mpt.attached = true) (hc : s.stc.cells.startJournal.cursor = some cursor)
    (hlast : s.stc.cells.startJournal.sweepEnd = some last) : t.ere = { s.ere with
      journal := s.stc.cells.startJournal, sweepState := some .ordered, retry := 1,
      order := some { start := cursor, count := min 32768 (last.toNat + 1 - cursor.toNat) },
      sweepOwed := t.ere.sweepOwed } := by
  obtain ⟨r, p, he⟩ := h.result_resumes (by rw [hp]; nofun)
  obtain ⟨-, owed, here⟩ := State.resumes_ordered (b := ({ s.asRead with stc := q } : State).withBko r p) hp
    ((s.asRead_media q r p).1.trans hon) hc hlast
  rw [← he] at here
  rw [h.readied.ere, here]
  rfl

theorem State.ReadyBy.records (hp : s.stc.cells.startJournal.phase = .sweep) (hon : s.mpt.attached = true)
    (hc : s.stc.cells.startJournal.cursor = none) {capacity : BitVec 64} (hcap : s.mpt.capacity = some capacity) :
    t.ere.awaited = some .ejr ∧ t.stc.carries { write := .ejr t.ere.journal, awaiter := some .erase } ∧
      t.ere.journal = if capacity = 0 then
          { phase := .idle, next := none, cursor := none, sweepEnd := none, incomplete := false }
        else { phase := .sweep, next := none, cursor := some 0,
               sweepEnd := some (BitVec.ofNat 32 (min capacity.toNat 4294967296 - 1)), incomplete := false } := by
  have hne : s.stc.cells.startJournal.phase ≠ .idle := by rw [hp]; nofun
  obtain ⟨p, heval, hmoved, -⟩ := State.evaluate_resumes_offered (b := { s.asRead with stc := q }) hne
  have he := (h.result.trans (if_pos (by simpa using hne))).trans (congrArg State.resumeErase heval)
  obtain ⟨j, d, x, hresult, hoffered, hj⟩ := State.resumes_recording
    (b := ({ s.asRead with stc := q } : State).withBko _ p) hp ((s.asRead_media q _ p).1.trans hon) (.inl hc)
  rw [(s.asRead_media q _ p).2, hcap, Option.getD_some] at hj
  rw [h.readied.ere, he, hresult]
  refine ⟨rfl, ?_, hj⟩
  refine h.readied.store.carries _ nofun ?_
  rw [he, hresult]
  exact (hoffered.sends (hmoved.lawful h.starts.lawful)).awaited

end

end Sys2Proof.Machine
end

section
/-! O51: what store-ready determines. -/

namespace Sys2Proof.Machine

set_option Elab.async false

section
variable {s e t : State} {q : Stc}

/-- The lock state by the journal, the counter and the slots (R2, R86). -/
theorem State.finalLock_eq (s : State) : s.finalLock =
    if s.stc.cells.startJournal.phase ≠ .idle ∨ s.stc.cells.startCfg.W ≤ s.stc.cells.startCounter then .erasing
    else if ∀ k : SlotIx, (s.stc.cells.readSlt k).getD .empty = .empty then .blank else .locked := by
  unfold State.finalLock
  by_cases hwiped : s.stc.cells.startJournal.phase ≠ .idle ∨ s.stc.cells.startCfg.W ≤ s.stc.cells.startCounter
  · rw [if_pos hwiped, if_pos hwiped]
  · rw [if_neg hwiped, if_neg hwiped]
    exact (startLockState_eq s.stc.cells).trans (if_neg (not_or.mp hwiped).1)

/-- W is above F, the settings being in range (R90). -/
theorem Cells.startCfg_pair (c : Cells) : c.startCfg.F + 2 ≤ c.startCfg.W :=
  ((Settings.inRange_iff_fields _).mp c.startCfg_inRange).2

variable (h : s.ReadyBy q e t)
include h

/-- The PFW-seen mark is that of an edge that was pending (R86, R183). -/
theorem State.ReadyBy.pfwSeen : t.atg.bko.pfwSeen = s.ppt.pfwPending := by
  rw [h.readied.bko, h.pfwPending]
  cases s.ppt.pfwPending with
  | true => rfl
  | false => exact h.evaluated.seen

theorem State.ReadyBy.keys_unwrap (hl : t.lkc.lockState ≠ some .erasing) (k : RangeIx) {d : RangeDef} {w : Wrapped}
    {id : Identity} (hk : t.rgt.live[k] = .defined d) (hd : d.cls = .pub) (hw : d.wrapped = some w)
    (hid : s.stc.cells.readIdn = some id) :
    t.lkc.keyBuffer[k] = (unwrapKey w id.deviceKey).map (fun key => { key := key, cls := .pub }) := by
  obtain ⟨hidn, hfault⟩ := h.idn
  rw [h.keys hl k, hk]
  exact RangeRecord.publicKey_unwraps hd hw (by rw [hfault, hid]; rfl) (hidn.trans hid)

theorem State.ReadyBy.keys_none (hl : t.lkc.lockState ≠ some .erasing) (k : RangeIx)
    (hk : t.rgt.live[k] = .unused ∨ t.rgt.live[k].isClosed = true ∨ s.stc.cells.readIdn = none) :
    t.lkc.keyBuffer[k] = none := by
  rw [h.keys hl k]
  exact RangeRecord.publicKey_none (hk.imp_right (Or.imp_right fun hnone => by rw [h.idn.2, hnone]; rfl))

end

/-- Settles O51: the event is taken apart into its stages, the repairs, the evaluation with the resumed erasure, and the
public keys with a pending edge, and each clause is read from the stage that determines it. -/
theorem storeReadyDetermines : Obligations.StoreReadyDetermines := by
  unfold Obligations.StoreReadyDetermines
  intro s c cfg n j active seen hp hready hlkc hl hc hcfg hn hj hactive hseen
  have hcfgc : cfg = c.startCfg := hcfg
  subst hcfgc
  have hnc : n = c.startCounter := hn
  have hjc : j = c.startJournal := hj
  have hac : active = c.startBko.active := hactive.trans c.startBko_active.symm
  have hsc : seen = c.startBko.pfwSeen := hseen.trans c.startBko_pfwSeen.symm
  clear hcfg hn hj hactive hseen
  subst hnc hjc hac hsc hc
  obtain ⟨q, e, t, hexec, h⟩ := exec_storeReady hp hready hlkc hl
  obtain ⟨buffer, hlk⟩ := h.lkc
  refine ⟨t, hexec, h.moved.ready, h.moved.cells, h.moved.cfg, h.moved.idn, h.readied.counter.trans h.evaluated.counter,
    by rw [hlk], by rw [hlk]; rfl, by rw [hlk]; rfl, by rw [hlk]; rfl, by rw [hlk]; rfl, by rw [hlk]; rfl, by rw [hlk]; rfl,
    fun cell read => h.sequences, by rw [h.lockState, s.finalLock_eq], fun l => h.notice, h.slots, fun hne => ?_, h.pfwSeen,
    h.timer_resumes, h.wipes, fun hidle hF hW x hx => h.runs hidle hF hW (hx.trans ?_),
    fun hidle hF => h.frees hidle hF (by have := s.stc.cells.startCfg_pair; omega), h.backoffWrite,
    fun hread => ?_, fun hread hcount hreserve => h.repairs (.inr rfl) (h.cfgw hread hcount hreserve), ?_, h.started, ?_,
    h.cause, h.unresolved, h.keys_erasing, fun hne k => ⟨fun d w id => h.keys_unwrap hne k, h.keys_none hne k⟩,
    fun k => h.zeroises, fun k => h.rewrites, h.pauses, fun hsweep hon cursor last => h.orders hsweep hon,
    fun hsweep hon hnone capacity => h.records hsweep hon hnone⟩
  · have hlive : t.rgt.live = s.stc.cells.startLive := by rw [h.ranges hne]
    refine ⟨by rw [h.ranges hne], by rw [h.ranges hne], fun k => ?_⟩
    rw [hlive]
    exact s.stc.cells.startLive_get k
  · unfold BackoffRecord.resumeAt
    rfl
  · obtain ⟨x, hcarries, hw⟩ := h.repairs (.inl rfl) (h.att hread)
    have hcounter : s.stc.cells.startCounter = s.stc.cells.startCfg.F + 1 := by
      unfold Cells.startCounter
      rw [hread]
      rfl
    exact ⟨x, hcarries, hw.trans (congrArg CellWrite.att hcounter)⟩
  · rw [h.flags .storeFault (by decide), ← s.stc.cells.startFault_iff]
    simp
  · rw [h.flags .supply (by decide)]
    simp

end Sys2Proof.Machine
end
